-- ==== Sys2Proof/Word.lean ====
section
/-! DEFINITION. Bytes, index types, and tables of fixed length (a vector read and written by a bounded index). -/

namespace Sys2Proof

/-- One byte. Bit 0 is its least significant bit (chapter 11). -/
abbrev Byte := BitVec 8

/-- A terminal number as frames and requests carry it (Table 11-1). -/
abbrev TermNo := BitVec 16

/-- A head number, 0 to 11 (00_scope 5.3). -/
abbrev HeadIx := Fin 12

/-- A Terminal Table slot, 0 to 255 (00_scope 5.3). -/
abbrev SlotIx := Fin 256

/-- A segment, 0 to 47 (00_scope 5.3). -/
abbrev SegIx := Fin 48

/-- A Reefer Table index, 0 to 2047 (00_scope 5.3). -/
abbrev ReeferIx := Fin 2048

/-- A band class, 0 to 3 (Table 8-5). -/
abbrev BandIx := Fin 4

variable {α β : Type} {n : Nat}

/-- The element of a table at an index. -/
def look (v : Vector α n) (i : Fin n) : α := v[i.val]

/-- A table with one element replaced. -/
def put (v : Vector α n) (i : Fin n) (x : α) : Vector α n := v.set i.val x

/-- The table whose element at each index is given by a function. -/
def tabulate (f : Fin n → α) : Vector α n := ⟨(List.ofFn f).toArray, by simp⟩

/-- A table with every element changed by a function. -/
def mapTab (f : α → β) (v : Vector α n) : Vector β n := ⟨(v.toList.map f).toArray, by simp⟩

/-- The lowest index whose element satisfies a test. -/
def findIx (p : α → Bool) (v : Vector α n) : Option (Fin n) :=
  match v.toList.findIdx? p with
  | some i => if h : i < n then some ⟨i, h⟩ else none
  | none => none

/-- How many elements of a table satisfy a test. -/
def countTab (p : α → Bool) (v : Vector α n) : Nat := v.toList.countP p

/-- The index a number names, if it lies in range. -/
def ix? (n k : Nat) : Option (Fin n) := if h : k < n then some ⟨k, h⟩ else none

end Sys2Proof
end

