-- ==== Sys2Proof/Syntax.lean ====
section
/-! DEFINITION. The commands: one constructor of Instr for each row of spec/opcode_table.json, with its operands. -/

namespace Sys2Proof

/-- The class of a terminal (Table 1-1). -/
inductive TermClass where
  | crane | vehicle | gateway | other
deriving DecidableEq, Repr

/-- The selector of TERM_REMOVE and TERM_READ (R7). -/
inductive TermSel where
  | slot | number
deriving DecidableEq, Repr

/-- The selector of REEFER_REMOVE and REEFER_READ (R140). -/
inductive ReeferSel where
  | tag | index
deriving DecidableEq, Repr

/-- The kind of a head restart (Table 2-3). -/
inductive RestartKind where
  | cold | warm
deriving DecidableEq, Repr

/-- The state of a reefer entry (Table 8-6). -/
inductive ReeferState where
  | unheard | active | alarm | silent | unplugged
deriving DecidableEq, Repr

/-- The kind of a berth frame (Table 11-2). -/
inductive FrameKind where
  | crane | user | meas | batch | headstat | echo | headctl | mgmt | reply | notice | exportBatch
deriving DecidableEq, Repr

/-- The global parameters (Table 10-3). -/
inductive ParamId where
  | hysteresis | probeLimit | holdoff | strayLimit | bicastTimeout | craneWatchdog | craneMargin
  | thinMargin | loopDivider | coveragePeriod | minSamples | penaltyEnable | penaltyWeight
  | headSilence | restartTimeout | gatewaySilence | reeferSilence | autoLearn | batchLimit
  | flushInterval
deriving DecidableEq, Repr

/-- The counter groups (Table 10-5). -/
inductive Group where
  | head | classifier | trunk | crane | handover | coverage | loop | reefer | exportGroup | management
deriving DecidableEq, Repr

/-- What every MGMT frame carries: its destination node and its request tag (10.1, 11.5). -/
structure Hdr where
  dest : Byte
  tag : Byte
deriving DecidableEq, Repr

/-- A CRANE or USER frame: its header fields, less the kind, the version and the length, which the
command fixes, and its payload (Table 11-1). -/
structure BerthFrame where
  flags : Byte
  headIndex : Byte
  terminal : TermNo
  seq : BitVec 16
  payload : List Byte
deriving DecidableEq, Repr

/-- One quality entry of a measurement report, as received (Table 11-3). -/
structure MeasEntry where
  head : Byte
  quality : BitVec 16
deriving DecidableEq, Repr

/-- Parameters of SET_PARAM: none for an identifier outside Table 10-3. -/
structure SetParamP where
  id : Option ParamId
  value : BitVec 32
deriving DecidableEq, Repr

/-- Parameters of TERM_LOAD: none for a class code outside Table 11-8. -/
structure TermLoadP where
  slot : Byte
  number : TermNo
  cls : Option TermClass
deriving DecidableEq, Repr

/-- Parameters of TERM_REMOVE and TERM_READ. -/
structure TermSelP where
  sel : Option TermSel
  value : BitVec 16
deriving DecidableEq, Repr

/-- Parameters of CRANE_DORMANT: the setting is ON (true) or OFF (false). -/
structure CraneDormantP where
  slot : BitVec 16
  setting : Option Bool
deriving DecidableEq, Repr

/-- Parameters of HEAD_LOAD, in the widths of Table 11-8. -/
structure HeadLoadP where
  head : Byte
  enabled : Option Bool
  winFirst : Byte
  winLast : Byte
  trim : Byte
  baseTarget : BitVec 16
  pMin : Byte
  pMax : Byte
  initial : Byte
  kp : BitVec 16
  ki : BitVec 16
  kd : BitVec 16
  slew : Byte
  guardLimit : Byte
  guardCount : Byte
  autoRestore : Option Bool
  alarmMask : Byte
  alarmSense : Byte
deriving DecidableEq, Repr

/-- Parameters of HEAD_RESTART. -/
structure HeadRestartP where
  head : Byte
  kind : Option RestartKind
deriving DecidableEq, Repr

/-- Parameters of HEAD_LOOPTEST: a pattern of 16 bytes (R36). -/
structure LoopTestP where
  head : Byte
  pattern : Vector Byte 16
deriving DecidableEq, Repr

/-- Parameters of CELL_READ. -/
structure CellReadP where
  head : Byte
  first : Byte
  last : Byte
deriving DecidableEq, Repr

/-- Parameters of SEG_READ. -/
structure SegReadP where
  first : Byte
  last : Byte
deriving DecidableEq, Repr

/-- Parameters of REEFER_REGISTER. -/
structure ReeferRegP where
  tag : BitVec 24
  cls : Byte
deriving DecidableEq, Repr

/-- Parameters of REEFER_REMOVE and REEFER_READ. -/
structure ReeferSelP where
  sel : Option ReeferSel
  value : BitVec 24
deriving DecidableEq, Repr

/-- Parameters of REEFER_PURGE: none for a state code outside Table 11-7. -/
structure PurgeP where
  state : Option ReeferState
  minAge : BitVec 32
deriving DecidableEq, Repr

/-- Parameters of BAND_LOAD. -/
structure BandP where
  cls : Byte
  lower : Byte
  upper : Byte
  persistence : Byte
  deadband : Byte
  refresh : Byte
deriving DecidableEq, Repr

/-- Parameters of COUNTERS_READ: none for a group or an option outside the codes. -/
structure CountersP where
  group : Option Group
  clear : Option Bool
deriving DecidableEq, Repr

/-- The commands. A request's parameters are absent (`none`) where its payload ends before the last
parameter is complete (R170); for HEAD_LOOPTEST also where the pattern is not 16 bytes. -/
inductive Instr where
  | ident (h : Hdr)
  | start (h : Hdr)
  | stop (h : Hdr)
  | softReset (h : Hdr)
  | setParam (h : Hdr) (p : Option SetParamP)
  | getParam (h : Hdr) (p : Option (Option ParamId))
  | termLoad (h : Hdr) (p : Option TermLoadP)
  | termRemove (h : Hdr) (p : Option TermSelP)
  | termRead (h : Hdr) (p : Option TermSelP)
  | craneDormant (h : Hdr) (p : Option CraneDormantP)
  | headLoad (h : Hdr) (p : Option HeadLoadP)
  | headRead (h : Hdr) (p : Option Byte)
  | headRestart (h : Hdr) (p : Option HeadRestartP)
  | headLooptest (h : Hdr) (p : Option LoopTestP)
  | guardRelease (h : Hdr) (p : Option Byte)
  | cellRead (h : Hdr) (p : Option CellReadP)
  | segRead (h : Hdr) (p : Option SegReadP)
  | reeferRegister (h : Hdr) (p : Option ReeferRegP)
  | reeferRemove (h : Hdr) (p : Option ReeferSelP)
  | reeferRead (h : Hdr) (p : Option ReeferSelP)
  | reeferPurge (h : Hdr) (p : Option PurgeP)
  | bandLoad (h : Hdr) (p : Option BandP)
  | countersRead (h : Hdr) (p : Option CountersP)
  | noticeMask (h : Hdr) (p : Option (BitVec 32))
  | noticeSummary (h : Hdr)
  | badRequest (h : Hdr) (code : Byte)
  | otherNode (dest : Byte)
  | headstat (head : HeadIx) (noise : Byte) (flags : Byte) (uptime : BitVec 32)
  | echo (head : HeadIx) (bytes : Vector Byte 16)
  | uplinkCrane (head : HeadIx) (f : BerthFrame)
  | uplinkUser (head : HeadIx) (f : BerthFrame)
  | meas (head : HeadIx) (terminal : TermNo) (segment : Byte) (entries : List MeasEntry)
  | batch (head : HeadIx) (terminal : TermNo) (payload : List Byte)
  | mgmtOnHead (head : HeadIx)
  | ulWrongKind (head : HeadIx) (kind : FrameKind)
  | rxDamaged (head : HeadIx)
  | downlinkCrane (f : BerthFrame)
  | downlinkUser (f : BerthFrame)
  | trunkWrongKind (kind : FrameKind)
  | trunkDamaged
  | headLinkUp (head : HeadIx)
  | headLinkDown (head : HeadIx)
  | trunkLinkUp
  | trunkLinkDown
  | headSilenceExpiry (head : HeadIx)
  | pulseEnd (head : HeadIx)
  | blankingEnd (head : HeadIx)
  | restartDeadlineExpiry (head : HeadIx)
  | loopTestDeadlineExpiry (head : HeadIx)
  | craneWatchdogExpiry (slot : SlotIx)
  | bicastDeadlineExpiry (slot : SlotIx)
  | coveragePeriodExpiry
  | gatewaySilenceExpiry (slot : SlotIx)
  | reeferSilenceExpiry (index : ReeferIx)
  | flushDeadlineExpiry
  | purgeWalkVisit
  | headEgressService (head : HeadIx)
  | trunkGrant
  | hardReset
  | resetRelease (straps : BitVec 6)
deriving DecidableEq, Repr

end Sys2Proof
end

