-- ==== Sys2Proof/WellFormed.lean ====
section
/-! DEFINITION. Which commands a link frame can stand for: the frame checks of R168, the kinds of R44 and R50, the addresses of R154 and R155. -/

namespace Sys2Proof

/-- A CRANE or USER payload holds at most 1,400 bytes (Table 11-2). -/
def BerthFrame.fits (f : BerthFrame) : Bool := decide (f.payload.length ≤ 1400)

/-- The kinds the part originates, which a head may not send (R44). -/
def FrameKind.isOriginated : FrameKind → Bool
  | .headctl | .reply | .notice | .exportBatch => true
  | _ => false

/-- The kinds that do not belong on the trunk link (R50). -/
def FrameKind.isTrunkWrong : FrameKind → Bool
  | .mgmt | .crane | .user => false
  | _ => true

/-- The checks of a command: payload sizes (R168), kinds (R44, R50), request codes (R155) and addresses (R154). -/
def WellFormed : Instr → Bool
  | .uplinkCrane _ f | .uplinkUser _ f | .downlinkCrane f | .downlinkUser f => f.fits
  | .meas _ _ _ es => decide (1 ≤ es.length) && decide (es.length ≤ 4)
  | .batch _ _ b => decide (4 ≤ b.length) && decide (b.length ≤ 360)
  | .ulWrongKind _ k => k.isOriginated
  | .trunkWrongKind k => k.isTrunkWrong
  | .badRequest _ code => decide (code.toNat = 0) || decide (25 < code.toNat)
  | .otherNode dest => decide (dest ≠ 255)
  | _ => true

end Sys2Proof
end

