-- ==== Sys2Proof/Decode.lean ====
section
/-! DEFINITION. From bits to commands: the table's words (no row has bits), the codes and layouts of chapter 11, the frame checks of R168, the reading of request parameters (R170), and the encoder of the frames that stand for a command. -/

namespace Sys2Proof

/-- The command a word spells by the table's bits. spec/opcode_table.json gives no row any bits, so no
word spells a command (log 16). -/
def decodeTableWord (_nbits _w : Nat) : Option Instr := none

/-! ## Codes (11.1, 11.3, 11.5) -/

/-- Table 11-2. -/
def FrameKind.code : FrameKind → Byte
  | .crane => 1
  | .user => 2
  | .meas => 3
  | .batch => 4
  | .headstat => 5
  | .echo => 6
  | .headctl => 7
  | .mgmt => 8
  | .reply => 9
  | .notice => 10
  | .exportBatch => 11

/-- Table 11-2. -/
def FrameKind.ofCode (b : Byte) : Option FrameKind :=
  match b.toNat with
  | 1 => some .crane
  | 2 => some .user
  | 3 => some .meas
  | 4 => some .batch
  | 5 => some .headstat
  | 6 => some .echo
  | 7 => some .headctl
  | 8 => some .mgmt
  | 9 => some .reply
  | 10 => some .notice
  | 11 => some .exportBatch
  | _ => none

/-- The payload lengths accepted (Table 11-2). -/
def FrameKind.lengthOk (k : FrameKind) (n : Nat) : Bool :=
  match k with
  | .crane | .user => decide (n ≤ 1400)
  | .meas => decide (n = 5) || decide (n = 8) || decide (n = 11) || decide (n = 14)
  | .batch => decide (4 ≤ n) && decide (n ≤ 360)
  | .headstat => decide (n = 6)
  | .echo => decide (n = 16)
  | .headctl => decide (2 ≤ n) && decide (n ≤ 17)
  | .mgmt => decide (4 ≤ n) && decide (n ≤ 64)
  | .reply => decide (4 ≤ n) && decide (n ≤ 1024)
  | .notice => decide (n = 12)
  | .exportBatch => decide (22 ≤ n) && decide (n ≤ 482)

/-- A yes/no parameter is coded 1 for yes and 2 for no (11.5). -/
def yesNoCode (b : Bool) : Byte := if b then 1 else 2

/-- 11.5, R170: any other value is structurally wrong. -/
def yesNoOf (b : Byte) : Option Bool :=
  match b.toNat with
  | 1 => some true
  | 2 => some false
  | _ => none

/-- Table 11-8, TERM_LOAD. -/
def TermClass.code : TermClass → Byte
  | .crane => 1
  | .vehicle => 2
  | .gateway => 3
  | .other => 4

/-- Table 11-8, TERM_LOAD. -/
def TermClass.ofCode (b : Byte) : Option TermClass :=
  match b.toNat with
  | 1 => some .crane
  | 2 => some .vehicle
  | 3 => some .gateway
  | 4 => some .other
  | _ => none

/-- Table 11-8, TERM_REMOVE. -/
def TermSel.code : TermSel → Byte
  | .slot => 1
  | .number => 2

/-- Table 11-8, TERM_REMOVE. -/
def TermSel.ofCode (b : Byte) : Option TermSel :=
  match b.toNat with
  | 1 => some .slot
  | 2 => some .number
  | _ => none

/-- Table 11-8, REEFER_REMOVE. -/
def ReeferSel.code : ReeferSel → Byte
  | .tag => 1
  | .index => 2

/-- Table 11-8, REEFER_REMOVE. -/
def ReeferSel.ofCode (b : Byte) : Option ReeferSel :=
  match b.toNat with
  | 1 => some .tag
  | 2 => some .index
  | _ => none

/-- Table 11-8, HEAD_RESTART; R170. -/
def RestartKind.code : RestartKind → Byte
  | .cold => 1
  | .warm => 2

/-- Table 11-8, HEAD_RESTART. -/
def RestartKind.ofCode (b : Byte) : Option RestartKind :=
  match b.toNat with
  | 1 => some .cold
  | 2 => some .warm
  | _ => none

/-- Table 11-7. -/
def ReeferState.code : ReeferState → Byte
  | .unheard => 1
  | .active => 2
  | .alarm => 3
  | .silent => 4
  | .unplugged => 5

/-- Table 11-7. -/
def ReeferState.ofCode (b : Byte) : Option ReeferState :=
  match b.toNat with
  | 1 => some .unheard
  | 2 => some .active
  | 3 => some .alarm
  | 4 => some .silent
  | 5 => some .unplugged
  | _ => none

/-- The identifiers 1 to 20, in the order of Table 10-3 (11.5). -/
def ParamId.code : ParamId → Byte
  | .hysteresis => 1
  | .probeLimit => 2
  | .holdoff => 3
  | .strayLimit => 4
  | .bicastTimeout => 5
  | .craneWatchdog => 6
  | .craneMargin => 7
  | .thinMargin => 8
  | .loopDivider => 9
  | .coveragePeriod => 10
  | .minSamples => 11
  | .penaltyEnable => 12
  | .penaltyWeight => 13
  | .headSilence => 14
  | .restartTimeout => 15
  | .gatewaySilence => 16
  | .reeferSilence => 17
  | .autoLearn => 18
  | .batchLimit => 19
  | .flushInterval => 20

/-- The identifiers 1 to 20, in the order of Table 10-3 (11.5). -/
def ParamId.ofCode (b : Byte) : Option ParamId :=
  match b.toNat with
  | 1 => some .hysteresis
  | 2 => some .probeLimit
  | 3 => some .holdoff
  | 4 => some .strayLimit
  | 5 => some .bicastTimeout
  | 6 => some .craneWatchdog
  | 7 => some .craneMargin
  | 8 => some .thinMargin
  | 9 => some .loopDivider
  | 10 => some .coveragePeriod
  | 11 => some .minSamples
  | 12 => some .penaltyEnable
  | 13 => some .penaltyWeight
  | 14 => some .headSilence
  | 15 => some .restartTimeout
  | 16 => some .gatewaySilence
  | 17 => some .reeferSilence
  | 18 => some .autoLearn
  | 19 => some .batchLimit
  | 20 => some .flushInterval
  | _ => none

/-- The groups 1 to 10, in the order of Table 10-5 (Table 11-8). -/
def Group.code : Group → Byte
  | .head => 1
  | .classifier => 2
  | .trunk => 3
  | .crane => 4
  | .handover => 5
  | .coverage => 6
  | .loop => 7
  | .reefer => 8
  | .exportGroup => 9
  | .management => 10

/-- The groups 1 to 10, in the order of Table 10-5 (Table 11-8). -/
def Group.ofCode (b : Byte) : Option Group :=
  match b.toNat with
  | 1 => some .head
  | 2 => some .classifier
  | 3 => some .trunk
  | 4 => some .crane
  | 5 => some .handover
  | 6 => some .coverage
  | 7 => some .loop
  | 8 => some .reefer
  | 9 => some .exportGroup
  | 10 => some .management
  | _ => none

/-- The byte of an optional code: a code outside its table is written 0, which no table holds. -/
def optCode {α : Type} (code : α → Byte) (o : Option α) : Byte :=
  match o with
  | some a => code a
  | none => 0

/-! ## Byte order: most significant byte first (chapter 11) -/

/-- Two bytes, most significant first. -/
def be2 (a b : Byte) : BitVec 16 := a ++ b

/-- Three bytes, most significant first. -/
def be3 (a b c : Byte) : BitVec 24 := a ++ b ++ c

/-- Four bytes, most significant first. -/
def be4 (a b c d : Byte) : BitVec 32 := a ++ b ++ c ++ d

/-- The two bytes of a number, most significant first. -/
def bytes2 (x : BitVec 16) : List Byte := [x.extractLsb' 8 8, x.extractLsb' 0 8]

/-- The three bytes of a number, most significant first. -/
def bytes3 (x : BitVec 24) : List Byte := [x.extractLsb' 16 8, x.extractLsb' 8 8, x.extractLsb' 0 8]

/-- The four bytes of a number, most significant first. -/
def bytes4 (x : BitVec 32) : List Byte :=
  [x.extractLsb' 24 8, x.extractLsb' 16 8, x.extractLsb' 8 8, x.extractLsb' 0 8]

/-! ## The frame checks (R168) -/

/-- A frame that passed the checks, with the header fields the part reads (Table 11-1). -/
structure RawFrame where
  kind : FrameKind
  flags : Byte
  headIndex : Byte
  terminal : TermNo
  seq : BitVec 16
  payload : List Byte
deriving DecidableEq, Repr

/-- Check 7 of R168: a MEAS payload's entry count is 1 to 4 and fixes its length. -/
def measCountOk (payload : List Byte) : Bool :=
  match payload with
  | _ :: n :: _ => decide (1 ≤ n.toNat) && decide (n.toNat ≤ 4) && decide (payload.length = 2 + 3 * n.toNat)
  | _ => false

/-- R168: the checks of a frame that arrives on a link, in order; `fcsOk` is the Ethernet frame check.
Bytes beyond the payload length are padding and ignored. -/
def readFrame (fcsOk : Bool) (bytes : List Byte) : Option RawFrame :=
  match fcsOk, bytes with
  | true, k :: fl :: hi :: ver :: t1 :: t0 :: s1 :: s0 :: l1 :: l0 :: rest =>
    match FrameKind.ofCode k with
    | some kind =>
      let n := (be2 l1 l0).toNat
      let payload := rest.take n
      if ver = 1 && kind.lengthOk n && decide (n ≤ rest.length) && (kind != .meas || measCountOk payload) then
        some { kind, flags := fl, headIndex := hi, terminal := be2 t1 t0, seq := be2 s1 s0, payload }
      else none
    | none => none
  | _, _ => none

/-- The CRANE or USER frame in a checked frame. -/
def RawFrame.berth (f : RawFrame) : BerthFrame :=
  { flags := f.flags, headIndex := f.headIndex, terminal := f.terminal, seq := f.seq, payload := f.payload }

/-- The quality entries of a MEAS payload after its two first bytes (Table 11-3). -/
def readEntries : List Byte → List MeasEntry
  | h :: q1 :: q0 :: rest => { head := h, quality := be2 q1 q0 } :: readEntries rest
  | _ => []

/-- Sixteen bytes as a pattern, if there are exactly sixteen (R36). -/
def readPattern (l : List Byte) : Option (Vector Byte 16) :=
  if h : l.length = 16 then some ⟨l.toArray, by simpa using h⟩ else none

/-- The command that a frame arriving from head h stands for: the checks of R168, then the kinds of
R44 and of Table 2 (the two kinds the Head Link Unit keeps). -/
def headFrameCommand (h : HeadIx) (fcsOk : Bool) (bytes : List Byte) : Instr :=
  match readFrame fcsOk bytes with
  | none => .rxDamaged h
  | some f =>
    match f.kind with
    | .crane => .uplinkCrane h f.berth
    | .user => .uplinkUser h f.berth
    | .meas =>
      match f.payload with
      | seg :: _ :: rest => .meas h f.terminal seg (readEntries rest)
      | _ => .rxDamaged h
    | .batch => .batch h f.terminal f.payload
    | .headstat =>
      match f.payload with
      | [n, fl, u3, u2, u1, u0] => .headstat h n fl (be4 u3 u2 u1 u0)
      | _ => .rxDamaged h
    | .echo =>
      match readPattern f.payload with
      | some p => .echo h p
      | none => .rxDamaged h
    | .mgmt => .mgmtOnHead h
    | .headctl | .reply | .notice | .exportBatch => .ulWrongKind h f.kind

/-! ## Request parameters (Table 11-8, R170) -/

/-- SET_PARAM. -/
def readSetParam : List Byte → Option SetParamP
  | i :: v3 :: v2 :: v1 :: v0 :: _ => some { id := ParamId.ofCode i, value := be4 v3 v2 v1 v0 }
  | _ => none

/-- GET_PARAM. -/
def readGetParam : List Byte → Option (Option ParamId)
  | i :: _ => some (ParamId.ofCode i)
  | _ => none

/-- TERM_LOAD. -/
def readTermLoad : List Byte → Option TermLoadP
  | s :: n1 :: n0 :: c :: _ => some { slot := s, number := be2 n1 n0, cls := TermClass.ofCode c }
  | _ => none

/-- TERM_REMOVE and TERM_READ. -/
def readTermSel : List Byte → Option TermSelP
  | s :: v1 :: v0 :: _ => some { sel := TermSel.ofCode s, value := be2 v1 v0 }
  | _ => none

/-- CRANE_DORMANT: 1 ON, 2 OFF. -/
def readCraneDormant : List Byte → Option CraneDormantP
  | s1 :: s0 :: v :: _ => some { slot := be2 s1 s0, setting := yesNoOf v }
  | _ => none

/-- HEAD_LOAD. -/
def readHeadLoad : List Byte → Option HeadLoadP
  | h :: en :: wf :: wl :: tr :: b1 :: b0 :: pn :: px :: ini :: p1 :: p0 :: i1 :: i0 :: d1 :: d0 :: sl :: gl :: gc ::
      ar :: am :: as :: _ =>
    some { head := h, enabled := yesNoOf en, winFirst := wf, winLast := wl, trim := tr, baseTarget := be2 b1 b0,
           pMin := pn, pMax := px, initial := ini, kp := be2 p1 p0, ki := be2 i1 i0, kd := be2 d1 d0, slew := sl,
           guardLimit := gl, guardCount := gc, autoRestore := yesNoOf ar, alarmMask := am, alarmSense := as }
  | _ => none

/-- A request whose one parameter is a head index. -/
def readHeadIndex : List Byte → Option Byte
  | h :: _ => some h
  | _ => none

/-- HEAD_RESTART. -/
def readHeadRestart : List Byte → Option HeadRestartP
  | h :: k :: _ => some { head := h, kind := RestartKind.ofCode k }
  | _ => none

/-- HEAD_LOOPTEST: any length other than 4 + 1 + 16 makes the pattern not 16 bytes (R170). -/
def readLoopTest : List Byte → Option LoopTestP
  | h :: rest => (readPattern rest).map fun p => { head := h, pattern := p }
  | _ => none

/-- CELL_READ. -/
def readCellRead : List Byte → Option CellReadP
  | h :: f :: l :: _ => some { head := h, first := f, last := l }
  | _ => none

/-- SEG_READ. -/
def readSegRead : List Byte → Option SegReadP
  | f :: l :: _ => some { first := f, last := l }
  | _ => none

/-- REEFER_REGISTER. -/
def readReeferReg : List Byte → Option ReeferRegP
  | t2 :: t1 :: t0 :: c :: _ => some { tag := be3 t2 t1 t0, cls := c }
  | _ => none

/-- REEFER_REMOVE and REEFER_READ. -/
def readReeferSel : List Byte → Option ReeferSelP
  | s :: v2 :: v1 :: v0 :: _ => some { sel := ReeferSel.ofCode s, value := be3 v2 v1 v0 }
  | _ => none

/-- REEFER_PURGE. -/
def readPurge : List Byte → Option PurgeP
  | s :: a3 :: a2 :: a1 :: a0 :: _ => some { state := ReeferState.ofCode s, minAge := be4 a3 a2 a1 a0 }
  | _ => none

/-- BAND_LOAD. -/
def readBand : List Byte → Option BandP
  | c :: l :: u :: p :: d :: r :: _ =>
    some { cls := c, lower := l, upper := u, persistence := p, deadband := d, refresh := r }
  | _ => none

/-- COUNTERS_READ. -/
def readCounters : List Byte → Option CountersP
  | g :: c :: _ => some { group := Group.ofCode g, clear := yesNoOf c }
  | _ => none

/-- NOTICE_MASK. -/
def readMask : List Byte → Option (BitVec 32)
  | b3 :: b2 :: b1 :: b0 :: _ => some (be4 b3 b2 b1 b0)
  | _ => none

/-- The request of a code with its parameter bytes; a code outside Table 11-8 names no request (R155). -/
def requestOf (h : Hdr) (code : Byte) (ps : List Byte) : Instr :=
  match code.toNat with
  | 1 => .ident h
  | 2 => .start h
  | 3 => .stop h
  | 4 => .softReset h
  | 5 => .setParam h (readSetParam ps)
  | 6 => .getParam h (readGetParam ps)
  | 7 => .termLoad h (readTermLoad ps)
  | 8 => .termRemove h (readTermSel ps)
  | 9 => .termRead h (readTermSel ps)
  | 10 => .craneDormant h (readCraneDormant ps)
  | 11 => .headLoad h (readHeadLoad ps)
  | 12 => .headRead h (readHeadIndex ps)
  | 13 => .headRestart h (readHeadRestart ps)
  | 14 => .headLooptest h (readLoopTest ps)
  | 15 => .guardRelease h (readHeadIndex ps)
  | 16 => .cellRead h (readCellRead ps)
  | 17 => .segRead h (readSegRead ps)
  | 18 => .reeferRegister h (readReeferReg ps)
  | 19 => .reeferRemove h (readReeferSel ps)
  | 20 => .reeferRead h (readReeferSel ps)
  | 21 => .reeferPurge h (readPurge ps)
  | 22 => .bandLoad h (readBand ps)
  | 23 => .countersRead h (readCounters ps)
  | 24 => .noticeMask h (readMask ps)
  | 25 => .noticeSummary h
  | _ => .badRequest h code

/-- The command of a MGMT payload at the part whose node address is `node` (R154, 11.5). -/
def mgmtCommand (node : BitVec 6) (payload : List Byte) : Instr :=
  match payload with
  | dest :: code :: tag :: _ :: ps =>
    if dest = 255 ∨ dest = node.setWidth 8 then requestOf { dest, tag } code ps else .otherNode dest
  | _ => .trunkDamaged

/-- The command that a frame arriving on the trunk stands for: R168, then the kinds of R50. -/
def trunkFrameCommand (node : BitVec 6) (fcsOk : Bool) (bytes : List Byte) : Instr :=
  match readFrame fcsOk bytes with
  | none => .trunkDamaged
  | some f =>
    match f.kind with
    | .mgmt => mgmtCommand node f.payload
    | .crane => .downlinkCrane f.berth
    | .user => .downlinkUser f.berth
    | .meas | .batch | .headstat | .echo | .headctl | .reply | .notice | .exportBatch => .trunkWrongKind f.kind

/-! ## The encoder: a frame that stands for a command -/

/-- A berth frame: header (Table 11-1) and payload. -/
def frameBytes (kind : FrameKind) (flags headIndex : Byte) (terminal : TermNo) (seq : BitVec 16) (payload : List Byte) :
    List Byte :=
  [kind.code, flags, headIndex, 1] ++ bytes2 terminal ++ bytes2 seq ++ bytes2 (BitVec.ofNat 16 payload.length) ++ payload

/-- A CRANE or USER frame, header and payload. -/
def BerthFrame.bytes (kind : FrameKind) (f : BerthFrame) : List Byte :=
  frameBytes kind f.flags f.headIndex f.terminal f.seq f.payload

/-- The parameter bytes of a request, absent where the parameters are. -/
def paramBytes {α : Type} (p : Option α) (f : α → List Byte) : List Byte :=
  match p with
  | some a => f a
  | none => []

/-- HEAD_LOAD's parameter bytes (Table 11-8). -/
def HeadLoadP.bytes (p : HeadLoadP) : List Byte :=
  [p.head, optCode yesNoCode p.enabled, p.winFirst, p.winLast, p.trim] ++ bytes2 p.baseTarget ++
    [p.pMin, p.pMax, p.initial] ++ bytes2 p.kp ++ bytes2 p.ki ++ bytes2 p.kd ++
    [p.slew, p.guardLimit, p.guardCount, optCode yesNoCode p.autoRestore, p.alarmMask, p.alarmSense]

/-- The destination, tag, code and parameter bytes of a request command. -/
def requestParts : Instr → Option (Hdr × Byte × List Byte)
  | .ident h => some (h, 1, [])
  | .start h => some (h, 2, [])
  | .stop h => some (h, 3, [])
  | .softReset h => some (h, 4, [])
  | .setParam h p => some (h, 5, paramBytes p fun p => optCode ParamId.code p.id :: bytes4 p.value)
  | .getParam h p => some (h, 6, paramBytes p fun p => [optCode ParamId.code p])
  | .termLoad h p =>
    some (h, 7, paramBytes p fun p => p.slot :: bytes2 p.number ++ [optCode TermClass.code p.cls])
  | .termRemove h p => some (h, 8, paramBytes p fun p => optCode TermSel.code p.sel :: bytes2 p.value)
  | .termRead h p => some (h, 9, paramBytes p fun p => optCode TermSel.code p.sel :: bytes2 p.value)
  | .craneDormant h p => some (h, 10, paramBytes p fun p => bytes2 p.slot ++ [optCode yesNoCode p.setting])
  | .headLoad h p => some (h, 11, paramBytes p HeadLoadP.bytes)
  | .headRead h p => some (h, 12, paramBytes p fun b => [b])
  | .headRestart h p => some (h, 13, paramBytes p fun p => [p.head, optCode RestartKind.code p.kind])
  | .headLooptest h p => some (h, 14, paramBytes p fun p => p.head :: p.pattern.toList)
  | .guardRelease h p => some (h, 15, paramBytes p fun b => [b])
  | .cellRead h p => some (h, 16, paramBytes p fun p => [p.head, p.first, p.last])
  | .segRead h p => some (h, 17, paramBytes p fun p => [p.first, p.last])
  | .reeferRegister h p => some (h, 18, paramBytes p fun p => bytes3 p.tag ++ [p.cls])
  | .reeferRemove h p => some (h, 19, paramBytes p fun p => optCode ReeferSel.code p.sel :: bytes3 p.value)
  | .reeferRead h p => some (h, 20, paramBytes p fun p => optCode ReeferSel.code p.sel :: bytes3 p.value)
  | .reeferPurge h p => some (h, 21, paramBytes p fun p => optCode ReeferState.code p.state :: bytes4 p.minAge)
  | .bandLoad h p =>
    some (h, 22, paramBytes p fun p => [p.cls, p.lower, p.upper, p.persistence, p.deadband, p.refresh])
  | .countersRead h p =>
    some (h, 23, paramBytes p fun p => [optCode Group.code p.group, optCode yesNoCode p.clear])
  | .noticeMask h p => some (h, 24, paramBytes p bytes4)
  | .noticeSummary h => some (h, 25, [])
  | .badRequest h code => some (h, code, [])
  | _ => none

/-- A MGMT frame (11.5). -/
def mgmtBytes (h : Hdr) (code : Byte) (ps : List Byte) : List Byte :=
  frameBytes .mgmt 0 0 0 0 (h.dest :: code :: h.tag :: 0 :: ps)

/-- The shortest payload of a kind (Table 11-2), of zero bytes. -/
def FrameKind.shortPayload : FrameKind → List Byte
  | .crane | .user => []
  | .meas => [0, 1, 0, 0, 0]
  | .batch | .mgmt | .reply => [0, 0, 0, 0]
  | .headstat => [0, 0, 0, 0, 0, 0]
  | .echo => List.replicate 16 0
  | .headctl => [0, 0]
  | .notice => List.replicate 12 0
  | .exportBatch => List.replicate 22 0

/-- A quality entry's bytes (Table 11-3). -/
def MeasEntry.bytes (e : MeasEntry) : List Byte := e.head :: bytes2 e.quality

/-- A frame on the trunk link that stands for a command, where one does. -/
def encodeTrunkFrame (i : Instr) : Option (List Byte) :=
  match requestParts i with
  | some (h, code, ps) => some (mgmtBytes h code ps)
  | none =>
    match i with
    | .otherNode dest => some (mgmtBytes { dest, tag := 0 } 1 [])
    | .downlinkCrane f => some (f.bytes .crane)
    | .downlinkUser f => some (f.bytes .user)
    | .trunkWrongKind k => some (frameBytes k 0 0 0 0 k.shortPayload)
    | .trunkDamaged => some []
    | _ => none

/-- A frame on a head link that stands for a command, with the head, where one does. -/
def encodeHeadFrame (i : Instr) : Option (HeadIx × List Byte) :=
  match i with
  | .headstat h n fl up => some (h, frameBytes .headstat 0 0 0 0 (n :: fl :: bytes4 up))
  | .echo h p => some (h, frameBytes .echo 0 0 0 0 p.toList)
  | .uplinkCrane h f => some (h, f.bytes .crane)
  | .uplinkUser h f => some (h, f.bytes .user)
  | .meas h t seg es =>
    some (h, frameBytes .meas 0 0 t 0 (seg :: BitVec.ofNat 8 es.length :: es.flatMap MeasEntry.bytes))
  | .batch h t b => some (h, frameBytes .batch 0 0 t 0 b)
  | .mgmtOnHead h => some (h, frameBytes .mgmt 0 0 0 0 FrameKind.mgmt.shortPayload)
  | .ulWrongKind h k => some (h, frameBytes k 0 0 0 0 k.shortPayload)
  | .rxDamaged h => some (h, [])
  | _ => none

end Sys2Proof
end

