-- ==== Sys2Proof/Machine/Blocks.lean ====
section
/-! DEFINITION. The state each block of Table 1 owns, as plain data. -/

namespace Sys2Proof.Machine
open Sys2Proof

/-- A counter: 32 bits, saturating at the maximum (00_scope 5.2). -/
abbrev Counter := BitVec 32

/-! ## Head Link Units (chapter 2) -/

/-- The head record (Table 2-1). -/
structure HeadRecord where
  enabled : Bool
  winFirst : Nat
  winLast : Nat
  trim : Int
  baseTarget : Int
  pMin : Nat
  pMax : Nat
  initial : Nat
  kp : Nat
  ki : Nat
  kd : Nat
  slew : Nat
  guardLimit : Nat
  guardCount : Nat
  autoRestore : Bool
  alarmMask : Byte
  alarmSense : Byte
deriving DecidableEq, Repr

/-- A restart in progress (2.5): when the pulse ends while it runs, when the WARM blanking time ends
while it lasts, and the restart deadline. -/
structure Restart where
  kind : RestartKind
  pulseEnd : Option Nat
  blankEnd : Option Nat
  deadline : Nat
deriving DecidableEq, Repr

/-- The head link state (Table 2-2), with what exists in that state alone: the restart in RESTARTING
and the head silence deadline in UP. -/
inductive HeadLink where
  | disabled
  | offline
  | restarting (r : Restart)
  | up (silence : Nat)
deriving DecidableEq, Repr

/-- A control frame to a head (Table 11-5). -/
inductive CtlFrame where
  | setpoint (offset : Nat)
  | order (terminal : TermNo) (target : HeadIx)
  | linkLost (terminal : TermNo)
  | loopTest (pattern : Vector Byte 16)
deriving DecidableEq, Repr

/-- A frame on its way out of a head link. -/
inductive HeadFrame where
  | ctl (c : CtlFrame)
  | crane (f : BerthFrame)
  | user (f : BerthFrame)
deriving DecidableEq, Repr

/-- A loop test in flight (R36): `replies` is no for a broadcast request (R37), `held` says that its
LOOP_TEST frame is held unsent in STANDBY. -/
structure LoopTest where
  pattern : Vector Byte 16
  deadline : Nat
  tag : Byte
  replies : Bool
  held : Bool
deriving DecidableEq, Repr

/-- What the last HEADSTAT taken reported (R22, R27). -/
structure HeadStat where
  noise : Byte
  flags : Byte
  uptime : BitVec 32
deriving DecidableEq, Repr

/-- Table 2-6. -/
structure HeadCounters where
  rxDamaged : Counter
  rxNotUp : Counter
  echoUnexpected : Counter
  flushed : Counter
  notUpDrop : Counter
  controlDrop : Counter
  orderBlocked : Counter
  craneDrop : Counter
  normalDrop : Counter
  replyLost : Counter
deriving DecidableEq, Repr

/-- The state of one Head Link Unit (Table 2-7). -/
structure Head where
  record : HeadRecord
  link : HeadLink
  /-- the link indication of R23 -/
  ethUp : Bool
  loopTest : Option LoopTest
  last : Option HeadStat
  alarms : Byte
  ctlQ : List CtlFrame
  craneQ : List BerthFrame
  normalQ : List BerthFrame
  overrun : Bool
  /-- the frame last handed to the link (log 9) -/
  tx : Option HeadFrame
  cnt : HeadCounters
deriving DecidableEq, Repr

/-! ## Terminal Table and Segment Table (chapter 1) -/

/-- The handover state with the heads and the deadline that Table 5-1 gives it. -/
inductive Handover where
  | orphan
  | settled (serving : HeadIx)
  | probing (serving candidate : HeadIx)
  | bicast (serving candidate : HeadIx) (deadline : Nat)
deriving DecidableEq, Repr

/-- The link state of a crane (Table 4-1), with the watchdog deadline that exists in LIVE alone. -/
inductive CraneLink where
  | unheard
  | live (watchdog : Nat)
  | lost
  | dormant
deriving DecidableEq, Repr

/-- The crane part (Table 1-2). Bit k − 1 of `history` is the flag at distance k. -/
structure CranePart where
  link : CraneLink
  valid : Bool
  highest : BitVec 16
  history : BitVec 32
deriving DecidableEq, Repr

/-- The gateway state (Table 8-2) with the last batch time, present once a batch has been taken, and
the silence deadline, present in REPORTING while the part is RUNNING (Table 1-3). -/
inductive GatewayState where
  | unheard
  | reporting (lastBatch : Nat) (silence : Option Nat)
  | silent (lastBatch : Nat)
deriving DecidableEq, Repr

/-- The class of an entry with its class part (R2). -/
inductive ClassPart where
  | crane (c : CranePart)
  | vehicle
  | gateway (g : GatewayState) (reefers : Nat)
  | other
deriving DecidableEq, Repr

/-- A terminal entry (Tables 1-1 to 1-3). -/
structure Term where
  number : TermNo
  part : ClassPart
  ho : Handover
  probe : Nat
  holdoff : Nat
  stray : Nat
  segment : Option SegIx
  lsq : Option Int
deriving DecidableEq, Repr

/-- A segment record (Table 1-7). -/
structure Seg where
  cranes : Nat
  gateways : Nat
deriving DecidableEq, Repr

/-- Table 5-4 and SEGMENT_INVALID (R16). -/
structure HandoverCounters where
  anchors : Counter
  reanchors : Counter
  orphanings : Counter
  hardHandovers : Counter
  bicastStarts : Counter
  bicastSuccess : Counter
  bicastTimeout : Counter
  bicastForced : Counter
  bicastCandidateLost : Counter
  noCover : Counter
  measBadHead : Counter
  measRepeatHead : Counter
  segmentInvalid : Counter
deriving DecidableEq, Repr

/-- Table 4-3. -/
structure CraneCounters where
  accepted : Counter
  duplicate : Counter
  stale : Counter
  losses : Counter
  restores : Counter
deriving DecidableEq, Repr

/-! ## Coverage (chapters 6 and 7) -/

/-- The state of a cell (Table 6-2). -/
inductive CellState where
  | none | fresh | sparse
deriving DecidableEq, Repr

/-- A cell of the Coverage Map (Table 6-2). -/
structure Cell where
  sum : Int
  count : Nat
  avg : Option Int
  state : CellState
deriving DecidableEq, Repr

/-- Table 6-3. -/
structure CoverageCounters where
  samplesAdmitted : Counter
  outOfWindow : Counter
  countFull : Counter
  penaltyApplied : Counter
  penaltySuppressed : Counter
  closes : Counter
deriving DecidableEq, Repr

/-- The state of Coverage Measurement (Table 6-4). -/
structure Coverage where
  cells : Vector (Vector Cell 48) 12
  deadline : Option Nat
  index : BitVec 8
  cnt : CoverageCounters
deriving DecidableEq, Repr

/-- The coverage status of a head (R114). -/
inductive CovStatus where
  | unmeasured | firm | weak | thin | guarded
deriving DecidableEq, Repr

/-- Table 7-4. -/
structure LoopCounters where
  updates : Counter
  unmeasuredUpdates : Counter
  slewClamps : Counter
  rangeClamps : Counter
  guardEntries : Counter
deriving DecidableEq, Repr

/-- The loop state of one head (Table 7-1); `guarded` is the guard state. -/
structure LoopState where
  u : Nat
  e1 : Int
  e2 : Int
  status : CovStatus
  guarded : Bool
  run : Nat
  lastSet : Option Nat
  cnt : LoopCounters
deriving DecidableEq, Repr

/-! ## Reefers (chapters 8 and 9) -/

/-- A Reefer Table entry (Table 8-4). -/
structure Reefer where
  tag : Nat
  cls : BandIx
  gateway : Option SlotIx
  segment : Option SegIx
  setpoint : Option Int
  supply : Option Int
  ret : Option Int
  compressor : Bool
  defrost : Bool
  alarm : Byte
  state : ReeferState
  outRun : Nat
  inRun : Nat
  lastHeard : Nat
  silence : Option Nat
  expSupply : Option Int
  expRet : Option Int
  expSetpoint : Option Int
  expAlarm : Option Byte
  expTime : Option Nat
  pending : Bool
deriving DecidableEq, Repr

/-- A band class (Table 8-5). -/
structure Band where
  lower : Nat
  upper : Nat
  persistence : Nat
  deadband : Nat
  refresh : Nat
deriving DecidableEq, Repr

/-- The purge walk in progress (R141, R142): `next` is the index of the next visit. -/
structure Purge where
  state : ReeferState
  minAge : Nat
  next : ReeferIx
  removed : Nat
  tag : Byte
  replies : Bool
deriving DecidableEq, Repr

/-- Table 8-7. -/
structure ReeferCounters where
  batches : Counter
  batchNotGateway : Counter
  batchTruncated : Counter
  unknownKind : Counter
  badTag : Counter
  records : Counter
  autoLearned : Counter
  unknownTagDrop : Counter
  setpointInvalid : Counter
  sensorFault : Counter
  reeferAlarms : Counter
  reeferSilences : Counter
  gatewaySilences : Counter
  purged : Counter
  purgeReplyLost : Counter
deriving DecidableEq, Repr

/-- The state of the Reefer Report Unit (Table 8-8), less the gateway parts. -/
structure Reefers where
  table : Vector (Option Reefer) 2048
  bands : Vector Band 4
  tableFull : Bool
  purge : Option Purge
  cnt : ReeferCounters
deriving DecidableEq, Repr

/-- The reason of an export (Table 9-2), highest first. -/
inductive Reason where
  | state | change | refresh
deriving DecidableEq, Repr

/-- A pending list item (Table 9-3). -/
structure PendItem where
  index : ReeferIx
  join : Nat
  reason : Reason
deriving DecidableEq, Repr

/-- Table 9-5. -/
structure ExportCounters where
  offers : Counter
  merged : Counter
  batches : Counter
  records : Counter
  removed : Counter
deriving DecidableEq, Repr

/-- The state of the Export Unit (Table 9-4). -/
structure ExportUnit where
  list : List PendItem
  deadline : Option Nat
  /-- the flush deadline has expired since it was last armed (R148) -/
  expired : Bool
  request : Bool
  cnt : ExportCounters
deriving DecidableEq, Repr

/-! ## Notices, replies and the trunk (chapters 3, 10 and 11) -/

/-- The notice kinds, in the order of Table 10-4. -/
inductive NoticeKind where
  | craneLinkLost | craneLinkRestored | handoverFailed | handoverForced | queueOverrun | reanchor
  | headUp | headOffline | headAlarm | headRebooted | headRestartFailed | guardEntered | guardLeft
  | coverageThin | gatewaySilent | gatewayResumed | reeferAlarm | reeferClear | reeferSilent
  | reeferResumed | tableFull
deriving DecidableEq, Repr

/-- A notice (Table 11-9): its uptime is in seconds. -/
structure Notice where
  kind : NoticeKind
  uptime : BitVec 32
  subject : BitVec 32
  detail : BitVec 16
deriving DecidableEq, Repr

/-- Reply statuses, in the order of Table 10-1. -/
inductive Status where
  | done | clamped | badRequest | badParam | notFound | occupied | duplicate | full | busy | wrongState
deriving DecidableEq, Repr

/-- The result of a loop test (R37). -/
inductive LoopResult where
  | pass
  | fail (mismatches : Nat)
  | noEcho
  | headLost
deriving DecidableEq, Repr

/-- What HEAD_READ reports of the live state (R22), beside the record. -/
structure HeadView where
  record : HeadRecord
  link : HeadLink
  ethUp : Bool
  /-- kind, milliseconds left in the pulse, milliseconds left to the restart deadline -/
  restart : Option (RestartKind × Nat × Nat)
  testInFlight : Bool
  last : Option HeadStat
  alarms : Byte
  ctlLen : Nat
  craneLen : Nat
  normalLen : Nat
  overrun : Bool
  u : Nat
  status : CovStatus
  guarded : Bool
deriving DecidableEq, Repr

/-- The data of a reply, as the owning rule lists them. Times remaining are in milliseconds. -/
inductive ReplyData where
  /-- no data -/
  | empty
  /-- R157 -/
  | ident (node : BitVec 6) (running : Bool) (uptimeS : Nat)
  /-- R162: the value in force; yes is 1 and no is 2 -/
  | param (value : Nat)
  /-- R11, R12: the entry, the bicast deadline's remaining time, the frames waiting, the uptime in
  seconds, and the remaining time of the watchdog or gateway silence deadline -/
  | term (slot : SlotIx) (t : Term) (bicastLeft : Option Nat) (waiting : Nat) (uptimeS : Nat) (partLeft : Option Nat)
  /-- R22 -/
  | head (v : HeadView)
  /-- R37 -/
  | loopTest (r : LoopResult)
  /-- R106: head, window, period index, time left, then the cells in ascending order -/
  | cells (head : HeadIx) (winFirst winLast : Nat) (index : BitVec 8) (left : Option Nat) (cells : List Cell)
  /-- R107 -/
  | segs (segs : List Seg)
  /-- R130 -/
  | reeferIndex (i : ReeferIx)
  /-- R140: the entry, its index, its gateway's terminal number, the silence deadline's remaining time -/
  | reefer (r : Reefer) (i : ReeferIx) (gatewayNo : Option TermNo) (left : Option Nat)
  /-- R142 -/
  | purged (removed : Nat)
  /-- R166 -/
  | counters (cs : List Counter)
  /-- R165 -/
  | summary (kinds : BitVec 21)
deriving DecidableEq, Repr

/-- A reply (11.5): the code and tag of its request, the status and the data. -/
structure Reply where
  code : Byte
  tag : Byte
  status : Status
  data : ReplyData
deriving DecidableEq, Repr

/-- A record of an EXPORT frame (R149, Table 11-7). -/
structure ExportRecord where
  tag : Nat
  state : ReeferState
  setpoint : Option Int
  supply : Option Int
  ret : Option Int
  compressor : Bool
  defrost : Bool
  alarm : Byte
  reason : Reason
  gatewayNo : Option TermNo
  segment : Option SegIx
  age : Nat
deriving DecidableEq, Repr

/-- A frame on its way out of the trunk link. -/
inductive TrunkFrame where
  | crane (f : BerthFrame)
  | notice (n : Notice)
  | reply (r : Reply)
  | user (f : BerthFrame)
  | exportBatch (rs : List ExportRecord)
deriving DecidableEq, Repr

/-- The trunk part of Table 3-5. -/
structure TrunkCounters where
  damaged : Counter
  wrongKind : Counter
  craneDrop : Counter
  noticeDrop : Counter
  requestOverrun : Counter
  normalDrop : Counter
  txCrane : Counter
  txNotice : Counter
  txReply : Counter
  txNormal : Counter
  txExport : Counter
deriving DecidableEq, Repr

/-- The state of the Trunk Link Unit (Tables 3-3 and 3-6). -/
structure Trunk where
  linkUp : Bool
  craneQ : List BerthFrame
  noticeQ : List Notice
  replyQ : List Reply
  normalQ : List BerthFrame
  overrun : Bool
  exportTurn : Nat
  /-- the frame last granted, while it may still be on the wire (log 9) -/
  tx : Option TrunkFrame
  cnt : TrunkCounters
deriving DecidableEq, Repr

/-- The classifier part of Table 3-5. -/
structure ClassifierCounters where
  mgmtOnHead : Counter
  ulWrongKind : Counter
  ulStandbyDrop : Counter
  ulBadTerminal : Counter
  unlistedUser : Counter
  unlistedCrane : Counter
  unlistedMeas : Counter
  unlistedBatch : Counter
  classMismatch : Counter
  dlStandbyDrop : Counter
  dlBadTerminal : Counter
  forcedNotUp : Counter
  forcedBadHead : Counter
  dlUnknown : Counter
  dlClassMismatch : Counter
  orphanDrop : Counter
deriving DecidableEq, Repr

/-! ## Management Unit (chapter 10) -/

/-- The global parameters (Table 10-3), in the units of that table. -/
structure Params where
  hysteresis : Nat
  probeLimit : Nat
  holdoff : Nat
  strayLimit : Nat
  bicastTimeout : Nat
  craneWatchdog : Nat
  craneMargin : Nat
  thinMargin : Nat
  loopDivider : Nat
  coveragePeriod : Nat
  minSamples : Nat
  penaltyEnable : Bool
  penaltyWeight : Nat
  headSilence : Nat
  restartTimeout : Nat
  gatewaySilence : Nat
  reeferSilence : Nat
  autoLearn : Bool
  batchLimit : Nat
  flushInterval : Nat
deriving DecidableEq, Repr

/-- Table 10-6. -/
structure MgmtCounters where
  requests : Counter
  broadcasts : Counter
  otherNode : Counter
  noticesRaised : Counter
  noticesMasked : Counter
deriving DecidableEq, Repr

/-- The state of the Management Unit, less the part state, the node address and the uptime. Bit k − 1
of a set of kinds is the kind of code k (Table 11-8). -/
structure Mgmt where
  params : Params
  mask : BitVec 21
  summary : BitVec 21
  cnt : MgmtCounters
deriving DecidableEq, Repr

/-- The part state (10.4). -/
inductive PartState where
  | standby | running
deriving DecidableEq, Repr

end Sys2Proof.Machine
end

