-- ==== Sys2Proof/Machine/Arith.lean ====
section
/-! DEFINITION. The arithmetic the rules share: saturating counters, clamping, rounding, packing of notice details. -/

namespace Sys2Proof.Machine
open Sys2Proof

/-- A counter raised by n, saturating at its maximum (Table 5 of 00_scope). -/
def satAdd (c : Counter) (n : Nat) : Counter := BitVec.ofNat 32 (min (c.toNat + n) 4294967295)

/-- A counter raised by 1. -/
def inc (c : Counter) : Counter := satAdd c 1

/-- The nearer end of a range, or the value itself within it. -/
def clampInt (lo hi x : Int) : Int := if x < lo then lo else if hi < x then hi else x

/-- The nearer end of a range, or the value itself within it. -/
def clampNat (lo hi x : Nat) : Nat := if x < lo then lo else if hi < x then hi else x

/-- A quotient rounded to the nearest integer, halves away from zero (R102, R113); n is positive. -/
def roundDiv (a : Int) (n : Nat) : Int :=
  if 0 ≤ a then (2 * a + n) / (2 * n) else -((-(2 * a) + n) / (2 * n))

/-- Signal quality lies within −80..175 (Table 5 of 00_scope). -/
def clampQuality (q : Int) : Int := clampInt (-80) 175 q

/-- A notice detail in two halves: the low 8 bits and the high 8 bits. -/
def halves (low high : Nat) : BitVec 16 := BitVec.ofNat 16 (low % 256 + 256 * (high % 256))

/-- A number that saturates at 65535, as a detail. -/
def sat16 (n : Nat) : BitVec 16 := BitVec.ofNat 16 (min n 65535)

/-- Whether a deadline is present and due. -/
def due (d : Option Nat) (now : Nat) : Bool :=
  match d with
  | some t => decide (t ≤ now)
  | none => false

/-- The milliseconds from now to a deadline, 0 if it is due and not yet taken (R11). -/
def left (d : Option Nat) (now : Nat) : Option Nat := d.map fun t => t - now

/-- Whether a terminal number is one no terminal has (5.3 of 00_scope). -/
def badNumber (n : TermNo) : Bool := decide (n = 0) || decide (n = 65535)

end Sys2Proof.Machine
end

