-- ==== Sys2Proof/Machine/Defaults.lean ====
section
/-! DEFINITION. The values each block takes at hard reset, as its chapter gives them. -/

namespace Sys2Proof.Machine
open Sys2Proof

/-- Table 2-1, column 'After hard reset'. -/
def HeadRecord.hardReset : HeadRecord :=
  { enabled := false, winFirst := 0, winLast := 47, trim := 0, baseTarget := 40, pMin := 0, pMax := 120,
    initial := 60, kp := 128, ki := 32, kd := 0, slew := 8, guardLimit := 0, guardCount := 2,
    autoRestore := true, alarmMask := 0, alarmSense := 0 }

/-- R42. -/
def HeadCounters.zero : HeadCounters := ⟨0, 0, 0, 0, 0, 0, 0, 0, 0, 0⟩

/-- Table 2-7, column 'After hard reset'; the link indication is a port's, which the table does not
list (log 7), and nothing is on the wire (log 9). -/
def Head.hardReset (ethUp : Bool) : Head :=
  { record := HeadRecord.hardReset, link := .disabled, ethUp, loopTest := none, last := none, alarms := 0,
    ctlQ := [], craneQ := [], normalQ := [], overrun := false, tx := none, cnt := HeadCounters.zero }

/-- R95. -/
def HandoverCounters.zero : HandoverCounters := ⟨0, 0, 0, 0, 0, 0, 0, 0, 0, 0, 0, 0, 0⟩

/-- R74. -/
def CraneCounters.zero : CraneCounters := ⟨0, 0, 0, 0, 0⟩

/-- A NONE cell: sum 0, count 0, average absent (R97). -/
def Cell.cleared : Cell := { sum := 0, count := 0, avg := none, state := .none }

/-- R108. -/
def CoverageCounters.zero : CoverageCounters := ⟨0, 0, 0, 0, 0, 0⟩

/-- The whole map of NONE cells (Table 6-4). -/
def clearedMap : Vector (Vector Cell 48) 12 := Vector.replicate 12 (Vector.replicate 48 Cell.cleared)

/-- Table 6-4, column 'After hard reset'. -/
def Coverage.hardReset : Coverage :=
  { cells := clearedMap, deadline := none, index := 0, cnt := CoverageCounters.zero }

/-- R123. -/
def LoopCounters.zero : LoopCounters := ⟨0, 0, 0, 0, 0⟩

/-- Table 7-5, column 'After hard reset'. -/
def LoopState.hardReset : LoopState :=
  { u := 60, e1 := 0, e2 := 0, status := .unmeasured, guarded := false, run := 0, lastSet := none,
    cnt := LoopCounters.zero }

/-- Table 8-5, column 'After hard reset'. -/
def Band.hardReset : Band := { lower := 30, upper := 30, persistence := 3, deadband := 5, refresh := 60 }

/-- R143. -/
def ReeferCounters.zero : ReeferCounters := ⟨0, 0, 0, 0, 0, 0, 0, 0, 0, 0, 0, 0, 0, 0, 0⟩

/-- Table 8-8, column 'After hard reset'. -/
def Reefers.hardReset : Reefers :=
  { table := Vector.replicate 2048 none, bands := Vector.replicate 4 Band.hardReset, tableFull := false,
    purge := none, cnt := ReeferCounters.zero }

/-- R153. -/
def ExportCounters.zero : ExportCounters := ⟨0, 0, 0, 0, 0⟩

/-- Table 9-4, column 'After hard reset'. -/
def ExportUnit.hardReset : ExportUnit :=
  { list := [], deadline := none, expired := false, request := false, cnt := ExportCounters.zero }

/-- R61. -/
def TrunkCounters.zero : TrunkCounters := ⟨0, 0, 0, 0, 0, 0, 0, 0, 0, 0, 0⟩

/-- Table 3-6, column 'After hard reset'; the link indication is a port's (log 7). -/
def Trunk.hardReset (linkUp : Bool) : Trunk :=
  { linkUp, craneQ := [], noticeQ := [], replyQ := [], normalQ := [], overrun := false, exportTurn := 0,
    tx := none, cnt := TrunkCounters.zero }

/-- R61. -/
def ClassifierCounters.zero : ClassifierCounters := ⟨0, 0, 0, 0, 0, 0, 0, 0, 0, 0, 0, 0, 0, 0, 0, 0⟩

/-- Table 10-3, column 'Default'. -/
def Params.hardReset : Params :=
  { hysteresis := 12, probeLimit := 3, holdoff := 4, strayLimit := 3, bicastTimeout := 400, craneWatchdog := 300,
    craneMargin := 12, thinMargin := 8, loopDivider := 1, coveragePeriod := 10, minSamples := 8,
    penaltyEnable := true, penaltyWeight := 4, headSilence := 3, restartTimeout := 60, gatewaySilence := 120,
    reeferSilence := 900, autoLearn := true, batchLimit := 24, flushInterval := 1000 }

/-- R167. -/
def MgmtCounters.zero : MgmtCounters := ⟨0, 0, 0, 0, 0⟩

/-- R161: the mask holds every kind, the summary is empty, the parameters take their defaults. -/
def Mgmt.hardReset : Mgmt :=
  { params := Params.hardReset, mask := BitVec.allOnes 21, summary := 0, cnt := MgmtCounters.zero }

/-- R161, Table 1-7: no crane and no gateway in any segment. -/
def Seg.hardReset : Seg := { cranes := 0, gateways := 0 }

end Sys2Proof.Machine
end

