-- ==== Sys2Proof/Machine/State.lean ====
section
/-! DEFINITION. The whole state of the part as plain data, the outcomes a command can end in, and the state right after reset. -/

namespace Sys2Proof.Machine
open Sys2Proof

/-- The state of the part, block by block (Table 1), with the queue of commands that are waiting. -/
structure State where
  /-- the commands waiting to be taken, the first in front -/
  pending : List Instr
  /-- how many free choices the idle step has made (log 2) -/
  choice : Nat
  /-- the reset pin is asserted (R161) -/
  inReset : Bool
  /-- the uptime in milliseconds (Table 5 of 00_scope) -/
  uptime : Nat
  /-- the node address (R161) -/
  node : BitVec 6
  /-- the part state (10.4) -/
  part : PartState
  mgmt : Mgmt
  heads : Vector Head 12
  trunk : Trunk
  cls : ClassifierCounters
  terms : Vector (Option Term) 256
  segs : Vector Seg 48
  ho : HandoverCounters
  crane : CraneCounters
  cov : Coverage
  loops : Vector LoopState 12
  reef : Reefers
  exp : ExportUnit
deriving DecidableEq, Repr

/-- Why the machine stops with a fault: it never does. Every rule of the spec gives its event an
effect (a bad frame is discarded and counted, a bad request is refused with a status), so there is no
constructor and nobody raises one. Safe: nothing is stopped that the part goes on with. -/
inductive Fault where
deriving DecidableEq, Repr

/-- Why a command has no meaning here. -/
inductive Refusal where
  /-- A command whose meaning is not written yet. Raised by an arm of exec alone; no arm does. Safe. -/
  | notModelled (mnemonic : String)
deriving DecidableEq, Repr

/-- The machine right after reset (R161): every block at the values its chapter gives for hard reset,
STANDBY, uptime 0. The node address 0 (log 6) and the link indications down (log 7) are the model's. -/
def State.reset : State :=
  { pending := [], choice := 0, inReset := false, uptime := 0, node := 0, part := .standby,
    mgmt := Mgmt.hardReset,
    heads := Vector.replicate 12 (Head.hardReset false),
    trunk := Trunk.hardReset false,
    cls := ClassifierCounters.zero,
    terms := Vector.replicate 256 none,
    segs := Vector.replicate 48 Seg.hardReset,
    ho := HandoverCounters.zero,
    crane := CraneCounters.zero,
    cov := Coverage.hardReset,
    loops := Vector.replicate 12 LoopState.hardReset,
    reef := Reefers.hardReset,
    exp := ExportUnit.hardReset }

end Sys2Proof.Machine
end

