-- ==== Sys2Proof/Machine/Ops.lean ====
section
/-! DEFINITION. The operations the blocks share: reading and changing one block's state, lookups, notices (10.6), requests and replies (10.1, 10.2), and admission to the egress queues (2.7, 3.4). -/

namespace Sys2Proof.Machine
open Sys2Proof

/-! ## One block's state -/

/-- The Head Link Unit of a head. -/
def State.head (s : State) (h : HeadIx) : Head := look s.heads h

/-- A change of one Head Link Unit. -/
def State.modHead (s : State) (h : HeadIx) (f : Head → Head) : State :=
  { s with heads := put s.heads h (f (look s.heads h)) }

/-- The loop state of a head. -/
def State.loop (s : State) (h : HeadIx) : LoopState := look s.loops h

/-- A change of one head's loop state. -/
def State.modLoop (s : State) (h : HeadIx) (f : LoopState → LoopState) : State :=
  { s with loops := put s.loops h (f (look s.loops h)) }

/-- The content of a Terminal Table slot. -/
def State.term (s : State) (i : SlotIx) : Option Term := look s.terms i

/-- A Terminal Table slot given new content. -/
def State.setTerm (s : State) (i : SlotIx) (t : Option Term) : State := { s with terms := put s.terms i t }

/-- A change of the Trunk Link Unit. -/
def State.modTrunk (s : State) (f : Trunk → Trunk) : State := { s with trunk := f s.trunk }

/-- A change of the Management Unit. -/
def State.modMgmt (s : State) (f : Mgmt → Mgmt) : State := { s with mgmt := f s.mgmt }

/-- A change of the Frame Classifier's counters. -/
def State.modCls (s : State) (f : ClassifierCounters → ClassifierCounters) : State := { s with cls := f s.cls }

/-- A change of the Handover Engine's counters. -/
def State.modHo (s : State) (f : HandoverCounters → HandoverCounters) : State := { s with ho := f s.ho }

/-- A change of the Crane Link Unit's counters. -/
def State.modCrane (s : State) (f : CraneCounters → CraneCounters) : State := { s with crane := f s.crane }

/-- A change of Coverage Measurement. -/
def State.modCov (s : State) (f : Coverage → Coverage) : State := { s with cov := f s.cov }

/-- A change of the Reefer Report Unit. -/
def State.modReef (s : State) (f : Reefers → Reefers) : State := { s with reef := f s.reef }

/-- A change of the Export Unit. -/
def State.modExp (s : State) (f : ExportUnit → ExportUnit) : State := { s with exp := f s.exp }

/-- A change of one Head Link Unit's counters. -/
def State.countHead (s : State) (h : HeadIx) (f : HeadCounters → HeadCounters) : State :=
  s.modHead h fun d => { d with cnt := f d.cnt }

/-- A change of the Trunk Link Unit's counters. -/
def State.countTrunk (s : State) (f : TrunkCounters → TrunkCounters) : State :=
  s.modTrunk fun t => { t with cnt := f t.cnt }

/-- A change of the Management Unit's counters. -/
def State.countMgmt (s : State) (f : MgmtCounters → MgmtCounters) : State :=
  s.modMgmt fun m => { m with cnt := f m.cnt }

/-- A change of Coverage Measurement's counters. -/
def State.countCov (s : State) (f : CoverageCounters → CoverageCounters) : State :=
  s.modCov fun c => { c with cnt := f c.cnt }

/-- A change of the Reefer Report Unit's counters. -/
def State.countReef (s : State) (f : ReeferCounters → ReeferCounters) : State :=
  s.modReef fun r => { r with cnt := f r.cnt }

/-- A change of the Export Unit's counters. -/
def State.countExp (s : State) (f : ExportCounters → ExportCounters) : State :=
  s.modExp fun x => { x with cnt := f x.cnt }

/-- The global parameters in force. -/
def State.params (s : State) : Params := s.mgmt.params

/-- The uptime in whole seconds, rounded down. -/
def State.seconds (s : State) : Nat := s.uptime / 1000

/-- The part is RUNNING (10.4). -/
def State.running (s : State) : Bool := decide (s.part = .running)

/-- A Reefer Table entry. -/
def State.reefer (s : State) (i : ReeferIx) : Option Reefer := look s.reef.table i

/-- A Reefer Table index given new content. -/
def State.setReefer (s : State) (i : ReeferIx) (r : Option Reefer) : State :=
  s.modReef fun x => { x with table := put x.table i r }

/-! ## Reads -/

/-- The head link state is UP. -/
def HeadLink.isUp : HeadLink → Bool
  | .up _ => true
  | _ => false

/-- The head is UP. -/
def State.isUp (s : State) (h : HeadIx) : Bool := (s.head h).link.isUp

/-- The serving head of a handover state (Table 5-1). -/
def Handover.serving : Handover → Option HeadIx
  | .orphan => none
  | .settled v | .probing v _ | .bicast v _ _ => some v

/-- The candidate head of a handover state (Table 5-1). -/
def Handover.candidate : Handover → Option HeadIx
  | .orphan | .settled _ => none
  | .probing _ c | .bicast _ c _ => some c

/-- The bicast deadline of a handover state (Table 5-1). -/
def Handover.deadline : Handover → Option Nat
  | .bicast _ _ d => some d
  | _ => none

/-- The class of an entry. -/
def ClassPart.cls : ClassPart → TermClass
  | .crane _ => .crane
  | .vehicle => .vehicle
  | .gateway _ _ => .gateway
  | .other => .other

/-- The entry is of class CRANE. -/
def Term.isCrane (t : Term) : Bool := decide (t.part.cls = .crane)

/-- R1: the one occupied slot that holds a terminal number, with its entry. -/
def State.lookup (s : State) (n : TermNo) : Option (SlotIx × Term) :=
  match findIx (fun o : Option Term => o.any fun t => decide (t.number = n)) s.terms with
  | some i => (s.term i).map fun t => (i, t)
  | none => none

/-- R129: the occupied entry that holds a tag, with its index. -/
def State.findTag (s : State) (tag : Nat) : Option (ReeferIx × Reefer) :=
  match findIx (fun o : Option Reefer => o.any fun r => decide (r.tag = tag)) s.reef.table with
  | some i => (s.reefer i).map fun r => (i, r)
  | none => none

/-- R149, R137: the terminal number of the GATEWAY entry that a gateway slot names. -/
def State.gatewayNo (s : State) (g : Option SlotIx) : Option TermNo :=
  match g with
  | some i => (s.term i).map fun t => t.number
  | none => none

/-- Whether a segment lies within a head's window, ends inside (R84, R97). -/
def HeadRecord.covers (r : HeadRecord) (g : SegIx) : Bool :=
  decide (r.winFirst ≤ g.val) && decide (g.val ≤ r.winLast)

/-! ## Notices (10.6) -/

/-- The bit of a kind in a set of kinds: its code less 1 (Table 11-8). -/
def NoticeKind.bit : NoticeKind → Nat
  | .craneLinkLost => 0
  | .craneLinkRestored => 1
  | .handoverFailed => 2
  | .handoverForced => 3
  | .queueOverrun => 4
  | .reanchor => 5
  | .headUp => 6
  | .headOffline => 7
  | .headAlarm => 8
  | .headRebooted => 9
  | .headRestartFailed => 10
  | .guardEntered => 11
  | .guardLeft => 12
  | .coverageThin => 13
  | .gatewaySilent => 14
  | .gatewayResumed => 15
  | .reeferAlarm => 16
  | .reeferClear => 17
  | .reeferSilent => 18
  | .reeferResumed => 19
  | .tableFull => 20

/-- The crane-class kinds (R56). -/
def NoticeKind.isCraneClass : NoticeKind → Bool
  | .craneLinkLost | .craneLinkRestored | .handoverFailed | .handoverForced | .queueOverrun => true
  | _ => false

/-- R56: the notice queue keeps its last four places for crane-class kinds. -/
def noticeAdmitted (held : Nat) (k : NoticeKind) : Bool :=
  decide (held < 28) || (decide (held < 32) && k.isCraneClass)

/-- A notice offered to the notice queue (R54, R56). -/
def offerNotice (n : Notice) (s : State) : State :=
  if noticeAdmitted s.trunk.noticeQ.length n.kind then
    s.modTrunk fun t => { t with noticeQ := t.noticeQ ++ [n] }
  else s.countTrunk fun c => { c with noticeDrop := inc c.noticeDrop }

/-- R163: a notice is raised. -/
def raise (k : NoticeKind) (subject : Nat) (detail : BitVec 16) (s : State) : State :=
  let s := s.modMgmt fun m =>
    { m with
      summary := m.summary ||| (1#21 <<< k.bit)
      cnt := { m.cnt with noticesRaised := inc m.cnt.noticesRaised } }
  if s.mgmt.mask.getLsbD k.bit then
    offerNotice { kind := k, uptime := BitVec.ofNat 32 s.seconds, subject := BitVec.ofNat 32 subject, detail } s
  else s.countMgmt fun c => { c with noticesMasked := inc c.noticesMasked }

/-! ## Requests and replies (10.1, 10.2) -/

/-- How an executed request is answered: an own-node request gets a reply with its code and tag, a
broadcast request none (R154, R155). -/
structure Asker where
  own : Bool
  code : Byte
  tag : Byte
deriving DecidableEq, Repr

/-- The reply appended in the event of its request (R155, R57). -/
def answer (a : Asker) (st : Status) (d : ReplyData) (s : State) : State :=
  if a.own then
    s.modTrunk fun t => { t with replyQ := t.replyQ ++ [{ code := a.code, tag := a.tag, status := st, data := d }] }
  else s

/-- R154, R155, R57: a MGMT frame of any destination. `body` executes the request and answers it. A
request is counted before it acts: R167 says so of an own-node COUNTERS_READ, and for a broadcast one it is the
model's choice, DESIGN CHOICE (log 13). While the reset pin is asserted nothing is taken (R161). -/
def request (h : Hdr) (code : Byte) (body : Asker → State → State) (s : State) : State :=
  if s.inReset then s
  else if h.dest = 255 then
    body { own := false, code, tag := h.tag } (s.countMgmt fun c => { c with broadcasts := inc c.broadcasts })
  else if h.dest = s.node.setWidth 8 then
    if 8 ≤ s.trunk.replyQ.length then s.countTrunk fun c => { c with requestOverrun := inc c.requestOverrun }
    else body { own := true, code, tag := h.tag } (s.countMgmt fun c => { c with requests := inc c.requests })
  else s.countMgmt fun c => { c with otherNode := inc c.otherNode }

/-- Nothing is taken while the reset pin is asserted (R161, R168). -/
def outsideReset (f : State → State) (s : State) : State := if s.inReset then s else f s

/-! ## Head egress queues (2.7) -/

/-- A queue of an open head admits frames: the part RUNNING and the head UP or RESTARTING (R38). -/
def State.headOpen (s : State) (h : HeadIx) : Bool :=
  s.running &&
    match (s.head h).link with
    | .up _ | .restarting _ => true
    | .disabled | .offline => false

/-- The frame is a SETPOINT. -/
def CtlFrame.isSetpoint : CtlFrame → Bool
  | .setpoint _ => true
  | _ => false

/-- The frame is a LOOP_TEST. -/
def CtlFrame.isLoopTest : CtlFrame → Bool
  | .loopTest _ => true
  | _ => false

/-- Whether the control queue admits a frame (Table 2-5). -/
def State.ctlAdmits (s : State) (h : HeadIx) (f : CtlFrame) : Bool :=
  s.headOpen h &&
    ((f.isSetpoint && (s.head h).ctlQ.any CtlFrame.isSetpoint) || decide ((s.head h).ctlQ.length < 8))

/-- A SETPOINT takes the place of a queued SETPOINT, every other frame goes to the back (Table 2-5). -/
def pushCtl (f : CtlFrame) (q : List CtlFrame) : List CtlFrame :=
  if f.isSetpoint && q.any CtlFrame.isSetpoint then q.map fun c => if c.isSetpoint then f else c
  else q ++ [f]

/-- A frame offered to a head's control queue (R38). -/
def offerCtl (h : HeadIx) (f : CtlFrame) (s : State) : State :=
  if s.ctlAdmits h f then s.modHead h fun d => { d with ctlQ := pushCtl f d.ctlQ }
  else if s.headOpen h then
    match f with
    | .order _ _ => s.countHead h fun c => { c with orderBlocked := inc c.orderBlocked }
    | .setpoint _ | .linkLost _ | .loopTest _ => s.countHead h fun c => { c with controlDrop := inc c.controlDrop }
  else s.countHead h fun c => { c with notUpDrop := inc c.notUpDrop }

/-- A CRANE frame offered to a head's crane queue (R38), with the overrun episode of R39. -/
def offerHeadCrane (h : HeadIx) (f : BerthFrame) (s : State) : State :=
  if s.headOpen h then
    if (s.head h).craneQ.length < 16 then s.modHead h fun d => { d with craneQ := d.craneQ ++ [f] }
    else
      let s1 := s.countHead h fun c => { c with craneDrop := inc c.craneDrop }
      if (s.head h).overrun then s1
      else raise .queueOverrun h.val 1 (s1.modHead h fun d => { d with overrun := true })
  else s.countHead h fun c => { c with notUpDrop := inc c.notUpDrop }

/-- A USER frame offered to a head's normal queue (R38). -/
def offerHeadNormal (h : HeadIx) (f : BerthFrame) (s : State) : State :=
  if s.headOpen h then
    if (s.head h).normalQ.length < 64 then s.modHead h fun d => { d with normalQ := d.normalQ ++ [f] }
    else s.countHead h fun c => { c with normalDrop := inc c.normalDrop }
  else s.countHead h fun c => { c with notUpDrop := inc c.notUpDrop }

/-- R41: all three queues of a head are emptied and counted. It clears the overrun flag (R39), and a
SETPOINT it removes makes the last setpoint absent (R116). -/
def flush (h : HeadIx) (s : State) : State :=
  let d := s.head h
  let s1 := s.modHead h fun d =>
    { d with
      ctlQ := [], craneQ := [], normalQ := [], overrun := false
      cnt := { d.cnt with flushed := satAdd d.cnt.flushed (d.ctlQ.length + d.craneQ.length + d.normalQ.length) } }
  if d.ctlQ.any CtlFrame.isSetpoint then s1.modLoop h fun l => { l with lastSet := none } else s1

/-! ## Trunk egress queues (3.4) -/

/-- A CRANE frame offered to the trunk crane uplink queue (R54), with the overrun episode of R55. -/
def offerTrunkCrane (f : BerthFrame) (s : State) : State :=
  if s.trunk.craneQ.length < 16 then s.modTrunk fun t => { t with craneQ := t.craneQ ++ [f] }
  else
    let s1 := s.countTrunk fun c => { c with craneDrop := inc c.craneDrop }
    if s.trunk.overrun then s1
    else raise .queueOverrun 12 2 (s1.modTrunk fun t => { t with overrun := true })

/-- A USER frame offered to the trunk normal uplink queue (R54). -/
def offerTrunkNormal (f : BerthFrame) (s : State) : State :=
  if s.trunk.normalQ.length < 128 then s.modTrunk fun t => { t with normalQ := t.normalQ ++ [f] }
  else s.countTrunk fun c => { c with normalDrop := inc c.normalDrop }

/-- The outcome of a command: every command answers a next state. -/
abbrev Out := Host.Outcome State Fault Refusal

end Sys2Proof.Machine
end

