-- ==== Sys2Proof/Machine/Handover.lean ====
section
/-! DEFINITION. The Handover Engine (chapter 5) with the Segment Table (1.3): segments, anchoring, strays, departures, evaluation of reports, handovers, bicasts. -/

namespace Sys2Proof.Machine
open Sys2Proof

/-! ## The Segment Table (R13 to R15) -/

/-- The counts of a segment changed for the class concerned; VEHICLE and OTHER are counted nowhere (R15). -/
def bumpSeg (p : ClassPart) (f : Nat → Nat) (g : Seg) : Seg :=
  match p with
  | .crane _ => { g with cranes := f g.cranes }
  | .gateway _ _ => { g with gateways := f g.gateways }
  | .vehicle | .other => g

/-- One count of one segment changed. -/
def modSeg (p : ClassPart) (f : Nat → Nat) (o : Option SegIx) (v : Vector Seg 48) : Vector Seg 48 :=
  match o with
  | some g => put v g (bumpSeg p f (look v g))
  | none => v

/-- R15: the counts follow an entry's segment from an old to a new value. -/
def moveSeg (p : ClassPart) (old new : Option SegIx) (s : State) : State :=
  if old = new then s
  else { s with segs := modSeg p (· + 1) new (modSeg p (· - 1) old s.segs) }

/-- R14: the segment that a report's value records. -/
def segmentOf (b : Byte) : Option SegIx := ix? 48 b.toNat

/-- R14, R16: the report's segment is recorded, with its counts. -/
def recordSegment (i : SlotIx) (b : Byte) (s : State) : State :=
  match s.term i with
  | none => s
  | some t =>
    let new := segmentOf b
    let s := moveSeg t.part t.segment new (s.setTerm i (some { t with segment := new }))
    if 48 ≤ b.toNat ∧ b.toNat ≠ 63 then s.modHo fun c => { c with segmentInvalid := inc c.segmentInvalid } else s

/-! ## Orphaning and bicast endings -/

/-- R19: the handover values of an orphaned entry; the segment is kept. -/
def Term.orphaned (t : Term) : Term :=
  { t with ho := .orphan, probe := 0, holdoff := 0, stray := 0, lsq := none }

/-- R80: an entry is orphaned by a head departure. -/
def orphanEntry (i : SlotIx) (t : Term) (s : State) : State :=
  (s.setTerm i (some t.orphaned)).modHo fun c => { c with orphanings := inc c.orphanings }

/-- The entry SETTLED on a head with the hold-off, stray count 0 and the last serving quality absent
(R79, R91, R93). -/
def Term.movedTo (t : Term) (h : HeadIx) (holdoff : Nat) : Term :=
  { t with ho := .settled h, probe := 0, stray := 0, holdoff, lsq := none }

/-- R92: the entry back on its serving head; the stray count and the last serving quality are kept. -/
def Term.revertedTo (t : Term) (h : HeadIx) (holdoff : Nat) : Term :=
  { t with ho := .settled h, probe := 0, holdoff }

/-- R93: a bicast is forced to completion by the departure of its old serving head. -/
def forceBicast (i : SlotIx) (t : Term) (old new : HeadIx) (s : State) : State :=
  raise .handoverForced t.number.toNat (halves new.val old.val)
    ((s.setTerm i (some (t.movedTo new s.params.holdoff))).modHo fun c => { c with bicastForced := inc c.bicastForced })

/-- R93: a bicast is reverted by the departure of its candidate, cause 2. -/
def loseCandidate (i : SlotIx) (t : Term) (serving candidate : HeadIx) (s : State) : State :=
  raise .handoverFailed t.number.toNat (halves candidate.val 2)
    ((s.setTerm i (some (t.revertedTo serving s.params.holdoff))).modHo fun c =>
      { c with bicastCandidateLost := inc c.bicastCandidateLost })

/-- Table 5-3 for one entry: what the departure of head d does to it. -/
def departEntry (d : HeadIx) (warm : Bool) (s : State) (i : SlotIx) : State :=
  match s.term i with
  | none => s
  | some t =>
    match t.ho with
    | .orphan => s
    | .settled v => if v = d ∧ warm = false then orphanEntry i t s else s
    | .probing v c =>
      if v = d then if warm then s else orphanEntry i t s
      else if c = d then s.setTerm i (some { t with ho := .settled v, probe := 0 })
      else s
    | .bicast v c _ =>
      if v = d then forceBicast i t v c s
      else if c = d then loseCandidate i t v c s
      else s

/-- R80: the departure of head d, the entries taken in slot order. -/
def departure (d : HeadIx) (warm : Bool) (s : State) : State :=
  (List.finRange 256).foldl (departEntry d warm) s

/-- R29: the number of terminals a head is serving. -/
def servedCount (d : HeadIx) (s : State) : Nat :=
  countTab (fun o : Option Term => o.any fun t => decide (t.ho.serving = some d)) s.terms

/-! ## Frames through heads (R76 to R79, R91) -/

/-- R79: the entry is re-anchored on g. -/
def reanchor (i : SlotIx) (t : Term) (g old : HeadIx) (s : State) : State :=
  raise .reanchor t.number.toNat (halves g.val old.val)
    ((s.setTerm i (some (t.movedTo g s.params.holdoff))).modHo fun c => { c with reanchors := inc c.reanchors })

/-- R78, R79: a stray frame through head g. -/
def strayFrame (i : SlotIx) (t : Term) (g old : HeadIx) (s : State) : State :=
  if s.params.strayLimit ≤ t.stray + 1 then reanchor i t g old s
  else s.setTerm i (some { t with stray := t.stray + 1 })

/-- Step 2 of R76: the head a frame came through is judged against the entry. -/
def judgeHead (i : SlotIx) (h : HeadIx) (s : State) : State :=
  match s.term i with
  | none => s
  | some t =>
    match t.ho with
    | .orphan =>
      (s.setTerm i (some { t with ho := .settled h, probe := 0, holdoff := 0, stray := 0, lsq := none })).modHo fun c =>
        { c with anchors := inc c.anchors }
    | .settled v => if v = h then s.setTerm i (some { t with stray := 0 }) else strayFrame i t h v s
    | .probing v _ => if v = h then s.setTerm i (some { t with stray := 0 }) else strayFrame i t h v s
    | .bicast v c _ =>
      if v = h then s.setTerm i (some { t with stray := 0 })
      else if c = h then
        (s.setTerm i (some (t.movedTo c s.params.holdoff))).modHo fun c => { c with bicastSuccess := inc c.bicastSuccess }
      else strayFrame i t h v s

/-! ## Quality entries (R30, R82) -/

/-- R30: a quality clamped, trimmed by the record of the head named, and clamped again. -/
def trimmed (s : State) (h : HeadIx) (q : BitVec 16) : Int :=
  clampQuality (clampQuality q.toInt + (s.head h).record.trim)

/-- The usable entries of a report, in order, with the entries set aside that are counted (R82). -/
structure Sorted where
  usable : List (HeadIx × Int)
  badHead : Nat
  repeated : Nat
deriving DecidableEq, Repr

/-- R82: the entries in the order in which they stand; `seen` are the heads already named. -/
def sortEntries (s : State) (seen : List HeadIx) : List MeasEntry → Sorted
  | [] => { usable := [], badHead := 0, repeated := 0 }
  | e :: es =>
    match ix? 12 e.head.toNat with
    | none =>
      let r := sortEntries s seen es
      { r with badHead := r.badHead + 1 }
    | some h =>
      if h ∈ seen then
        let r := sortEntries s seen es
        { r with repeated := r.repeated + 1 }
      else
        let r := sortEntries s (h :: seen) es
        if s.isUp h then { r with usable := (h, trimmed s h e.quality) :: r.usable } else r

/-- The quality a report gives for a head, if it has a usable entry for it. -/
def qualityFor (u : List (HeadIx × Int)) (h : HeadIx) : Option Int := (u.find? fun p => decide (p.1 = h)).map Prod.snd

/-- R82: the last serving quality is stored from a usable entry for the serving head. -/
def storeLsq (i : SlotIx) (u : List (HeadIx × Int)) (s : State) : State :=
  match s.term i with
  | none => s
  | some t =>
    match t.ho.serving with
    | none => s
    | some v =>
      match qualityFor u v with
      | some q => s.setTerm i (some { t with lsq := some q })
      | none => s

/-! ## Evaluation (R83 to R89) -/

/-- R86: whether head t may be a handover target of an entry served by head v. -/
def eligible (s : State) (crane : Bool) (v t : HeadIx) : Bool :=
  s.isUp t && decide (t ≠ v) &&
    (!crane ||
      match (s.loop t).status with
      | .firm | .weak | .unmeasured => true
      | .thin | .guarded => false)

/-- The better of two listed heads: the higher quality, ties to the lower head index (R84, R85). -/
def better (a b : HeadIx × Int) : HeadIx × Int :=
  if b.2 < a.2 ∨ (a.2 = b.2 ∧ a.1 ≤ b.1) then a else b

/-- The best of a list of heads with qualities. -/
def best : List (HeadIx × Int) → Option (HeadIx × Int)
  | [] => none
  | p :: ps => some (ps.foldl better p)

/-- R84: the target of the position trigger for an entry served by v and standing in segment g. -/
def positionTarget (s : State) (crane : Bool) (v : HeadIx) (g : SegIx) (u : List (HeadIx × Int)) : Option HeadIx :=
  let cs := (List.finRange 12).filter fun t => eligible s crane v t && (s.head t).record.covers g
  match best (u.filter fun p => decide (p.1 ∈ cs)) with
  | some p => some p.1
  | none => cs.head?

/-- R85: the best qualifying head of a report; an absent reference qualifies none. -/
def qualityTarget (s : State) (crane : Bool) (v : HeadIx) (ref : Option Int) (u : List (HeadIx × Int)) : Option HeadIx :=
  match ref with
  | none => none
  | some r =>
    (best (u.filter fun p => eligible s crane v p.1 && decide (r + (s.params.hysteresis : Int) ≤ p.2))).map Prod.fst

/-- R87, R88, R89: a handover to target t: the order is offered to the serving head's control queue,
and if it is admitted a crane enters BICAST and every other terminal moves at once; if it is not, the
entry stays as it is. -/
def executeHandover (i : SlotIx) (t : Term) (v target : HeadIx) (u : List (HeadIx × Int)) (s : State) : State :=
  let f := CtlFrame.order t.number target
  let s1 := offerCtl v f s
  if s.ctlAdmits v f then
    if t.isCrane then
      (s1.setTerm i (some { t with ho := .bicast v target (s.uptime + s.params.bicastTimeout), probe := 0 })).modHo fun c =>
        { c with bicastStarts := inc c.bicastStarts }
    else
      (s1.setTerm i (some { t with ho := .settled target, probe := 0, stray := 0, holdoff := s.params.holdoff,
                                   lsq := qualityFor u target })).modHo fun c =>
        { c with hardHandovers := inc c.hardHandovers }
  else s1

/-- The entry after the probing table of R85, where b is the best qualifying head. -/
def Term.probed (t : Term) (v : HeadIx) (cand : Option HeadIx) (b : Option HeadIx) (limit : Nat) : Term :=
  match b, cand with
  | none, none => t
  | none, some _ => { t with ho := .settled v, probe := 0 }
  | some b, none => { t with ho := .probing v b, probe := 1 }
  | some b, some c =>
    if b = c then { t with probe := min (t.probe + 1) limit } else { t with ho := .probing v b, probe := 1 }

/-- R85: the quality trigger for an entry served by v. -/
def qualityTrigger (i : SlotIx) (t : Term) (v : HeadIx) (u : List (HeadIx × Int)) (s : State) : State :=
  let t' := t.probed v t.ho.candidate (qualityTarget s t.isCrane v t.lsq u) s.params.probeLimit
  let s1 := s.setTerm i (some t')
  match t'.ho with
  | .probing v c => if s.params.probeLimit ≤ t'.probe then executeHandover i t' v c u s1 else s1
  | .orphan | .settled _ | .bicast _ _ _ => s1

/-- R84: the position trigger for an entry served by v whose segment g lies outside v's window. -/
def positionTrigger (i : SlotIx) (t : Term) (v : HeadIx) (g : SegIx) (u : List (HeadIx × Int)) (s : State) : State :=
  match positionTarget s t.isCrane v g u with
  | some target => executeHandover i t v target u s
  | none => s.modHo fun c => { c with noCover := inc c.noCover }

/-- R83: evaluation of a report for an entry served by v in SETTLED or PROBING. -/
def evaluateServed (i : SlotIx) (t : Term) (v : HeadIx) (u : List (HeadIx × Int)) (s : State) : State :=
  if 0 < t.holdoff then s.setTerm i (some { t with holdoff := t.holdoff - 1 })
  else
    match t.segment with
    | some g => if (s.head v).record.covers g then qualityTrigger i t v u s else positionTrigger i t v g u s
    | none => qualityTrigger i t v u s

/-- R83: a report is evaluated in SETTLED and PROBING alone. -/
def evaluate (i : SlotIx) (u : List (HeadIx × Int)) (s : State) : State :=
  match s.term i with
  | none => s
  | some t =>
    match t.ho with
    | .settled v => evaluateServed i t v u s
    | .probing v _ => evaluateServed i t v u s
    | .orphan | .bicast _ _ _ => s

/-- Step 3 of R76 for a report whose entries are sorted. -/
def engineReport (i : SlotIx) (r : Sorted) (s : State) : State :=
  let s := s.modHo fun c =>
    { c with measBadHead := satAdd c.measBadHead r.badHead, measRepeatHead := satAdd c.measRepeatHead r.repeated }
  evaluate i r.usable (storeLsq i r.usable s)

/-! ## BICAST_DEADLINE_EXPIRY (R92) -/

/-- R92: the bicast deadline of an entry expires; a deadline absent or not yet due does not (log 3). -/
def bicastExpiry (i : SlotIx) (s : State) : State :=
  match s.term i with
  | none => s
  | some t =>
    match t.ho with
    | .bicast v c d =>
      if d ≤ s.uptime then
        raise .handoverFailed t.number.toNat (halves c.val 1)
          ((s.setTerm i (some (t.revertedTo v s.params.holdoff))).modHo fun k =>
            { k with bicastTimeout := inc k.bicastTimeout })
      else s
    | .orphan | .settled _ | .probing _ _ => s

/-- BICAST_DEADLINE_EXPIRY. -/
def execBicastDeadlineExpiry (slot : SlotIx) (s : State) : Out := .next (outsideReset (bicastExpiry slot) s)

end Sys2Proof.Machine
end

