-- ==== Sys2Proof/Machine/Cranes.lean ====
section
/-! DEFINITION. The Crane Link Unit (chapter 4): the duplicate window, the link watchdog, CRANE_DORMANT. -/

namespace Sys2Proof.Machine
open Sys2Proof

/-! ## The duplicate window (R63 to R65) -/

/-- What the duplicate window decides (Table 4-2). -/
inductive WindowDecision where
  | accept | duplicate | stale
deriving DecidableEq, Repr

/-- R65: the history after a frame ahead by d places: every flag moves d places, and the old highest
sequence is marked at distance d. Bit k − 1 is the flag at distance k. -/
def shiftHistory (d : Nat) (old : BitVec 32) : BitVec 32 :=
  if d ≤ 32 then (old <<< d) ||| (1#32 <<< (d - 1)) else 0

/-- R63, R64: the decision on sequence number q, and the crane part afterwards. -/
def windowStep (c : CranePart) (q : BitVec 16) : WindowDecision × CranePart :=
  if c.valid = false then (.accept, { c with valid := true, highest := q, history := 0 })
  else
    let d := (q - c.highest).toNat
    if d = 0 then (.duplicate, c)
    else if d ≤ 32767 then (.accept, { c with highest := q, history := shiftHistory d c.history })
    else
      let b := 65536 - d
      if 32 < b then (.stale, c)
      else if c.history.getLsbD (b - 1) then (.duplicate, c)
      else (.accept, { c with history := c.history ||| (1#32 <<< (b - 1)) })

/-- R67: the window made not valid, H 0 and the history clear. -/
def CranePart.invalidated (c : CranePart) : CranePart := { c with valid := false, highest := 0, history := 0 }

/-- R74: the decision is counted. -/
def countDecision (d : WindowDecision) (s : State) : State :=
  s.modCrane fun c =>
    match d with
    | .accept => { c with accepted := inc c.accepted }
    | .duplicate => { c with duplicate := inc c.duplicate }
    | .stale => { c with stale := inc c.stale }

/-! ## The watchdog (R68, R69) -/

/-- R68: activity of the crane in a slot, heard through head h. -/
def craneActivity (i : SlotIx) (h : HeadIx) (s : State) : State :=
  match s.term i with
  | none => s
  | some t =>
    match t.part with
    | .crane c =>
      let live := s.setTerm i (some { t with part := .crane { c with link := .live (s.uptime + s.params.craneWatchdog) } })
      match c.link with
      | .unheard | .live _ => live
      | .lost =>
        raise .craneLinkRestored t.number.toNat (BitVec.ofNat 16 h.val)
          (live.modCrane fun k => { k with restores := inc k.restores })
      | .dormant => s
    | .vehicle | .gateway _ _ | .other => s

/-- R69, R70: the crane in a slot is lost: LOST, the window not valid, the notice, and LINK_LOST
offered to the serving head if there is one. -/
def craneLost (i : SlotIx) (t : Term) (c : CranePart) (s : State) : State :=
  let s1 := (s.setTerm i (some { t with part := .crane { c.invalidated with link := .lost } })).modCrane fun k =>
    { k with losses := inc k.losses }
  match t.ho.serving with
  | some v => offerCtl v (.linkLost t.number) (raise .craneLinkLost t.number.toNat (BitVec.ofNat 16 v.val) s1)
  | none => raise .craneLinkLost t.number.toNat 255 s1

/-- R69: the watchdog deadline expires; absent or not yet due, it does not (log 3). -/
def watchdogExpiry (i : SlotIx) (s : State) : State :=
  match s.term i with
  | none => s
  | some t =>
    match t.part with
    | .crane c =>
      match c.link with
      | .live d => if d ≤ s.uptime then craneLost i t c s else s
      | .unheard | .lost | .dormant => s
    | .vehicle | .gateway _ _ | .other => s

/-- CRANE_WATCHDOG_EXPIRY. -/
def execCraneWatchdogExpiry (slot : SlotIx) (s : State) : Out := .next (outsideReset (watchdogExpiry slot) s)

/-! ## CRANE_DORMANT (R73) -/

/-- R73: the crane part after CRANE_DORMANT. -/
def CranePart.parked (on : Bool) (c : CranePart) : CranePart :=
  { c.invalidated with link := if on then .dormant else .unheard }

/-- R73: CRANE_DORMANT executed. -/
def craneDormantBody (p : Option CraneDormantP) (a : Asker) (s : State) : State :=
  match p with
  | none => answer a .badParam .empty s
  | some p =>
    match ix? 256 p.slot.toNat, p.setting with
    | some i, some on =>
      match s.term i with
      | none => answer a .notFound .empty s
      | some t =>
        match t.part with
        | .crane c => answer a .done .empty (s.setTerm i (some { t with part := .crane (c.parked on) }))
        | .vehicle | .gateway _ _ | .other => answer a .wrongState .empty s
    | _, _ => answer a .badParam .empty s

/-- CRANE_DORMANT. -/
def execCraneDormant (h : Hdr) (p : Option CraneDormantP) (s : State) : Out := .next (request h 10 (craneDormantBody p) s)

end Sys2Proof.Machine
end

