-- ==== Sys2Proof/Machine/Loop.lean ====
section
/-! DEFINITION. The Coverage Loop Unit (chapter 7): output and setpoints, the update, the interference guard, GUARD_RELEASE. -/

namespace Sys2Proof.Machine
open Sys2Proof

/-! ## Output and setpoints (7.1, 7.6) -/

/-- R110: the offset the part wants the head to use. -/
def State.output (s : State) (h : HeadIx) : Nat :=
  if (s.loop h).guarded then (s.head h).record.pMin else (s.loop h).u

/-- R116: a SETPOINT is offered and recorded as the last setpoint, which is absent if it is refused. -/
def offerSetpoint (h : HeadIx) (v : Nat) (s : State) : State :=
  (offerCtl h (.setpoint v) s).modLoop h fun l =>
    { l with lastSet := if s.ctlAdmits h (.setpoint v) then some v else none }

/-- The head's output is offered as a SETPOINT (R24, R29, R118, R119). -/
def offerOutput (h : HeadIx) (s : State) : State := offerSetpoint h (s.output h) s

/-! ## The update (7.3) -/

/-- The lesser of two qualities, where one may be missing. -/
def minOpt (a : Option Int) (b : Int) : Option Int :=
  match a with
  | some x => some (if x ≤ b then x else b)
  | none => some b

/-- The average of a FRESH cell (R112). -/
def freshAverage (c : Cell) : Option Int :=
  match c.state with
  | .fresh => c.avg
  | .none | .sparse => none

/-- R112: the edge quality, the least average among a head's FRESH cells. -/
def edgeQuality (cells : Vector Cell 48) : Option Int :=
  (cells.toList.filterMap freshAverage).foldl minOpt none

/-- R112: the cranes a head serves. -/
def cranesServed (h : HeadIx) (s : State) : Nat :=
  countTab (fun o : Option Term => o.any fun t => t.isCrane && decide (t.ho.serving = some h)) s.terms

/-- R112: the target of a head. -/
def loopTarget (h : HeadIx) (s : State) : Int :=
  (s.head h).record.baseTarget + s.params.craneMargin * (min (cranesServed h s) 4 : Nat)

/-- R113, stage 1: the velocity sum. -/
def velocitySum (r : HeadRecord) (e e1 e2 : Int) : Int :=
  r.kp * (e - e1) + r.ki * e + r.kd * (e - 2 * e1 + e2)

/-- R113, stage 2, before the slew limit. -/
def rawStep (r : HeadRecord) (l : LoopState) (e : Int) : Int := roundDiv (velocitySum r e l.e1 l.e2) 256

/-- R113, stage 2: the step within the slew limit. -/
def slewStep (r : HeadRecord) (l : LoopState) (e : Int) : Int := clampInt (-(r.slew : Int)) r.slew (rawStep r l e)

/-- R113, stage 3: the new offset, before and after the clamp into the head's limits. -/
def newOffset (r : HeadRecord) (l : LoopState) (e : Int) : Int × Nat :=
  let sum := (l.u : Int) + slewStep r l e
  (sum, (clampInt r.pMin r.pMax sum).toNat)

/-- R114: the coverage status from the edge quality, the target, the new offset and the thin margin. -/
def statusOf (q target : Int) (u pMax thinMargin : Nat) : CovStatus :=
  if target - thinMargin ≤ q then .firm else if u = pMax then .thin else .weak

/-- R113: the loop state after stages 1 to 4. -/
def LoopState.stepped (l : LoopState) (r : HeadRecord) (e : Int) : LoopState :=
  let n := newOffset r l e
  { l with
    u := n.2, e1 := e, e2 := l.e1
    cnt := { l.cnt with
      updates := inc l.cnt.updates
      slewClamps := if slewStep r l e = rawStep r l e then l.cnt.slewClamps else inc l.cnt.slewClamps
      rangeClamps := if (n.2 : Int) = n.1 then l.cnt.rangeClamps else inc l.cnt.rangeClamps } }

/-- R114: the status stage, with COVERAGE_THIN on entry to THIN. -/
def setStatus (h : HeadIx) (q target e : Int) (s : State) : State :=
  let l := s.loop h
  if l.guarded then s
  else
    let st := statusOf q target l.u (s.head h).record.pMax s.params.thinMargin
    let s1 := s.modLoop h fun l => { l with status := st }
    if st = .thin ∧ l.status ≠ .thin then raise .coverageThin h.val (halves l.u e.toNat) s1 else s1

/-- R115: the setpoint stage. -/
def updateSetpoint (h : HeadIx) (s : State) : State :=
  let l := s.loop h
  if l.guarded ∨ l.lastSet = some l.u then s else offerSetpoint h l.u s

/-- R112 to R115: the update of one head. -/
def loopUpdate (h : HeadIx) (s : State) : State :=
  match edgeQuality (look s.cov.cells h) with
  | none =>
    s.modLoop h fun l =>
      { l with
        status := if l.guarded then l.status else .unmeasured
        cnt := { l.cnt with unmeasuredUpdates := inc l.cnt.unmeasuredUpdates } }
  | some q =>
    let target := loopTarget h s
    let e := clampInt (-255) 255 (target - q)
    let s1 := s.modLoop h fun l => l.stepped (s.head h).record e
    updateSetpoint h (setStatus h q target e s1)

/-- R111: a head is updated at a close while UP or RESTARTING. -/
def updateIfLinked (s : State) (h : HeadIx) : State :=
  match (s.head h).link with
  | .up _ | .restarting _ => loopUpdate h s
  | .disabled | .offline => s

/-- R111: the close offered to the loop with its period index: heads in ascending order, when the index
is a multiple of the loop divider. -/
def loopClose (index : BitVec 8) (s : State) : State :=
  if index.toNat % s.params.loopDivider = 0 then (List.finRange 12).foldl updateIfLinked s else s

/-! ## The interference guard (7.7) -/

/-- R118: the head enters GUARDED. -/
def enterGuarded (h : HeadIx) (noise : Byte) (s : State) : State :=
  let s1 := s.modLoop h fun l =>
    { l with guarded := true, status := .guarded, run := 0, cnt := { l.cnt with guardEntries := inc l.cnt.guardEntries } }
  raise .guardEntered h.val (BitVec.ofNat 16 noise.toNat) (offerSetpoint h (s.head h).record.pMin s1)

/-- R119: the head leaves GUARDED with a cause. -/
def leaveGuarded (h : HeadIx) (cause : Nat) (s : State) : State :=
  let s1 := s.modLoop h fun l => { l with guarded := false, status := .unmeasured, run := 0 }
  raise .guardLeft h.val (BitVec.ofNat 16 cause) (offerSetpoint h (s.loop h).u s1)

/-- The guard run of a head set. -/
def setRun (h : HeadIx) (n : Nat) (s : State) : State := s.modLoop h fun l => { l with run := n }

/-- R118, R119: the guard evaluates the noise rise of a HEADSTAT. -/
def guardEval (h : HeadIx) (noise : Byte) (s : State) : State :=
  let r := (s.head h).record
  let l := s.loop h
  let noisy := decide (r.guardLimit < noise.toNat)
  if l.guarded then
    if r.guardLimit = 0 then leaveGuarded h 3 s
    else if r.autoRestore then
      if noisy then setRun h 0 s
      else if r.guardCount ≤ l.run + 1 then leaveGuarded h 1 s
      else setRun h (l.run + 1) s
    else setRun h 0 s
  else if r.guardLimit = 0 then setRun h 0 s
  else if noisy then
    if r.guardCount ≤ l.run + 1 then enterGuarded h noise s else setRun h (l.run + 1) s
  else setRun h 0 s

/-- R120: GUARD_RELEASE executed. -/
def guardReleaseBody (p : Option Byte) (a : Asker) (s : State) : State :=
  match p with
  | none => answer a .badParam .empty s
  | some b =>
    match ix? 12 b.toNat with
    | none => answer a .badParam .empty s
    | some h =>
      if (s.loop h).guarded then answer a .done .empty (leaveGuarded h 2 s)
      else answer a .wrongState .empty s

/-- GUARD_RELEASE. -/
def execGuardRelease (h : Hdr) (p : Option Byte) (s : State) : Out := .next (request h 15 (guardReleaseBody p) s)

end Sys2Proof.Machine
end

