-- ==== Sys2Proof/Machine/Coverage.lean ====
section
/-! DEFINITION. Coverage Measurement (chapter 6): samples, the penalty, the close, window changes, CELL_READ and SEG_READ. -/

namespace Sys2Proof.Machine
open Sys2Proof

/-! ## Cells -/

/-- The cell of a head and a segment. -/
def State.cell (s : State) (h : HeadIx) (g : SegIx) : Cell := look (look s.cov.cells h) g

/-- A change of one cell. -/
def State.modCell (s : State) (h : HeadIx) (g : SegIx) (f : Cell → Cell) : State :=
  s.modCov fun c => { c with cells := put c.cells h (put (look c.cells h) g (f (look (look c.cells h) g))) }

/-- R99: a sample added to a cell that is not full. -/
def Cell.add (q : Int) (c : Cell) : Cell := { c with sum := c.sum + q, count := c.count + 1 }

/-- R99: one sample offered to a cell; `report` says that it comes from a report and is counted. -/
def admitSample (report : Bool) (h : HeadIx) (g : SegIx) (q : Int) (s : State) : State :=
  if (s.cell h g).count < 65535 then
    let s1 := s.modCell h g (Cell.add q)
    if report then s1.countCov fun c => { c with samplesAdmitted := inc c.samplesAdmitted } else s1
  else s.countCov fun c => { c with countFull := inc c.countFull }

/-- R98: a usable quality entry of a report whose terminal stands in segment g. -/
def sampleEntry (g : SegIx) (s : State) (p : HeadIx × Int) : State :=
  if (s.head p.1).record.covers g then admitSample true p.1 g p.2 s
  else s.countCov fun c => { c with outOfWindow := inc c.outOfWindow }

/-- R98: the samples of a report, against the segment just recorded. -/
def reportSamples (i : SlotIx) (u : List (HeadIx × Int)) (s : State) : State :=
  match s.term i with
  | some t =>
    match t.segment with
    | some g => u.foldl (sampleEntry g) s
    | none => s
  | none => s

/-! ## The close (R101 to R103) -/

/-- R101: the penalty samples of one gateway. -/
def penaltySamples (h : HeadIx) (g : SegIx) : Nat → State → State
  | 0, s => s
  | n + 1, s => penaltySamples h g n (admitSample false h g (-80) s)

/-- R101: the gateway is SILENT. -/
def ClassPart.isSilentGateway : ClassPart → Bool
  | .gateway (.silent _) _ => true
  | _ => false

/-- R101: the silence penalty for the entry of one slot. -/
def penaltyEntry (s : State) (i : SlotIx) : State :=
  match s.term i with
  | none => s
  | some t =>
    if t.part.isSilentGateway then
      match t.ho.serving, t.segment with
      | some h, some g =>
        if (s.head h).record.covers g then
          if (look s.segs g).cranes = 0 then
            (penaltySamples h g s.params.penaltyWeight s).countCov fun c => { c with penaltyApplied := inc c.penaltyApplied }
          else s.countCov fun c => { c with penaltySuppressed := inc c.penaltySuppressed }
        else s
      | _, _ => s
    else s

/-- R101: the penalty, gateways in slot order, when it is enabled. -/
def penalty (s : State) : State :=
  if s.params.penaltyEnable then (List.finRange 256).foldl penaltyEntry s else s

/-- R102: a live cell after the close. -/
def Cell.averaged (minSamples : Nat) (c : Cell) : Cell :=
  if minSamples ≤ c.count then { c with avg := some (roundDiv c.sum c.count), state := .fresh }
  else { c with state := .sparse }

/-- R103: the sum and the count set to 0. -/
def Cell.zeroed (c : Cell) : Cell := { c with sum := 0, count := 0 }

/-- R102, R103: every live cell averaged, then every sum and count set to 0. -/
def closeCells (s : State) : Vector (Vector Cell 48) 12 :=
  tabulate fun h => tabulate fun g =>
    let c := s.cell h g
    (if (s.head h).record.covers g then c.averaged s.params.minSamples else c).zeroed

/-- R100 to R103, R111: the coverage period close. -/
def coverageClose (s : State) : State :=
  let s1 := penalty s
  let s2 := s1.modCov fun c =>
    { c with
      cells := closeCells s1
      index := c.index + 1
      deadline := some (s1.uptime + s1.params.coveragePeriod * 1000)
      cnt := { c.cnt with closes := inc c.cnt.closes } }
  loopClose s2.cov.index s2

/-- R100: the period deadline expires; absent or not yet due, it does not (log 3). -/
def coverageExpiry (s : State) : State := if due s.cov.deadline s.uptime then coverageClose s else s

/-- COVERAGE_PERIOD_EXPIRY. -/
def execCoveragePeriodExpiry (s : State) : Out := .next (outsideReset coverageExpiry s)

/-! ## Window changes (R105) -/

/-- R105: the cells of head h when its record changes from `old` to `new`. -/
def windowChange (h : HeadIx) (old new : HeadRecord) (s : State) : State :=
  if old.winFirst = new.winFirst ∧ old.winLast = new.winLast then s
  else s.modCov fun c =>
    { c with
      cells := put c.cells h (tabulate fun g =>
        if old.covers g && new.covers g then look (look c.cells h) g else Cell.cleared) }

/-! ## CELL_READ and SEG_READ (R106, R107) -/

/-- The segments from a first to a last, ascending. -/
def segRange (first last : Nat) : List SegIx :=
  (List.finRange 48).filter fun g => decide (first ≤ g.val) && decide (g.val ≤ last)

/-- R106: CELL_READ executed. -/
def cellReadBody (p : Option CellReadP) (a : Asker) (s : State) : State :=
  match p with
  | none => answer a .badParam .empty s
  | some p =>
    match ix? 12 p.head.toNat with
    | none => answer a .badParam .empty s
    | some h =>
      let last := min p.last.toNat 47
      if last < p.first.toNat then answer a .badParam .empty s
      else
        let r := (s.head h).record
        answer a (if 47 < p.last.toNat then .clamped else .done)
          (.cells h r.winFirst r.winLast s.cov.index (left s.cov.deadline s.uptime)
            ((segRange p.first.toNat last).map fun g => s.cell h g)) s

/-- CELL_READ. -/
def execCellRead (h : Hdr) (p : Option CellReadP) (s : State) : Out := .next (request h 16 (cellReadBody p) s)

/-- R107: SEG_READ executed. -/
def segReadBody (p : Option SegReadP) (a : Asker) (s : State) : State :=
  match p with
  | none => answer a .badParam .empty s
  | some p =>
    let last := min p.last.toNat 47
    if last < p.first.toNat then answer a .badParam .empty s
    else
      answer a (if 47 < p.last.toNat then .clamped else .done)
        (.segs ((segRange p.first.toNat last).map fun g => look s.segs g)) s

/-- SEG_READ. -/
def execSegRead (h : Hdr) (p : Option SegReadP) (s : State) : Out := .next (request h 17 (segReadBody p) s)

end Sys2Proof.Machine
end

