-- ==== Sys2Proof/Machine/HeadLinks.lean ====
section
/-! DEFINITION. The Head Link Units (chapter 2): link states, head status, alarms, restarts, loop tests, egress service, and the requests HEAD_LOAD, HEAD_READ, HEAD_RESTART, HEAD_LOOPTEST. -/

namespace Sys2Proof.Machine
open Sys2Proof

/-! ## Loop tests (2.6) -/

/-- R37, R156: a reply offered later, when its operation ends; lost and counted if the queue is full. -/
def offerLoopReply (h : HeadIx) (t : LoopTest) (r : LoopResult) (s : State) : State :=
  if t.replies then
    if s.trunk.replyQ.length < 8 then
      s.modTrunk fun k => { k with replyQ := k.replyQ ++ [{ code := 14, tag := t.tag, status := .done, data := .loopTest r }] }
    else s.countHead h fun c => { c with replyLost := inc c.replyLost }
  else s

/-- R37: a loop test in flight leaves the head: its pattern and deadline cleared, its LOOP_TEST frame
withdrawn from the control queue or discarded unsent. -/
def Head.withoutTest (d : Head) : Head :=
  { d with loopTest := none, ctlQ := d.ctlQ.filter fun c => !c.isLoopTest }

/-- R37: a loop test in flight ends with a result. -/
def endLoopTest (h : HeadIx) (r : LoopResult) (s : State) : State :=
  match (s.head h).loopTest with
  | none => s
  | some t => offerLoopReply h t r (s.modHead h Head.withoutTest)

/-- R37: how many of the bytes are not the complement of the stored byte at the same position. -/
def mismatches (pattern bytes : Vector Byte 16) : Nat :=
  (List.zip pattern.toList bytes.toList).countP fun p => decide (p.2 ≠ ~~~p.1)

/-- R37: the result of an ECHO. -/
def echoResult (pattern bytes : Vector Byte 16) : LoopResult :=
  match mismatches pattern bytes with
  | 0 => .pass
  | n + 1 => .fail (n + 1)

/-- R37, R23, R32: an ECHO frame taken from a head. -/
def echoFrame (h : HeadIx) (bytes : Vector Byte 16) (s : State) : State :=
  if s.isUp h then
    match (s.head h).loopTest with
    | some t => endLoopTest h (echoResult t.pattern bytes) s
    | none => s.countHead h fun c => { c with echoUnexpected := inc c.echoUnexpected }
  else s.countHead h fun c => { c with rxNotUp := inc c.rxNotUp }

/-- ECHO. -/
def execEcho (h : HeadIx) (bytes : Vector Byte 16) (s : State) : Out := .next (outsideReset (echoFrame h bytes) s)

/-- R37: the loop test deadline expires. -/
def loopTestExpiry (h : HeadIx) (s : State) : State :=
  match (s.head h).loopTest with
  | some t => if t.deadline ≤ s.uptime then endLoopTest h .noEcho s else s
  | none => s

/-- LOOP_TEST_DEADLINE_EXPIRY. -/
def execLoopTestDeadlineExpiry (h : HeadIx) (s : State) : Out := .next (outsideReset (loopTestExpiry h) s)

/-! ## Leaving a state (R26) -/

/-- R26: the consequences of a head leaving UP or RESTARTING for another link state, in the order of
its table (log 10). A WARM restart keeps the serving terminals and the queues. -/
def headGone (h : HeadIx) (next : HeadLink) (warm : Bool) (s : State) : State :=
  let s1 := departure h warm (s.modHead h fun d => { d with link := next })
  let s2 := if warm then s1 else flush h s1
  (endLoopTest h .headLost s2).modHead h fun d => { d with alarms := 0 }

/-- R25, R34: the head goes OFFLINE with a HEAD_OFFLINE notice. -/
def goOffline (h : HeadIx) (cause : Nat) (s : State) : State :=
  headGone h .offline false (raise .headOffline h.val (BitVec.ofNat 16 cause) s)

/-! ## Head status (2.3) -/

/-- R28: the active set formed from reported flags. -/
def activeSet (mask sense flags : Byte) : Byte := mask &&& (flags ^^^ sense)

/-- R28: an alarm evaluation. -/
def evalAlarms (h : HeadIx) (flags : Byte) (s : State) : State :=
  let d := s.head h
  let now := activeSet d.record.alarmMask d.record.alarmSense flags
  let fresh := now &&& ~~~d.alarms
  let s1 := s.modHead h fun d => { d with alarms := now }
  if fresh = 0 then s1 else raise .headAlarm h.val (halves fresh.toNat now.toNat) s1

/-- The head silence deadline armed at now (R24, R27). -/
def State.silenceAt (s : State) : Nat := s.uptime + s.params.headSilence * 1000

/-- R24: the head enters UP on a HEADSTAT; `tell` says whether a SETPOINT is queued (R33). -/
def enterUp (h : HeadIx) (st : HeadStat) (tell : Bool) (s : State) : State :=
  let s1 := s.modHead h fun d => { d with link := .up s.silenceAt, last := some st, alarms := 0 }
  let s2 := raise .headUp h.val 0 (evalAlarms h st.flags s1)
  if tell then offerOutput h s2 else s2

/-- R29: the head has rebooted on its own. -/
def headRebooted (h : HeadIx) (s : State) : State :=
  let s1 := departure h false (raise .headRebooted h.val (sat16 (servedCount h s)) s)
  offerOutput h (s1.modLoop h fun l => { l with e1 := 0, e2 := 0 })

/-- R29: whether a reported uptime is lower than the stored one. -/
def rebootSeen (d : Head) (up : BitVec 32) : Bool :=
  match d.last with
  | some l => decide (up < l.uptime)
  | none => false

/-- R27: a HEADSTAT taken from an UP head. -/
def statusUp (h : HeadIx) (st : HeadStat) (s : State) : State :=
  let s1 := s.modHead h fun d => { d with link := .up s.silenceAt }
  let s2 := if rebootSeen (s.head h) st.uptime then headRebooted h s1 else s1
  evalAlarms h st.flags (s2.modHead h fun d => { d with last := some st })

/-- R27: a HEADSTAT taken from a head, by its link state; the guard acts after the unit's own steps (R118). -/
def headstatFrame (h : HeadIx) (st : HeadStat) (s : State) : State :=
  match (s.head h).link with
  | .disabled => s.countHead h fun c => { c with rxNotUp := inc c.rxNotUp }
  | .offline => guardEval h st.noise (enterUp h st true s)
  | .restarting r =>
    match r.pulseEnd with
    | some _ => guardEval h st.noise (s.modHead h fun d => { d with last := some st })
    | none => guardEval h st.noise (enterUp h st (decide (r.kind = .cold) || (s.loop h).guarded) s)
  | .up _ => guardEval h st.noise (statusUp h st s)

/-- HEADSTAT. -/
def execHeadstat (h : HeadIx) (noise flags : Byte) (up : BitVec 32) (s : State) : Out :=
  .next (outsideReset (headstatFrame h { noise, flags, uptime := up }) s)

/-! ## Link events (R23, R25, R34) -/

/-- R23: the link indication. A link event updates it even while the reset pin is asserted (log 4). -/
def setEth (h : HeadIx) (up : Bool) (s : State) : State := s.modHead h fun d => { d with ethUp := up }

/-- R23, R40: a link-up event changes the indication alone; service resumes with it. -/
def execHeadLinkUp (h : HeadIx) (s : State) : Out := .next (setEth h true s)

/-- R25, R34: a link-down event. -/
def linkDown (h : HeadIx) (s : State) : State :=
  match (s.head h).link with
  | .up _ => goOffline h 1 s
  | .restarting r =>
    match r.kind, r.blankEnd with
    | .warm, none => goOffline h 3 s
    | .warm, some _ | .cold, _ => s
  | .disabled | .offline => s

/-- HEAD_LINK_DOWN: the frame being sent on the link is lost with it (log 9). -/
def execHeadLinkDown (h : HeadIx) (s : State) : Out :=
  .next (outsideReset (linkDown h) ((setEth h false s).modHead h fun d => { d with tx := none }))

/-! ## Expiries (R25, R32 to R34) -/

/-- R25: the head silence deadline expires. -/
def silenceExpiry (h : HeadIx) (s : State) : State :=
  match (s.head h).link with
  | .up d => if d ≤ s.uptime then goOffline h 2 s else s
  | .disabled | .offline | .restarting _ => s

/-- HEAD_SILENCE_EXPIRY. -/
def execHeadSilenceExpiry (h : HeadIx) (s : State) : Out := .next (outsideReset (silenceExpiry h) s)

/-- R32: the pulse ends and the line returns to inactive. -/
def pulseEnds (h : HeadIx) (s : State) : State :=
  match (s.head h).link with
  | .restarting r =>
    if due r.pulseEnd s.uptime then s.modHead h fun d => { d with link := .restarting { r with pulseEnd := none } } else s
  | .disabled | .offline | .up _ => s

/-- PULSE_END. -/
def execPulseEnd (h : HeadIx) (s : State) : Out := .next (outsideReset (pulseEnds h) s)

/-- R34: the WARM blanking time ends (log 11). -/
def blankingEnds (h : HeadIx) (s : State) : State :=
  match (s.head h).link with
  | .restarting r =>
    if due r.blankEnd s.uptime then
      if (s.head h).ethUp then s.modHead h fun d => { d with link := .restarting { r with blankEnd := none } }
      else goOffline h 3 s
    else s
  | .disabled | .offline | .up _ => s

/-- BLANKING_END. -/
def execBlankingEnd (h : HeadIx) (s : State) : Out := .next (outsideReset (blankingEnds h) s)

/-- R33: the restart deadline expires. -/
def restartExpiry (h : HeadIx) (s : State) : State :=
  match (s.head h).link with
  | .restarting r =>
    if r.deadline ≤ s.uptime then
      headGone h .offline false (raise .headRestartFailed h.val (BitVec.ofNat 16 r.kind.code.toNat) s)
    else s
  | .disabled | .offline | .up _ => s

/-- RESTART_DEADLINE_EXPIRY. -/
def execRestartDeadlineExpiry (h : HeadIx) (s : State) : Out := .next (outsideReset (restartExpiry h) s)

/-! ## HEAD_LOAD (R20, R21) -/

/-- R20, step 4: a record from a request's values, each numeric field clamped to its range. -/
def clampRecord (p : HeadLoadP) (enabled autoRestore : Bool) : HeadRecord :=
  let pMin := clampNat 0 120 p.pMin.toNat
  let pMax := clampNat 0 120 p.pMax.toNat
  { enabled
    winFirst := clampNat 0 47 p.winFirst.toNat
    winLast := clampNat 0 47 p.winLast.toNat
    trim := clampInt (-16) 15 p.trim.toInt
    baseTarget := clampInt (-40) 120 p.baseTarget.toInt
    pMin, pMax
    initial := clampNat pMin pMax p.initial.toNat
    kp := clampNat 0 1023 p.kp.toNat
    ki := clampNat 0 1023 p.ki.toNat
    kd := clampNat 0 1023 p.kd.toNat
    slew := clampNat 1 40 p.slew.toNat
    guardLimit := p.guardLimit.toNat
    guardCount := clampNat 1 8 p.guardCount.toNat
    autoRestore
    alarmMask := p.alarmMask
    alarmSense := p.alarmSense }

/-- R20: whether step 4 or step 7 changed any value. -/
def recordClamped (p : HeadLoadP) (r : HeadRecord) : Bool :=
  !(decide (r.winFirst = p.winFirst.toNat) && decide (r.winLast = p.winLast.toNat) && decide (r.trim = p.trim.toInt) &&
    decide (r.baseTarget = p.baseTarget.toInt) && decide (r.pMin = p.pMin.toNat) && decide (r.pMax = p.pMax.toNat) &&
    decide (r.initial = p.initial.toNat) && decide (r.kp = p.kp.toNat) && decide (r.ki = p.ki.toNat) &&
    decide (r.kd = p.kd.toNat) && decide (r.slew = p.slew.toNat) && decide (r.guardCount = p.guardCount.toNat))

/-- R20: the checks in order; the head and the checked record of a request that passes. -/
def checkHeadLoad (p : HeadLoadP) : Option (HeadIx × HeadRecord) :=
  match p.enabled, p.autoRestore, ix? 12 p.head.toNat with
  | some en, some ar, some h =>
    let r := clampRecord p en ar
    if 62 < p.winFirst.toNat ∨ 62 < p.winLast.toNat then none
    else if r.winLast < r.winFirst then none
    else if r.pMax < r.pMin then none
    else some (h, r)
  | _, _, _ => none

/-- R110, R117: the offset clamped into the new limits. -/
def clampOffset (h : HeadIx) (r : HeadRecord) (s : State) : State :=
  s.modLoop h fun l => { l with u := clampNat r.pMin r.pMax l.u }

/-- R117: the loop state of a head enabled from DISABLED. -/
def loopEnabled (h : HeadIx) (r : HeadRecord) (s : State) : State :=
  s.modLoop h fun l =>
    { l with u := r.initial, e1 := 0, e2 := 0, status := .unmeasured, guarded := false, run := 0 }

/-- R117: the SETPOINT of a HEAD_LOAD that leaves the head enabled. -/
def loadSetpoint (h : HeadIx) (old new : HeadRecord) (s : State) : State :=
  let l := s.loop h
  let s1 := clampOffset h new s
  if l.guarded then if old.pMin = new.pMin then s1 else offerSetpoint h new.pMin s1
  else if clampNat new.pMin new.pMax l.u = l.u then s1
  else offerSetpoint h (clampNat new.pMin new.pMax l.u) s1

/-- R21, R35, R105, R117: a checked record takes effect. -/
def applyRecord (h : HeadIx) (new : HeadRecord) (s : State) : State :=
  let old := (s.head h).record
  let link := (s.head h).link
  let s1 := windowChange h old new (s.modHead h fun d => { d with record := new })
  match link with
  | .disabled =>
    if new.enabled then loopEnabled h new (s1.modHead h fun d => { d with link := .offline })
    else clampOffset h new s1
  | .offline | .restarting _ | .up _ =>
    if new.enabled then loadSetpoint h old new s1
    else clampOffset h new (headGone h .disabled false s1)

/-- R20: HEAD_LOAD executed. Its own reply comes before the reply of a loop test it ends (R37). -/
def headLoadBody (p : Option HeadLoadP) (a : Asker) (s : State) : State :=
  match p with
  | none => answer a .badParam .empty s
  | some p =>
    match checkHeadLoad p with
    | none => answer a .badParam .empty s
    | some (h, r) => applyRecord h r (answer a (if recordClamped p r then .clamped else .done) .empty s)

/-- HEAD_LOAD. -/
def execHeadLoad (h : Hdr) (p : Option HeadLoadP) (s : State) : Out := .next (request h 11 (headLoadBody p) s)

/-! ## HEAD_READ (R22) -/

/-- R22: what is reported of a restart in progress. -/
def restartView (l : HeadLink) (now : Nat) : Option (RestartKind × Nat × Nat) :=
  match l with
  | .restarting r => some (r.kind, (left r.pulseEnd now).getD 0, r.deadline - now)
  | .disabled | .offline | .up _ => none

/-- R22, R125: the live state of a head. -/
def headView (h : HeadIx) (s : State) : HeadView :=
  let d := s.head h
  let l := s.loop h
  { record := d.record, link := d.link, ethUp := d.ethUp, restart := restartView d.link s.uptime
    testInFlight := d.loopTest.isSome, last := d.last, alarms := d.alarms
    ctlLen := d.ctlQ.length, craneLen := d.craneQ.length, normalLen := d.normalQ.length
    overrun := d.overrun, u := l.u, status := l.status, guarded := l.guarded }

/-- R22: HEAD_READ executed. -/
def headReadBody (p : Option Byte) (a : Asker) (s : State) : State :=
  match p with
  | none => answer a .badParam .empty s
  | some b =>
    match ix? 12 b.toNat with
    | none => answer a .badParam .empty s
    | some h => answer a .done (.head (headView h s)) s

/-- HEAD_READ. -/
def execHeadRead (h : Hdr) (p : Option Byte) (s : State) : Out := .next (request h 12 (headReadBody p) s)

/-! ## HEAD_RESTART (R31) -/

/-- Table 2-3: the pulse length in milliseconds. -/
def pulseLength : RestartKind → Nat
  | .cold => 200
  | .warm => 20

/-- R31, R34: a restart that starts now. -/
def startRestart (k : RestartKind) (s : State) : Restart :=
  { kind := k, pulseEnd := some (s.uptime + pulseLength k)
    blankEnd := match k with
      | .cold => none
      | .warm => some (s.uptime + 2000)
    deadline := s.uptime + s.params.restartTimeout * 1000 }

/-- R31: HEAD_RESTART executed; the reply is appended at pulse start, before the consequences of R26. -/
def headRestartBody (p : Option HeadRestartP) (a : Asker) (s : State) : State :=
  match p with
  | none => answer a .badParam .empty s
  | some p =>
    match ix? 12 p.head.toNat, p.kind with
    | some h, some k =>
      match (s.head h).link with
      | .disabled => answer a .wrongState .empty s
      | .restarting _ => answer a .busy .empty s
      | .offline | .up _ =>
        headGone h (.restarting (startRestart k s)) (decide (k = .warm)) (answer a .done .empty s)
    | _, _ => answer a .badParam .empty s

/-- HEAD_RESTART. -/
def execHeadRestart (h : Hdr) (p : Option HeadRestartP) (s : State) : Out := .next (request h 13 (headRestartBody p) s)

/-! ## HEAD_LOOPTEST (R36) -/

/-- R36, R37, R156: a loop test starts; in STANDBY its frame is held, and a broadcast test replies nothing. -/
def startLoopTest (h : HeadIx) (pattern : Vector Byte 16) (a : Asker) (s : State) : State :=
  s.modHead h fun d =>
    { d with
      loopTest := some { pattern, deadline := s.uptime + 50, tag := a.tag, replies := a.own, held := !s.running }
      ctlQ := if s.running then d.ctlQ ++ [.loopTest pattern] else d.ctlQ }

/-- R36: HEAD_LOOPTEST executed; an accepted test is answered when it ends. -/
def headLooptestBody (p : Option LoopTestP) (a : Asker) (s : State) : State :=
  match p with
  | none => answer a .badParam .empty s
  | some p =>
    match ix? 12 p.head.toNat with
    | none => answer a .badParam .empty s
    | some h =>
      if s.isUp h = false then answer a .wrongState .empty s
      else if (s.head h).loopTest.isSome then answer a .busy .empty s
      else if s.running ∧ 8 ≤ (s.head h).ctlQ.length then answer a .busy .empty s
      else startLoopTest h p.pattern a s

/-- HEAD_LOOPTEST. -/
def execHeadLooptest (h : Hdr) (p : Option LoopTestP) (s : State) : Out := .next (request h 14 (headLooptestBody p) s)

/-! ## Egress service (R40) and the restart lines -/

/-- R40: the queues are served when the head is UP, or RESTARTING with its pulse ended, and the link is up. -/
def Head.served (d : Head) : Bool :=
  d.ethUp &&
    match d.link with
    | .up _ => true
    | .restarting r => r.pulseEnd.isNone
    | .disabled | .offline => false

/-- R40: the front of the control, the crane and the normal queue, in that order. An emptied crane
queue ends its overrun episode (R39). -/
def Head.serveQueues (d : Head) : Head :=
  match d.ctlQ, d.craneQ, d.normalQ with
  | c :: cs, _, _ => { d with tx := some (.ctl c), ctlQ := cs }
  | [], f :: fs, _ => { d with tx := some (.crane f), craneQ := fs, overrun := d.overrun && !fs.isEmpty }
  | [], [], f :: fs => { d with tx := some (.user f), normalQ := fs }
  | [], [], [] => d

/-- R40, R36: the head link takes one frame: a LOOP_TEST held in STANDBY goes ahead of any other. -/
def Head.serve (d : Head) : Head :=
  match d.loopTest with
  | some t =>
    if t.held then { d with tx := some (.ctl (.loopTest t.pattern)), loopTest := some { t with held := false } }
    else d.serveQueues
  | none => d.serveQueues

/-- R40: HEAD_EGRESS_SERVICE, the head's link can take a frame. -/
def egressService (h : HeadIx) (s : State) : State :=
  if (s.head h).served then s.modHead h Head.serve else s

/-- HEAD_EGRESS_SERVICE. -/
def execHeadEgressService (h : HeadIx) (s : State) : Out := .next (outsideReset (egressService h) s)

/-- R31, R32, R161: a head's restart output line is active while its pulse runs, inactive in reset. -/
def State.restartLine (s : State) (h : HeadIx) : Bool :=
  !s.inReset &&
    match (s.head h).link with
    | .restarting r => r.pulseEnd.isSome
    | .disabled | .offline | .up _ => false

/-- R168: a damaged frame on a head link. -/
def execRxDamaged (h : HeadIx) (s : State) : Out :=
  .next (outsideReset (fun s => s.countHead h fun c => { c with rxDamaged := inc c.rxDamaged }) s)

end Sys2Proof.Machine
end

