-- ==== Sys2Proof/Machine/ExportQueue.lean ====
section
/-! DEFINITION. The Export Unit (chapter 9): offers, the pending list, the flush deadline, the export request, building a batch, removal. -/

namespace Sys2Proof.Machine
open Sys2Proof

/-! ## The flush deadline and the request (R147, R148, R59) -/

/-- R147: the flush deadline armed for the front item, or absent with an empty list or in STANDBY. A
deadline armed in the past expires at once (log 12). -/
def armFlush (s : State) : State :=
  match s.exp.list with
  | [] => s.modExp fun x => { x with deadline := none, expired := false }
  | p :: _ =>
    if s.running then
      let d := p.join + s.params.flushInterval
      s.modExp fun x => { x with deadline := some d, expired := decide (d ≤ s.uptime) }
    else s.modExp fun x => { x with deadline := none, expired := false }

/-- R148: whether the export request stands. -/
def State.requestStands (s : State) : Bool :=
  s.running && !s.exp.list.isEmpty && (decide (s.params.batchLimit ≤ s.exp.list.length) || s.exp.expired)

/-- R148, R59: the request is judged; withdrawn without a grant, it sets the export turn count to 0. -/
def judgeRequest (s : State) : State :=
  let stands := s.requestStands
  let s1 := s.modExp fun x => { x with request := stands }
  if s.exp.request && !stands then s1.modTrunk fun t => { t with exportTurn := 0 } else s1

/-- R147, R148: the flush deadline expires and the request is judged; absent, expired already or not
yet due, it does not expire (log 3). -/
def flushExpiry (s : State) : State :=
  if due s.exp.deadline s.uptime && !s.exp.expired then judgeRequest (s.modExp fun x => { x with expired := true })
  else s

/-- FLUSH_DEADLINE_EXPIRY. -/
def execFlushDeadlineExpiry (s : State) : Out := .next (outsideReset flushExpiry s)

/-! ## Offers (R145, R146) -/

/-- Rows 4 and 5 of Table 9-2: a value differs from the last exported one by at least the deadband, or
one of the two is absent. -/
def valueChanged (deadband : Nat) (now last : Option Int) : Bool :=
  match now, last with
  | none, none => false
  | some a, some b => decide (deadband ≤ (a - b).natAbs)
  | _, _ => true

/-- Row 6 of Table 9-2. -/
def refreshDue (refresh : Nat) (last : Option Nat) (now : Nat) : Bool :=
  match last with
  | none => true
  | some t => decide (refresh * 60000 ≤ now - t)

/-- Table 9-2: the reason of an offer, if the entry qualifies; `before` is its state before the record. -/
def offerReason (b : Band) (before : ReeferState) (r : Reefer) (now : Nat) : Option Reason :=
  if r.state = .unheard then none
  else if r.state ≠ before then some .state
  else if r.setpoint ≠ r.expSetpoint then some .change
  else if some r.alarm ≠ r.expAlarm then some .change
  else if valueChanged b.deadband r.supply r.expSupply || valueChanged b.deadband r.ret r.expRet then some .change
  else if refreshDue b.refresh r.expTime now then some .refresh
  else none

/-- Which of two reasons stands higher in Table 9-2. -/
def Reason.higher (a b : Reason) : Reason :=
  match a, b with
  | .state, _ => .state
  | _, .state => .state
  | .change, _ => .change
  | _, .change => .change
  | .refresh, .refresh => .refresh

/-- R146: the item of an entry in the list takes the higher reason. -/
def mergeReason (i : ReeferIx) (why : Reason) (l : List PendItem) : List PendItem :=
  l.map fun p => if p.index = i then { p with reason := why.higher p.reason } else p

/-- R146: a qualifying offer. -/
def joinList (i : ReeferIx) (r : Reefer) (why : Reason) (s : State) : State :=
  if r.pending then
    s.modExp fun x => { x with list := mergeReason i why x.list, cnt := { x.cnt with merged := inc x.cnt.merged } }
  else
    let wasEmpty := s.exp.list.isEmpty
    let s1 := (s.setReefer i (some { r with pending := true })).modExp fun x =>
      { x with
        list := x.list ++ [{ index := i, join := s.uptime, reason := why }]
        cnt := { x.cnt with offers := inc x.cnt.offers } }
    judgeRequest (if wasEmpty then armFlush s1 else s1)

/-- R145, R146: the entry at index i is offered; `before` is the state it held before. -/
def offerExport (i : ReeferIx) (before : ReeferState) (s : State) : State :=
  match s.reefer i with
  | none => s
  | some r =>
    match offerReason (look s.reef.bands r.cls) before r s.uptime with
    | some why => joinList i r why s
    | none => s

/-! ## Building a batch (R149, R150) -/

/-- R149: the snapshot of an entry at the grant. -/
def snapshot (r : Reefer) (why : Reason) (s : State) : ExportRecord :=
  { tag := r.tag, state := r.state, setpoint := r.setpoint, supply := r.supply, ret := r.ret
    compressor := r.compressor, defrost := r.defrost, alarm := r.alarm, reason := why
    gatewayNo := s.gatewayNo r.gateway, segment := r.segment
    age := min ((s.uptime - r.lastHeard) / 1000) 65535 }

/-- R150: the export fields of an entry taken into a frame. -/
def Reefer.exported (now : Nat) (r : Reefer) : Reefer :=
  { r with pending := false, expSupply := r.supply, expRet := r.ret, expSetpoint := r.setpoint,
           expAlarm := some r.alarm, expTime := some now }

/-- R149: the records of the items taken, in list order. -/
def exportRecords (items : List PendItem) (s : State) : List ExportRecord :=
  items.filterMap fun p => (s.reefer p.index).map fun r => snapshot r p.reason s

/-- R150: one item's entry marked as exported. -/
def markExported (s : State) (p : PendItem) : State :=
  match s.reefer p.index with
  | some r => s.setReefer p.index (some (r.exported s.uptime))
  | none => s

/-- R149, R150, R59: an export grant: one EXPORT frame from the front of the list. -/
def grantExport (s : State) : State :=
  let items := s.exp.list.take s.params.batchLimit
  let recs := exportRecords items s
  let s1 := (items.foldl markExported s).modExp fun x =>
    { x with
      list := x.list.drop s.params.batchLimit
      cnt := { x.cnt with batches := inc x.cnt.batches, records := satAdd x.cnt.records recs.length } }
  let s2 := s1.modTrunk fun t =>
    { t with tx := some (.exportBatch recs), exportTurn := 0, cnt := { t.cnt with txExport := inc t.cnt.txExport } }
  judgeRequest (armFlush s2)

/-! ## Removal (R151) -/

/-- R151: a freed entry's item is taken out of the list; at the front, the flush deadline is armed for
the new front item or becomes absent. -/
def removePending (i : ReeferIx) (s : State) : State :=
  let atFront := match s.exp.list with
    | p :: _ => decide (p.index = i)
    | [] => false
  let s1 := s.modExp fun x =>
    { x with
      list := x.list.filter fun p => decide (p.index ≠ i)
      cnt := { x.cnt with removed := inc x.cnt.removed } }
  judgeRequest (if atFront then armFlush s1 else s1)

end Sys2Proof.Machine
end

