-- ==== Sys2Proof/Machine/ReeferReports.lean ====
section
/-! DEFINITION. The Reefer Report Unit (chapter 8): batches, records, auto-learn, the band evaluation, silence, band classes, removal, the purge walk. -/

namespace Sys2Proof.Machine
open Sys2Proof

/-! ## Batch parsing (R128, 11.3) -/

/-- What a record of a known kind carries (Table 8-3). -/
inductive RecordBody where
  | full (setpoint supply ret : Int) (compressor defrost : Bool) (alarm : Byte)
  | temp (supply ret : Int)
  | beat
  | off
deriving DecidableEq, Repr

/-- A record read whole, with the value of its three tag bytes. -/
structure BatchRecord where
  tag : Nat
  body : RecordBody
deriving DecidableEq, Repr

/-- How the parsing of a batch ends (R128). -/
inductive BatchEnd where
  | final | truncated | unknownKind
deriving DecidableEq, Repr

/-- The outcome of reading one record (R128). -/
inductive RecordRead where
  | record (r : BatchRecord) (final : Bool) (rest : List Byte)
  | partialRecord
  | unknown
deriving DecidableEq, Repr

/-- Table 11-6: one record; the kind is bits 0 to 6 of its header and bit 7 is the final flag. -/
def readRecord : List Byte → RecordRead
  | [] => .partialRecord
  | hd :: rest =>
    let final := hd.getLsbD 7
    match (hd &&& 127).toNat with
    | 1 =>
      match rest with
      | t2 :: t1 :: t0 :: a1 :: a0 :: b1 :: b0 :: c1 :: c0 :: fl :: al :: more =>
        .record { tag := (be3 t2 t1 t0).toNat
                  body := .full (be2 a1 a0).toInt (be2 b1 b0).toInt (be2 c1 c0).toInt (fl.getLsbD 0) (fl.getLsbD 1) al }
          final more
      | _ => .partialRecord
    | 2 =>
      match rest with
      | t2 :: t1 :: t0 :: b1 :: b0 :: c1 :: c0 :: more =>
        .record { tag := (be3 t2 t1 t0).toNat, body := .temp (be2 b1 b0).toInt (be2 c1 c0).toInt } final more
      | _ => .partialRecord
    | 3 =>
      match rest with
      | t2 :: t1 :: t0 :: more => .record { tag := (be3 t2 t1 t0).toNat, body := .beat } final more
      | _ => .partialRecord
    | 4 =>
      match rest with
      | t2 :: t1 :: t0 :: more => .record { tag := (be3 t2 t1 t0).toNat, body := .off } final more
      | _ => .partialRecord
    | _ => .unknown

/-- R128: the records of a batch in order, at most `n` of them, and how the parsing ends. -/
def readRecords : Nat → List Byte → List BatchRecord × BatchEnd
  | 0, _ => ([], .truncated)
  | n + 1, b =>
    match readRecord b with
    | .record r true _ => ([r], .final)
    | .record r false rest =>
      let p := readRecords n rest
      (r :: p.1, p.2)
    | .partialRecord => ([], .truncated)
    | .unknown => ([], .unknownKind)

/-! ## Entries (R129, R132) -/

/-- R129, R152: a new entry. -/
def newReefer (tag : Nat) (cls : BandIx) (now : Nat) : Reefer :=
  { tag, cls, gateway := none, segment := none, setpoint := none, supply := none, ret := none
    compressor := false, defrost := false, alarm := 0, state := .unheard, outRun := 0, inRun := 0
    lastHeard := now, silence := none, expSupply := none, expRet := none, expSetpoint := none
    expAlarm := none, expTime := none, pending := false }

/-- R129: the lowest free index. -/
def State.freeReeferIx (s : State) : Option ReeferIx := findIx (fun o : Option Reefer => o.isNone) s.reef.table

/-- R132: the reefer count of the gateway in a slot changed. -/
def bumpReefers (g : Option SlotIx) (f : Nat → Nat) (s : State) : State :=
  match g with
  | none => s
  | some i =>
    match s.term i with
    | none => s
    | some t =>
      match t.part with
      | .gateway st n => s.setTerm i (some { t with part := .gateway st (f n) })
      | .crane _ | .vehicle | .other => s

/-- R132: the counts when an entry's gateway slot changes from `old` to g. -/
def moveReefer (old : Option SlotIx) (g : SlotIx) (s : State) : State :=
  if old = some g then s else bumpReefers (some g) (· + 1) (bumpReefers old (· - 1) s)

/-! ## The steps of record processing (R133 to R136) -/

/-- R133: the second step, the state by the record's kind. -/
def Reefer.heard (b : RecordBody) (r : Reefer) : Reefer :=
  match b with
  | .off => { r with state := .unplugged, outRun := 0, inRun := 0, silence := none }
  | .full _ _ _ _ _ _ | .temp _ _ | .beat =>
    match r.state with
    | .unheard | .unplugged | .silent => { r with state := .active, outRun := 0, inRun := 0 }
    | .active | .alarm => r

/-- R134: the setpoint a record sets, kept if it lies outside −300..+300. -/
def storeSetpoint (v : Int) (old : Option Int) : Option Int := if -300 ≤ v ∧ v ≤ 300 then some v else old

/-- R134: a supply or return a record sets, absent outside −400..+600. -/
def storeSensor (v : Int) : Option Int := if -400 ≤ v ∧ v ≤ 600 then some v else none

/-- R134: the third step, the values stored. -/
def Reefer.stored (b : RecordBody) (r : Reefer) : Reefer :=
  match b with
  | .full sp su re co de al =>
    { r with setpoint := storeSetpoint sp r.setpoint, supply := storeSensor su, ret := storeSensor re
             compressor := co, defrost := de, alarm := al }
  | .temp su re => { r with supply := storeSensor su, ret := storeSensor re }
  | .beat | .off => r

/-- R134: the setpoints not stored. -/
def setpointFaults : RecordBody → Nat
  | .full sp _ _ _ _ _ => if -300 ≤ sp ∧ sp ≤ 300 then 0 else 1
  | .temp _ _ | .beat | .off => 0

/-- R134: a value outside −400..+600. -/
def sensorFault (v : Int) : Nat := if -400 ≤ v ∧ v ≤ 600 then 0 else 1

/-- R134: the sensor faults of a record. -/
def sensorFaults : RecordBody → Nat
  | .full _ su re _ _ _ | .temp su re => sensorFault su + sensorFault re
  | .beat | .off => 0

/-- R135: the fourth step, once the supply and the setpoint are known. -/
def Reefer.judged (c : Band) (setpoint supply : Int) (r : Reefer) : Reefer :=
  if setpoint - c.lower ≤ supply ∧ supply ≤ setpoint + c.upper then
    let n := min (r.inRun + 1) 8
    { r with inRun := n, outRun := 0, state := if r.state = .alarm ∧ c.persistence ≤ n then .active else r.state }
  else
    let n := min (r.outRun + 1) 8
    { r with outRun := n, inRun := 0, state := if r.state = .active ∧ c.persistence ≤ n then .alarm else r.state }

/-- R135: the fourth step, the band evaluation of FULL and TEMP records. -/
def Reefer.evaluated (c : Band) (b : RecordBody) (r : Reefer) : Reefer :=
  match b with
  | .beat | .off => r
  | .full _ _ _ _ _ _ | .temp _ _ =>
    match r.setpoint, r.supply with
    | some sp, some su => if r.defrost then r else r.judged c sp su
    | _, _ => r

/-- The states in which a silence deadline runs (Table 8-6). -/
def isHeard : ReeferState → Bool
  | .active | .alarm => true
  | .unheard | .silent | .unplugged => false

/-- R136: the fifth step, the silence deadline. -/
def Reefer.armed (deadline : Nat) (r : Reefer) : Reefer :=
  { r with silence := if isHeard r.state then some deadline else none }

/-- R134 to R135: the entry after steps 2 to 4. -/
def Reefer.processed (c : Band) (b : RecordBody) (r : Reefer) : Reefer := ((r.heard b).stored b).evaluated c b

/-- R137: the reefer silence timeout in milliseconds. -/
def State.reeferTimeout (s : State) : Nat := s.params.reeferSilence * 1000

/-- R135: the notice of an alarm entered or cleared, with the supply as signed detail. -/
def bandNotice (tag : Nat) (before after : Reefer) (s : State) : State :=
  let detail := BitVec.ofInt 16 (after.supply.getD 0)
  if before.state = .active ∧ after.state = .alarm then
    raise .reeferAlarm tag detail (s.countReef fun c => { c with reeferAlarms := inc c.reeferAlarms })
  else if before.state = .alarm ∧ after.state = .active then raise .reeferClear tag detail s
  else s

/-- R132 to R136: a record processed against the entry at index i; the gateway of its batch stands in
slot g with number `gno` and segment `seg`. -/
def processRecord (g : SlotIx) (gno : TermNo) (seg : Option SegIx) (i : ReeferIx) (r : Reefer) (b : RecordBody)
    (s : State) : State :=
  let s1 := moveReefer r.gateway g s
  let placed := { r with gateway := some g, segment := seg, lastHeard := s.uptime }
  let heard := placed.heard b
  let done := placed.processed (look s.reef.bands r.cls) b
  let s2 := (s1.setReefer i (some (done.armed (s.uptime + s.reeferTimeout)))).countReef fun c =>
    { c with
      records := inc c.records
      setpointInvalid := satAdd c.setpointInvalid (setpointFaults b)
      sensorFault := satAdd c.sensorFault (sensorFaults b) }
  let s3 := if r.state = .silent ∧ heard.state = .active then raise .reeferResumed r.tag gno s2 else s2
  offerExport i r.state (bandNotice r.tag heard done s3)

/-- R131: a record with an unknown tag. -/
def unknownTag (g : SlotIx) (gno : TermNo) (seg : Option SegIx) (rec : BatchRecord) (s : State) : State :=
  if s.params.autoLearn then
    match s.freeReeferIx with
    | some i =>
      let r := newReefer rec.tag 0 s.uptime
      processRecord g gno seg i r rec.body
        ((s.setReefer i (some r)).countReef fun c => { c with autoLearned := inc c.autoLearned })
    | none =>
      let s1 := s.countReef fun c => { c with unknownTagDrop := inc c.unknownTagDrop }
      if s.reef.tableFull then s1
      else raise .tableFull rec.tag gno (s1.modReef fun x => { x with tableFull := true })
  else s.countReef fun c => { c with unknownTagDrop := inc c.unknownTagDrop }

/-- R128, R131: one record of a batch handled. -/
def handleRecord (g : SlotIx) (gno : TermNo) (seg : Option SegIx) (s : State) (rec : BatchRecord) : State :=
  if rec.tag = 0 ∨ 1048575 < rec.tag then s.countReef fun c => { c with badTag := inc c.badTag }
  else
    match s.findTag rec.tag with
    | some (i, r) => processRecord g gno seg i r rec.body s
    | none => unknownTag g gno seg rec s

/-- R128: the end of a batch is counted. -/
def countEnd (e : BatchEnd) (s : State) : State :=
  match e with
  | .final => s
  | .truncated => s.countReef fun c => { c with batchTruncated := inc c.batchTruncated }
  | .unknownKind => s.countReef fun c => { c with unknownKind := inc c.unknownKind }

/-- R126: the gateway part when a batch is taken, with GATEWAY_RESUMED. -/
def gatewayHeard (i : SlotIx) (t : Term) (st : GatewayState) (n : Nat) (s : State) : State :=
  let now := s.uptime
  let s1 := s.setTerm i (some { t with part := .gateway (.reporting now (some (now + s.params.gatewaySilence * 1000))) n })
  match st with
  | .unheard | .reporting _ _ => s1
  | .silent lastBatch => raise .gatewayResumed t.number.toNat (sat16 ((now - lastBatch) / 1000)) s1

/-- R126, R128: a BATCH frame of a listed terminal. -/
def batchListed (payload : List Byte) (i : SlotIx) (t : Term) (s : State) : State :=
  match t.part with
  | .gateway st n =>
    let s1 := (gatewayHeard i t st n s).countReef fun c => { c with batches := inc c.batches }
    let p := readRecords 30 payload
    countEnd p.2 (p.1.foldl (handleRecord i t.number t.segment) s1)
  | .crane _ | .vehicle | .other => s.countReef fun c => { c with batchNotGateway := inc c.batchNotGateway }

/-! ## Silence (R127, R137) -/

/-- R127: a gateway's silence deadline expires; absent or not yet due, it does not (log 3). -/
def gatewayExpiry (i : SlotIx) (s : State) : State :=
  match s.term i with
  | none => s
  | some t =>
    match t.part with
    | .gateway (.reporting lastBatch d) n =>
      if due d s.uptime then
        raise .gatewaySilent t.number.toNat (sat16 n)
          ((s.setTerm i (some { t with part := .gateway (.silent lastBatch) n })).countReef fun c =>
            { c with gatewaySilences := inc c.gatewaySilences })
      else s
    | _ => s

/-- GATEWAY_SILENCE_EXPIRY. -/
def execGatewaySilenceExpiry (slot : SlotIx) (s : State) : Out := .next (outsideReset (gatewayExpiry slot) s)

/-- R137: the effective timeout of an entry: four times as long under a crane. -/
def effectiveTimeout (r : Reefer) (s : State) : Nat :=
  match r.segment with
  | some g => if 0 < (look s.segs g).cranes then s.reeferTimeout * 4 else s.reeferTimeout
  | none => s.reeferTimeout

/-- R137: the entry at index i becomes SILENT. -/
def reeferSilent (i : ReeferIx) (r : Reefer) (s : State) : State :=
  let s1 := (s.setReefer i (some { r with state := .silent, silence := none })).countReef fun c =>
    { c with reeferSilences := inc c.reeferSilences }
  offerExport i r.state (raise .reeferSilent r.tag ((s.gatewayNo r.gateway).getD 0) s1)

/-- R137: a reefer's silence deadline expires; absent or not yet due, it does not (log 3). -/
def reeferExpiry (i : ReeferIx) (s : State) : State :=
  match s.reefer i with
  | none => s
  | some r =>
    if isHeard r.state && due r.silence s.uptime then
      if s.uptime - r.lastHeard < effectiveTimeout r s then
        s.setReefer i (some { r with silence := some (r.lastHeard + effectiveTimeout r s) })
      else reeferSilent i r s
    else s

/-- REEFER_SILENCE_EXPIRY. -/
def execReeferSilenceExpiry (i : ReeferIx) (s : State) : Out := .next (outsideReset (reeferExpiry i) s)

/-! ## Registration, band classes, removal, reading (R130, R139, R140) -/

/-- R130: REEFER_REGISTER executed. -/
def reeferRegisterBody (p : Option ReeferRegP) (a : Asker) (s : State) : State :=
  match p with
  | none => answer a .badParam .empty s
  | some p =>
    match ix? 4 p.cls.toNat with
    | none => answer a .badParam .empty s
    | some c =>
      if p.tag.toNat = 0 ∨ 1048575 < p.tag.toNat then answer a .badParam .empty s
      else if s.reef.purge.isSome then answer a .busy .empty s
      else if (s.findTag p.tag.toNat).isSome then answer a .duplicate .empty s
      else
        match s.freeReeferIx with
        | none => answer a .full .empty s
        | some i => answer a .done (.reeferIndex i) (s.setReefer i (some (newReefer p.tag.toNat c s.uptime)))

/-- REEFER_REGISTER. -/
def execReeferRegister (h : Hdr) (p : Option ReeferRegP) (s : State) : Out :=
  .next (request h 18 (reeferRegisterBody p) s)

/-- R139, Table 8-5: a band class from a request's values, each clamped to its range. -/
def clampBand (p : BandP) : Band :=
  { lower := clampNat 1 200 p.lower.toNat, upper := clampNat 1 200 p.upper.toNat
    persistence := clampNat 1 8 p.persistence.toNat, deadband := clampNat 1 50 p.deadband.toNat
    refresh := clampNat 1 240 p.refresh.toNat }

/-- R139: whether a value was changed. -/
def bandClamped (p : BandP) (b : Band) : Bool :=
  !(decide (b.lower = p.lower.toNat) && decide (b.upper = p.upper.toNat) && decide (b.persistence = p.persistence.toNat) &&
    decide (b.deadband = p.deadband.toNat) && decide (b.refresh = p.refresh.toNat))

/-- R139: BAND_LOAD executed. -/
def bandLoadBody (p : Option BandP) (a : Asker) (s : State) : State :=
  match p with
  | none => answer a .badParam .empty s
  | some p =>
    match ix? 4 p.cls.toNat with
    | none => answer a .badParam .empty s
    | some c =>
      if s.reef.purge.isSome then answer a .busy .empty s
      else
        answer a (if bandClamped p (clampBand p) then .clamped else .done) .empty
          (s.modReef fun x => { x with bands := put x.bands c (clampBand p) })

/-- BAND_LOAD. -/
def execBandLoad (h : Hdr) (p : Option BandP) (s : State) : Out := .next (request h 22 (bandLoadBody p) s)

/-- R140, R142: an entry freed, with the gateway count, the pending list and the full-table episode. -/
def freeReefer (i : ReeferIx) (r : Reefer) (s : State) : State :=
  let s1 := (bumpReefers r.gateway (· - 1) (s.setReefer i none)).modReef fun x => { x with tableFull := false }
  if r.pending then removePending i s1 else s1

/-- R140: what a selector and a value resolve to, or the status of the refusal. -/
inductive ReeferPick where
  | entry (i : ReeferIx) (r : Reefer)
  | refused (st : Status)
deriving DecidableEq, Repr

/-- R140: the checks of REEFER_REMOVE and REEFER_READ in order. -/
def pickReefer (p : Option ReeferSelP) (s : State) : ReeferPick :=
  match p with
  | none => .refused .badParam
  | some p =>
    match p.sel with
    | none => .refused .badParam
    | some .tag =>
      if p.value.toNat = 0 ∨ 1048575 < p.value.toNat then .refused .badParam
      else if s.reef.purge.isSome then .refused .busy
      else
        match s.findTag p.value.toNat with
        | some (i, r) => .entry i r
        | none => .refused .notFound
    | some .index =>
      match ix? 2048 p.value.toNat with
      | none => .refused .badParam
      | some i =>
        if s.reef.purge.isSome then .refused .busy
        else
          match s.reefer i with
          | some r => .entry i r
          | none => .refused .notFound

/-- R140: REEFER_REMOVE executed. -/
def reeferRemoveBody (p : Option ReeferSelP) (a : Asker) (s : State) : State :=
  match pickReefer p s with
  | .refused st => answer a st .empty s
  | .entry i r => answer a .done .empty (freeReefer i r s)

/-- REEFER_REMOVE. -/
def execReeferRemove (h : Hdr) (p : Option ReeferSelP) (s : State) : Out := .next (request h 19 (reeferRemoveBody p) s)

/-- R140: REEFER_READ executed. -/
def reeferReadBody (p : Option ReeferSelP) (a : Asker) (s : State) : State :=
  match pickReefer p s with
  | .refused st => answer a st .empty s
  | .entry i r => answer a .done (.reefer r i (s.gatewayNo r.gateway) (left r.silence s.uptime)) s

/-- REEFER_READ. -/
def execReeferRead (h : Hdr) (p : Option ReeferSelP) (s : State) : Out := .next (request h 20 (reeferReadBody p) s)

/-! ## Purge (R141, R142) -/

/-- R141: the states a purge may name. -/
def isPurgeable : ReeferState → Bool
  | .silent | .unplugged | .unheard => true
  | .active | .alarm => false

/-- R141: REEFER_PURGE executed; an accepted purge is answered when its walk ends. -/
def reeferPurgeBody (p : Option PurgeP) (a : Asker) (s : State) : State :=
  match p with
  | none => answer a .badParam .empty s
  | some p =>
    match p.state with
    | none => answer a .badParam .empty s
    | some st =>
      if isPurgeable st = false then answer a .badParam .empty s
      else if s.reef.purge.isSome then answer a .busy .empty s
      else
        s.modReef fun x =>
          { x with purge := some { state := st, minAge := p.minAge.toNat, next := 0, removed := 0, tag := a.tag
                                   replies := a.own } }

/-- REEFER_PURGE. -/
def execReeferPurge (h : Hdr) (p : Option PurgeP) (s : State) : Out := .next (request h 21 (reeferPurgeBody p) s)

/-- R142: whether the entry is removed at a visit; the minimum age is in seconds. -/
def purgeTakes (p : Purge) (r : Reefer) (now : Nat) : Bool :=
  decide (r.state = p.state) && decide (p.minAge * 1000 ≤ now - r.lastHeard)

/-- R142: the walk ends with its reply, lost and counted if the reply queue is full. -/
def endPurge (p : Purge) (s : State) : State :=
  let s1 := s.modReef fun x => { x with purge := none }
  if p.replies then
    if s.trunk.replyQ.length < 8 then
      s1.modTrunk fun t =>
        { t with replyQ := t.replyQ ++ [{ code := 21, tag := p.tag, status := .done, data := .purged p.removed }] }
    else s1.countReef fun c => { c with purgeReplyLost := inc c.purgeReplyLost }
  else s1

/-- R142: the visit to the walk's index, with the removal it makes. -/
def visitEntry (p : Purge) (s : State) : State × Nat :=
  match s.reefer p.next with
  | some r =>
    if purgeTakes p r s.uptime then
      ((freeReefer p.next r s).countReef fun c => { c with purged := inc c.purged }, p.removed + 1)
    else (s, p.removed)
  | none => (s, p.removed)

/-- R142: one visit of the purge walk; after index 2047 the walk ends. -/
def purgeVisit (s : State) : State :=
  match s.reef.purge with
  | none => s
  | some p =>
    let v := visitEntry p s
    match ix? 2048 (p.next.val + 1) with
    | some n => v.1.modReef fun x => { x with purge := some { p with next := n, removed := v.2 } }
    | none => endPurge { p with removed := v.2 } v.1

/-- PURGE_WALK_VISIT. -/
def execPurgeWalkVisit (s : State) : Out := .next (outsideReset purgeVisit s)

end Sys2Proof.Machine
end

