-- ==== Sys2Proof/Machine/Steering.lean ====
section
/-! DEFINITION. Frame steering and the trunk (chapter 3): uplink classification, downlink steering, the trunk arbiter, the trunk link. -/

namespace Sys2Proof.Machine
open Sys2Proof

/-! ## Uplink classification (3.1) -/

/-- R23, R32: a frame other than HEADSTAT from a head that is not UP is discarded and counted; from an
UP head it goes to the Frame Classifier. -/
def fromUpHead (h : HeadIx) (f : State → State) (s : State) : State :=
  if s.isUp h then f s else s.countHead h fun c => { c with rxNotUp := inc c.rxNotUp }

/-- R45, R46: a data frame the Frame Classifier takes: dropped in STANDBY, invalid with terminal number
0 or 65535, else handled as of an unlisted or a listed terminal. -/
def classify (n : TermNo) (unlisted : State → State) (listed : SlotIx → Term → State → State) (s : State) : State :=
  if s.running = false then s.modCls fun c => { c with ulStandbyDrop := inc c.ulStandbyDrop }
  else if badNumber n then s.modCls fun c => { c with ulBadTerminal := inc c.ulBadTerminal }
  else
    match s.lookup n with
    | none => unlisted s
    | some (i, t) => listed i t s

/-- R49: the head index written into the header of a forwarded frame and the forced-head flag cleared. -/
def forwarded (h : HeadIx) (f : BerthFrame) : BerthFrame :=
  { f with flags := f.flags &&& 254, headIndex := BitVec.ofNat 8 h.val }

/-- R47, R48, R64: an uplink CRANE frame of a listed terminal. -/
def craneListed (h : HeadIx) (f : BerthFrame) (i : SlotIx) (t : Term) (s : State) : State :=
  match t.part with
  | .crane c =>
    let w := windowStep c f.seq
    let s1 := countDecision w.1 (s.setTerm i (some { t with part := .crane w.2 }))
    let s2 := craneActivity i h s1
    match w.1 with
    | .accept => offerTrunkCrane (forwarded h f) (judgeHead i h s2)
    | .duplicate | .stale => s2
  | .vehicle | .gateway _ _ | .other => s.modCls fun c => { c with classMismatch := inc c.classMismatch }

/-- UPLINK_CRANE. -/
def execUplinkCrane (h : HeadIx) (f : BerthFrame) (s : State) : Out :=
  .next (outsideReset (fromUpHead h (classify f.terminal
    (fun s => s.modCls fun c => { c with unlistedCrane := inc c.unlistedCrane })
    (craneListed h f))) s)

/-- R48: an uplink USER frame of a listed terminal. -/
def userListed (h : HeadIx) (f : BerthFrame) (i : SlotIx) (_t : Term) (s : State) : State :=
  offerTrunkNormal (forwarded h f) (judgeHead i h (craneActivity i h s))

/-- UPLINK_USER: of an unlisted terminal it is forwarded all the same (R46). -/
def execUplinkUser (h : HeadIx) (f : BerthFrame) (s : State) : Out :=
  .next (outsideReset (fromUpHead h (classify f.terminal
    (fun s => offerTrunkNormal (forwarded h f) (s.modCls fun c => { c with unlistedUser := inc c.unlistedUser }))
    (userListed h f))) s)

/-- R48, R76, R98: a measurement report of a listed terminal: activity, segment, head, entries, samples. -/
def measListed (h : HeadIx) (segment : Byte) (entries : List MeasEntry) (i : SlotIx) (_t : Term) (s : State) : State :=
  let s1 := judgeHead i h (recordSegment i segment (craneActivity i h s))
  let r := sortEntries s1 [] entries
  reportSamples i r.usable (engineReport i r s1)

/-- MEAS. -/
def execMeas (h : HeadIx) (n : TermNo) (segment : Byte) (entries : List MeasEntry) (s : State) : Out :=
  .next (outsideReset (fromUpHead h (classify n
    (fun s => s.modCls fun c => { c with unlistedMeas := inc c.unlistedMeas })
    (measListed h segment entries))) s)

/-- BATCH. -/
def execBatch (h : HeadIx) (n : TermNo) (payload : List Byte) (s : State) : Out :=
  .next (outsideReset (fromUpHead h (classify n
    (fun s => s.modCls fun c => { c with unlistedBatch := inc c.unlistedBatch })
    (batchListed payload))) s)

/-- MGMT_ON_HEAD (R44). -/
def execMgmtOnHead (h : HeadIx) (s : State) : Out :=
  .next (outsideReset (fromUpHead h fun s => s.modCls fun c => { c with mgmtOnHead := inc c.mgmtOnHead }) s)

/-- UL_WRONG_KIND (R44). -/
def execUlWrongKind (h : HeadIx) (_kind : FrameKind) (s : State) : Out :=
  .next (outsideReset (fromUpHead h fun s => s.modCls fun c => { c with ulWrongKind := inc c.ulWrongKind }) s)

/-! ## Downlink steering (3.3) -/

/-- The kind of a downlink data frame decides its head queue (Table 3-2). -/
def offerHead (crane : Bool) (h : HeadIx) (f : BerthFrame) (s : State) : State :=
  if crane then offerHeadCrane h f s else offerHeadNormal h f s

/-- Table 3-2, cases 7 to 9 and R52: a frame for an entry, by its handover state. -/
def steerEntry (crane : Bool) (f : BerthFrame) (ho : Handover) (s : State) : State :=
  match ho with
  | .orphan => s.modCls fun c => { c with orphanDrop := inc c.orphanDrop }
  | .settled v => offerHead crane v f s
  | .probing v _ => offerHead crane v f s
  | .bicast v c _ => if crane then offerHeadCrane c f (offerHeadCrane v f s) else offerHead crane v f s

/-- Table 3-2, cases 5 to 9: a frame that is not forced. -/
def steerLookup (crane : Bool) (f : BerthFrame) (s : State) : State :=
  match s.lookup f.terminal with
  | none => s.modCls fun c => { c with dlUnknown := inc c.dlUnknown }
  | some (_, t) =>
    if crane && !t.isCrane then s.modCls fun c => { c with dlClassMismatch := inc c.dlClassMismatch }
    else steerEntry crane f t.ho s

/-- Table 3-2, cases 2 to 4: a forced frame. -/
def steerForced (crane : Bool) (f : BerthFrame) (s : State) : State :=
  match ix? 12 f.headIndex.toNat with
  | some h =>
    if s.isUp h then offerHead crane h f s else s.modCls fun c => { c with forcedNotUp := inc c.forcedNotUp }
  | none => s.modCls fun c => { c with forcedBadHead := inc c.forcedBadHead }

/-- R45, R51: a downlink data frame. -/
def steer (crane : Bool) (f : BerthFrame) (s : State) : State :=
  if s.running = false then s.modCls fun c => { c with dlStandbyDrop := inc c.dlStandbyDrop }
  else if badNumber f.terminal then s.modCls fun c => { c with dlBadTerminal := inc c.dlBadTerminal }
  else if f.flags.getLsbD 0 then steerForced crane f s
  else steerLookup crane f s

/-- DOWNLINK_CRANE. -/
def execDownlinkCrane (f : BerthFrame) (s : State) : Out := .next (outsideReset (steer true f) s)

/-- DOWNLINK_USER. -/
def execDownlinkUser (f : BerthFrame) (s : State) : Out := .next (outsideReset (steer false f) s)

/-- TRUNK_WRONG_KIND (R50). -/
def execTrunkWrongKind (_kind : FrameKind) (s : State) : Out :=
  .next (outsideReset (fun s => s.countTrunk fun c => { c with wrongKind := inc c.wrongKind }) s)

/-- TRUNK_DAMAGED (R50, R168). -/
def execTrunkDamaged (s : State) : Out :=
  .next (outsideReset (fun s => s.countTrunk fun c => { c with damaged := inc c.damaged }) s)

/-! ## The trunk arbiter (3.5) -/

/-- R58: the crane uplink queue is granted; emptied, it ends its overrun episode (R55). -/
def grantCrane (f : BerthFrame) (rest : List BerthFrame) (s : State) : State :=
  s.modTrunk fun t =>
    { t with tx := some (.crane f), craneQ := rest, overrun := t.overrun && !rest.isEmpty
             cnt := { t.cnt with txCrane := inc t.cnt.txCrane } }

/-- R58: the notice queue is granted. -/
def grantNotice (n : Notice) (rest : List Notice) (s : State) : State :=
  s.modTrunk fun t =>
    { t with tx := some (.notice n), noticeQ := rest, cnt := { t.cnt with txNotice := inc t.cnt.txNotice } }

/-- R58: the reply queue is granted. -/
def grantReply (r : Reply) (rest : List Reply) (s : State) : State :=
  s.modTrunk fun t =>
    { t with tx := some (.reply r), replyQ := rest, cnt := { t.cnt with txReply := inc t.cnt.txReply } }

/-- R59: the normal uplink queue is granted; the export turn count rises while a request stands. -/
def grantNormal (f : BerthFrame) (rest : List BerthFrame) (s : State) : State :=
  s.modTrunk fun t =>
    { t with tx := some (.user f), normalQ := rest
             exportTurn := if s.exp.request then t.exportTurn + 1 else t.exportTurn
             cnt := { t.cnt with txNormal := inc t.cnt.txNormal } }

/-- R59: the choice at the fourth place. -/
def grantFourth (s : State) : State :=
  match s.trunk.normalQ with
  | [] => if s.exp.request then grantExport s else s
  | f :: fs => if s.exp.request ∧ 16 ≤ s.trunk.exportTurn then grantExport s else grantNormal f fs s

/-- R58, R60: one grant of the trunk. -/
def grant (s : State) : State :=
  if s.trunk.linkUp then
    match s.trunk.craneQ, s.trunk.noticeQ, s.trunk.replyQ with
    | f :: fs, _, _ => grantCrane f fs s
    | [], n :: ns, _ => grantNotice n ns s
    | [], [], r :: rs => grantReply r rs s
    | [], [], [] => grantFourth s
  else s

/-- TRUNK_GRANT: the trunk can take a frame. -/
def execTrunkGrant (s : State) : Out := .next (outsideReset grant s)

/-- TRUNK_LINK_UP (R60): the link indication; granting resumes with the queues as they stand. -/
def execTrunkLinkUp (s : State) : Out := .next (s.modTrunk fun t => { t with linkUp := true })

/-- TRUNK_LINK_DOWN (R60): grants stop, and a frame being sent is lost. -/
def execTrunkLinkDown (s : State) : Out := .next (s.modTrunk fun t => { t with linkUp := false, tx := none })

end Sys2Proof.Machine
end

