-- ==== Sys2Proof/Machine/Terminals.lean ====
section
/-! DEFINITION. Loading, removing and reading terminals (1.2): TERM_LOAD, TERM_REMOVE, TERM_READ. -/

namespace Sys2Proof.Machine
open Sys2Proof

/-- Table 1-6: the class part of a newly loaded entry. -/
def newPart : TermClass → ClassPart
  | .crane => .crane { link := .unheard, valid := false, highest := 0, history := 0 }
  | .vehicle => .vehicle
  | .gateway => .gateway .unheard 0
  | .other => .other

/-- R5, Table 1-6: a newly loaded entry. -/
def newTerm (n : TermNo) (c : TermClass) : Term :=
  { number := n, part := newPart c, ho := .orphan, probe := 0, holdoff := 0, stray := 0, segment := none, lsq := none }

/-- R4, Table 1-5: TERM_LOAD executed. -/
def termLoadBody (p : Option TermLoadP) (a : Asker) (s : State) : State :=
  match p with
  | none => answer a .badParam .empty s
  | some p =>
    match p.cls, ix? 256 p.slot.toNat with
    | some c, some i =>
      if badNumber p.number then answer a .badParam .empty s
      else if (s.term i).isSome then answer a .occupied .empty s
      else if (s.lookup p.number).isSome then answer a .duplicate .empty s
      else answer a .done .empty (s.setTerm i (some (newTerm p.number c)))
    | _, _ => answer a .badParam .empty s

/-- TERM_LOAD. -/
def execTermLoad (h : Hdr) (p : Option TermLoadP) (s : State) : Out := .next (request h 7 (termLoadBody p) s)

/-- R7: what a selector and a value resolve to, or the status of the refusal. -/
inductive TermPick where
  | entry (i : SlotIx) (t : Term)
  | refused (st : Status)
deriving DecidableEq, Repr

/-- R7: the checks of TERM_REMOVE and TERM_READ. -/
def pickTerm (p : Option TermSelP) (s : State) : TermPick :=
  match p with
  | none => .refused .badParam
  | some p =>
    match p.sel with
    | none => .refused .badParam
    | some .slot =>
      match ix? 256 p.value.toNat with
      | none => .refused .badParam
      | some i =>
        match s.term i with
        | some t => .entry i t
        | none => .refused .notFound
    | some .number =>
      if badNumber p.value then .refused .badParam
      else
        match s.lookup p.value with
        | some (i, t) => .entry i t
        | none => .refused .notFound

/-- R9: the gateway references to a slot cleared. -/
def clearGateway (i : SlotIx) (r : Reefer) : Reefer := if r.gateway = some i then { r with gateway := none } else r

/-- R9: only a gateway's removal clears references. -/
def clearReferences (i : SlotIx) (p : ClassPart) (s : State) : State :=
  match p with
  | .gateway _ _ => s.modReef fun x => { x with table := mapTab (Option.map (clearGateway i)) x.table }
  | .crane _ | .vehicle | .other => s

/-- R8, R9: the removal of the entry in slot i. -/
def removeTerm (i : SlotIx) (t : Term) (s : State) : State :=
  clearReferences i t.part (moveSeg t.part t.segment none (s.setTerm i none))

/-- TERM_REMOVE executed. -/
def termRemoveBody (p : Option TermSelP) (a : Asker) (s : State) : State :=
  match pickTerm p s with
  | .refused st => answer a st .empty s
  | .entry i t => answer a .done .empty (removeTerm i t s)

/-- TERM_REMOVE. -/
def execTermRemove (h : Hdr) (p : Option TermSelP) (s : State) : Out := .next (request h 8 (termRemoveBody p) s)

/-- The terminal that a control frame concerns (Table 11-5). -/
def CtlFrame.terminal : CtlFrame → Option TermNo
  | .order n _ => some n
  | .linkLost n => some n
  | .setpoint _ | .loopTest _ => none

/-- R11: the frames of a terminal waiting in one head's egress queues. -/
def Head.waiting (n : TermNo) (d : Head) : Nat :=
  d.ctlQ.countP (fun c => decide (c.terminal = some n)) + d.craneQ.countP (fun f => decide (f.terminal = n)) +
    d.normalQ.countP fun f => decide (f.terminal = n)

/-- R11: the frames of a terminal waiting in head egress queues, all heads together. -/
def waitingFrames (n : TermNo) (s : State) : Nat := (s.heads.toList.map (Head.waiting n)).sum

/-- R12: the remaining time of an entry's watchdog or gateway silence deadline. -/
def partLeft (p : ClassPart) (now : Nat) : Option Nat :=
  match p with
  | .crane c =>
    match c.link with
    | .live d => left (some d) now
    | .unheard | .lost | .dormant => none
  | .gateway (.reporting _ d) _ => left d now
  | _ => none

/-- TERM_READ executed (R11, R12). -/
def termReadBody (p : Option TermSelP) (a : Asker) (s : State) : State :=
  match pickTerm p s with
  | .refused st => answer a st .empty s
  | .entry i t =>
    answer a .done
      (.term i t (left t.ho.deadline s.uptime) (waitingFrames t.number s) s.seconds (partLeft t.part s.uptime)) s

/-- TERM_READ. -/
def execTermRead (h : Hdr) (p : Option TermSelP) (s : State) : Out := .next (request h 9 (termReadBody p) s)

end Sys2Proof.Machine
end

