-- ==== Sys2Proof/Machine/Management.lean ====
section
/-! DEFINITION. The Management Unit (chapter 10): identity, START, STOP, SOFT_RESET, hard reset, global parameters, notice mask and summary, counters. -/

namespace Sys2Proof.Machine
open Sys2Proof

/-! ## Identity (10.3) -/

/-- IDENT (R157). -/
def execIdent (h : Hdr) (s : State) : Out :=
  .next (request h 1 (fun a s => answer a .done (.ident s.node s.running s.seconds) s) s)

/-! ## START (R158) -/

/-- R144: the silence deadline of an ACTIVE or ALARM entry armed. -/
def reeferStarted (deadline : Nat) (r : Reefer) : Reefer :=
  if isHeard r.state then { r with silence := some deadline } else r

/-- R18: the silence deadline of a REPORTING gateway armed. -/
def termStarted (deadline : Nat) (t : Term) : Term :=
  match t.part with
  | .gateway (.reporting b _) n => { t with part := .gateway (.reporting b (some deadline)) n }
  | _ => t

/-- R36: a LOOP_TEST frame held in STANDBY is placed in the control queue. -/
def headStarted (d : Head) : Head :=
  match d.loopTest with
  | some t => if t.held then { d with loopTest := some { t with held := false }, ctlQ := d.ctlQ ++ [.loopTest t.pattern] } else d
  | none => d

/-- R158: START taken in STANDBY. -/
def startPart (s : State) : State :=
  judgeRequest (armFlush
    { s with
      part := .running
      heads := mapTab headStarted s.heads
      terms := mapTab (Option.map (termStarted (s.uptime + s.params.gatewaySilence * 1000))) s.terms
      cov := { s.cov with deadline := some (s.uptime + s.params.coveragePeriod * 1000) }
      reef := { s.reef with table := mapTab (Option.map (reeferStarted (s.uptime + s.reeferTimeout))) s.reef.table } })

/-- START: DONE in either state; in RUNNING it has no effect. -/
def execStart (h : Hdr) (s : State) : Out :=
  .next (request h 2 (fun a s => answer a .done .empty (if s.running then s else startPart s)) s)

/-! ## STOP (R159) -/

/-- R75: the crane part after STOP and SOFT_RESET. -/
def CranePart.setBack (c : CranePart) : CranePart :=
  { c.invalidated with link := match c.link with
      | .dormant => .dormant
      | .unheard | .live _ | .lost => .unheard }

/-- Table 1-9: the class part after STOP. -/
def ClassPart.stopped : ClassPart → ClassPart
  | .crane c => .crane c.setBack
  | .gateway (.reporting b _) n => .gateway (.reporting b none) n
  | .gateway st n => .gateway st n
  | .vehicle => .vehicle
  | .other => .other

/-- Table 1-9: a terminal entry after STOP. -/
def termStopped (t : Term) : Term := { t.orphaned with part := t.part.stopped }

/-- R116: the last setpoint made absent. -/
def setpointLost (l : LoopState) : LoopState := { l with lastSet := none }

/-- R41: the queues of all twelve heads flushed. -/
def flushAll (s : State) : State := (List.finRange 12).foldl (fun s h => flush h s) s

/-- R62: the trunk queues of data frames emptied, the episode ended, the export turn count 0. -/
def trunkStopped (t : Trunk) : Trunk := { t with craneQ := [], normalQ := [], overrun := false, exportTurn := 0 }

/-- R159: STOP taken in RUNNING. -/
def stopPart (s : State) : State :=
  let s := flushAll s
  { s with
    part := .standby
    terms := mapTab (Option.map termStopped) s.terms
    trunk := trunkStopped s.trunk
    cov := { s.cov with cells := mapTab (mapTab Cell.zeroed) s.cov.cells, deadline := none }
    loops := mapTab setpointLost s.loops
    reef := { s.reef with table := mapTab (Option.map fun r => { r with silence := none }) s.reef.table }
    exp := { s.exp with deadline := none, expired := false, request := false } }

/-- STOP: DONE in either state; in STANDBY it has no effect. -/
def execStop (h : Hdr) (s : State) : Out :=
  .next (request h 3 (fun a s => answer a .done .empty (if s.running then stopPart s else s)) s)

/-! ## SOFT_RESET (R160) -/

/-- Table 1-8: the class part after SOFT_RESET. -/
def ClassPart.softReset : ClassPart → ClassPart
  | .crane c => .crane c.setBack
  | .gateway _ n => .gateway .unheard n
  | .vehicle => .vehicle
  | .other => .other

/-- Table 1-8: a terminal entry after SOFT_RESET. -/
def termSoftReset (t : Term) : Term := { t.orphaned with part := t.part.softReset, segment := none }

/-- Table 2-7: a head after SOFT_RESET, its queues flushed already. -/
def headSoftReset (d : Head) : Head := { d with loopTest := none, alarms := 0 }

/-- Table 7-5: the loop state after SOFT_RESET. -/
def loopSoftReset (initial : Nat) (l : LoopState) : LoopState :=
  { l with u := initial, e1 := 0, e2 := 0, status := .unmeasured, guarded := false, run := 0, lastSet := none }

/-- Table 8-8: the state of a reefer entry after SOFT_RESET. -/
def stateSoftReset : ReeferState → ReeferState
  | .active | .alarm | .silent | .unheard => .unheard
  | .unplugged => .unplugged

/-- Tables 8-8 and 9-4: a reefer entry after SOFT_RESET. -/
def reeferSoftReset (r : Reefer) : Reefer :=
  { r with state := stateSoftReset r.state, outRun := 0, inRun := 0, silence := none, pending := false }

/-- R160: SOFT_RESET, before its reply. DESIGN CHOICE (log 10): the queues are flushed before the loop tests end,
so a LOOP_TEST frame still queued is counted in FLUSHED. -/
def softResetPart (s : State) : State :=
  let s := flushAll s
  { s with
    part := .standby
    heads := mapTab headSoftReset s.heads
    terms := mapTab (Option.map termSoftReset) s.terms
    segs := Vector.replicate 48 Seg.hardReset
    trunk := { trunkStopped s.trunk with noticeQ := [], replyQ := [] }
    cov := { s.cov with cells := clearedMap, deadline := none, index := 0 }
    loops := tabulate fun h => loopSoftReset (s.head h).record.initial (s.loop h)
    reef := { s.reef with table := mapTab (Option.map reeferSoftReset) s.reef.table, tableFull := false, purge := none }
    exp := { s.exp with list := [], deadline := none, expired := false, request := false } }

/-- SOFT_RESET: its reply is appended after the queues are emptied. -/
def execSoftReset (h : Hdr) (s : State) : Out :=
  .next (request h 4 (fun a s => answer a .done .empty (softResetPart s)) s)

/-! ## Hard reset (R161) -/

/-- R161: a head while the reset pin is asserted: its restart line inactive, its loop test ended, nothing sent. -/
def headHeld (d : Head) : Head :=
  { d with
    link := match d.link with
      | .restarting r => .restarting { r with pulseEnd := none }
      | l => l
    loopTest := none, tx := none }

/-- HARD_RESET: assertion of the reset pin (log 5). -/
def execHardReset (s : State) : Out :=
  .next { s with
    inReset := true
    heads := mapTab headHeld s.heads
    trunk := { s.trunk with tx := none }
    reef := { s.reef with purge := none } }

/-- R161: the part right after release of reset with the straps at these levels. The link indications
are the ports' (log 7); the waiting commands and the count of choices are the model's own. -/
def released (straps : BitVec 6) (s : State) : State :=
  { State.reset with
    pending := s.pending, choice := s.choice, node := straps
    heads := tabulate fun h => Head.hardReset (s.head h).ethUp
    trunk := Trunk.hardReset s.trunk.linkUp }

/-- RESET_RELEASE: it releases an asserted pin (log 5). -/
def execResetRelease (straps : BitVec 6) (s : State) : Out := .next (if s.inReset then released straps s else s)

/-! ## Global parameters (R162) -/

/-- How a parameter's value is checked (Table 10-3). -/
inductive ParamRange where
  | range (lo hi : Nat)
  | yesNo
  | divider
deriving DecidableEq, Repr

/-- Table 10-3, column 'Range'. -/
def paramRange : ParamId → ParamRange
  | .hysteresis => .range 0 40
  | .probeLimit => .range 1 8
  | .holdoff => .range 0 15
  | .strayLimit => .range 1 8
  | .bicastTimeout => .range 20 2000
  | .craneWatchdog => .range 50 1000
  | .craneMargin => .range 0 40
  | .thinMargin => .range 0 40
  | .loopDivider => .divider
  | .coveragePeriod => .range 1 60
  | .minSamples => .range 1 255
  | .penaltyEnable => .yesNo
  | .penaltyWeight => .range 1 8
  | .headSilence => .range 1 10
  | .restartTimeout => .range 5 120
  | .gatewaySilence => .range 10 600
  | .reeferSilence => .range 60 3600
  | .autoLearn => .yesNo
  | .batchLimit => .range 1 24
  | .flushInterval => .range 100 5000

/-- R162, steps 2 and 3: the value stored for a requested value, if it is accepted. -/
def paramValue (i : ParamId) (v : Int) : Option Nat :=
  match paramRange i with
  | .range lo hi => some (clampInt lo hi v).toNat
  | .yesNo => if v = 1 ∨ v = 2 then some v.toNat else none
  | .divider => if v = 1 ∨ v = 2 ∨ v = 4 ∨ v = 8 then some v.toNat else none

/-- The value of a yes/no parameter: 1 for yes, 2 for no (11.5). -/
def yesNoValue (b : Bool) : Nat := if b then 1 else 2

/-- The value in force. -/
def Params.get (p : Params) : ParamId → Nat
  | .hysteresis => p.hysteresis
  | .probeLimit => p.probeLimit
  | .holdoff => p.holdoff
  | .strayLimit => p.strayLimit
  | .bicastTimeout => p.bicastTimeout
  | .craneWatchdog => p.craneWatchdog
  | .craneMargin => p.craneMargin
  | .thinMargin => p.thinMargin
  | .loopDivider => p.loopDivider
  | .coveragePeriod => p.coveragePeriod
  | .minSamples => p.minSamples
  | .penaltyEnable => yesNoValue p.penaltyEnable
  | .penaltyWeight => p.penaltyWeight
  | .headSilence => p.headSilence
  | .restartTimeout => p.restartTimeout
  | .gatewaySilence => p.gatewaySilence
  | .reeferSilence => p.reeferSilence
  | .autoLearn => yesNoValue p.autoLearn
  | .batchLimit => p.batchLimit
  | .flushInterval => p.flushInterval

/-- A parameter given a value. -/
def Params.set (p : Params) (i : ParamId) (v : Nat) : Params :=
  match i with
  | .hysteresis => { p with hysteresis := v }
  | .probeLimit => { p with probeLimit := v }
  | .holdoff => { p with holdoff := v }
  | .strayLimit => { p with strayLimit := v }
  | .bicastTimeout => { p with bicastTimeout := v }
  | .craneWatchdog => { p with craneWatchdog := v }
  | .craneMargin => { p with craneMargin := v }
  | .thinMargin => { p with thinMargin := v }
  | .loopDivider => { p with loopDivider := v }
  | .coveragePeriod => { p with coveragePeriod := v }
  | .minSamples => { p with minSamples := v }
  | .penaltyEnable => { p with penaltyEnable := decide (v = 1) }
  | .penaltyWeight => { p with penaltyWeight := v }
  | .headSilence => { p with headSilence := v }
  | .restartTimeout => { p with restartTimeout := v }
  | .gatewaySilence => { p with gatewaySilence := v }
  | .reeferSilence => { p with reeferSilence := v }
  | .autoLearn => { p with autoLearn := decide (v = 1) }
  | .batchLimit => { p with batchLimit := v }
  | .flushInterval => { p with flushInterval := v }

/-- R162: SET_PARAM executed. -/
def setParamBody (p : Option SetParamP) (a : Asker) (s : State) : State :=
  match p with
  | none => answer a .badParam .empty s
  | some p =>
    match p.id with
    | none => answer a .badParam .empty s
    | some i =>
      match paramValue i p.value.toInt with
      | none => answer a .badParam .empty s
      | some v =>
        answer a (if (v : Int) = p.value.toInt then .done else .clamped) .empty
          (s.modMgmt fun m => { m with params := m.params.set i v })

/-- SET_PARAM. -/
def execSetParam (h : Hdr) (p : Option SetParamP) (s : State) : Out := .next (request h 5 (setParamBody p) s)

/-- R162: GET_PARAM executed. -/
def getParamBody (p : Option (Option ParamId)) (a : Asker) (s : State) : State :=
  match p with
  | some (some i) => answer a .done (.param (s.params.get i)) s
  | some none | none => answer a .badParam .empty s

/-- GET_PARAM. -/
def execGetParam (h : Hdr) (p : Option (Option ParamId)) (s : State) : Out := .next (request h 6 (getParamBody p) s)

/-! ## The notice mask and the condition summary (R164, R165) -/

/-- R164, R170: NOTICE_MASK executed; a bit above bit 20 names no kind. -/
def noticeMaskBody (p : Option (BitVec 32)) (a : Asker) (s : State) : State :=
  match p with
  | none => answer a .badParam .empty s
  | some m =>
    if 2 ^ 21 ≤ m.toNat then answer a .badParam .empty s
    else answer a .done .empty (s.modMgmt fun k => { k with mask := m.setWidth 21 })

/-- NOTICE_MASK. -/
def execNoticeMask (h : Hdr) (p : Option (BitVec 32)) (s : State) : Out := .next (request h 24 (noticeMaskBody p) s)

/-- NOTICE_SUMMARY (R165): the summary is reported and becomes empty in the same event. -/
def execNoticeSummary (h : Hdr) (s : State) : Out :=
  .next (request h 25 (fun a s => answer a .done (.summary s.mgmt.summary) (s.modMgmt fun m => { m with summary := 0 })) s)

/-! ## Counters (R166) -/

/-- Table 2-6, in order. -/
def HeadCounters.all (c : HeadCounters) : List Counter :=
  [c.rxDamaged, c.rxNotUp, c.echoUnexpected, c.flushed, c.notUpDrop, c.controlDrop, c.orderBlocked, c.craneDrop,
   c.normalDrop, c.replyLost]

/-- The classifier part of Table 3-5, in order. -/
def ClassifierCounters.all (c : ClassifierCounters) : List Counter :=
  [c.mgmtOnHead, c.ulWrongKind, c.ulStandbyDrop, c.ulBadTerminal, c.unlistedUser, c.unlistedCrane, c.unlistedMeas,
   c.unlistedBatch, c.classMismatch, c.dlStandbyDrop, c.dlBadTerminal, c.forcedNotUp, c.forcedBadHead, c.dlUnknown,
   c.dlClassMismatch, c.orphanDrop]

/-- The trunk part of Table 3-5, in order. -/
def TrunkCounters.all (c : TrunkCounters) : List Counter :=
  [c.damaged, c.wrongKind, c.craneDrop, c.noticeDrop, c.requestOverrun, c.normalDrop, c.txCrane, c.txNotice, c.txReply,
   c.txNormal, c.txExport]

/-- Table 4-3, in order. -/
def CraneCounters.all (c : CraneCounters) : List Counter := [c.accepted, c.duplicate, c.stale, c.losses, c.restores]

/-- Table 5-4 in order, then SEGMENT_INVALID (11.5). -/
def HandoverCounters.all (c : HandoverCounters) : List Counter :=
  [c.anchors, c.reanchors, c.orphanings, c.hardHandovers, c.bicastStarts, c.bicastSuccess, c.bicastTimeout,
   c.bicastForced, c.bicastCandidateLost, c.noCover, c.measBadHead, c.measRepeatHead, c.segmentInvalid]

/-- Table 6-3, in order. -/
def CoverageCounters.all (c : CoverageCounters) : List Counter :=
  [c.samplesAdmitted, c.outOfWindow, c.countFull, c.penaltyApplied, c.penaltySuppressed, c.closes]

/-- Table 7-4, in order. -/
def LoopCounters.all (c : LoopCounters) : List Counter :=
  [c.updates, c.unmeasuredUpdates, c.slewClamps, c.rangeClamps, c.guardEntries]

/-- Table 8-7, in order. -/
def ReeferCounters.all (c : ReeferCounters) : List Counter :=
  [c.batches, c.batchNotGateway, c.batchTruncated, c.unknownKind, c.badTag, c.records, c.autoLearned, c.unknownTagDrop,
   c.setpointInvalid, c.sensorFault, c.reeferAlarms, c.reeferSilences, c.gatewaySilences, c.purged, c.purgeReplyLost]

/-- Table 9-5, in order. -/
def ExportCounters.all (c : ExportCounters) : List Counter := [c.offers, c.merged, c.batches, c.records, c.removed]

/-- Table 10-6, in order. -/
def MgmtCounters.all (c : MgmtCounters) : List Counter :=
  [c.requests, c.broadcasts, c.otherNode, c.noticesRaised, c.noticesMasked]

/-- R166: every counter of a group, head 0 first for the head and loop groups. -/
def groupCounters (g : Group) (s : State) : List Counter :=
  match g with
  | .head => s.heads.toList.flatMap fun d => d.cnt.all
  | .classifier => s.cls.all
  | .trunk => s.trunk.cnt.all
  | .crane => s.crane.all
  | .handover => s.ho.all
  | .coverage => s.cov.cnt.all
  | .loop => s.loops.toList.flatMap fun l => l.cnt.all
  | .reefer => s.reef.cnt.all
  | .exportGroup => s.exp.cnt.all
  | .management => s.mgmt.cnt.all

/-- R166: every counter of a group set to 0. -/
def clearGroup (g : Group) (s : State) : State :=
  match g with
  | .head => { s with heads := mapTab (fun d => { d with cnt := HeadCounters.zero }) s.heads }
  | .classifier => { s with cls := ClassifierCounters.zero }
  | .trunk => s.countTrunk fun _ => TrunkCounters.zero
  | .crane => { s with crane := CraneCounters.zero }
  | .handover => { s with ho := HandoverCounters.zero }
  | .coverage => s.countCov fun _ => CoverageCounters.zero
  | .loop => { s with loops := mapTab (fun l => { l with cnt := LoopCounters.zero }) s.loops }
  | .reefer => s.countReef fun _ => ReeferCounters.zero
  | .exportGroup => s.countExp fun _ => ExportCounters.zero
  | .management => s.countMgmt fun _ => MgmtCounters.zero

/-- R166: COUNTERS_READ executed. -/
def countersReadBody (p : Option CountersP) (a : Asker) (s : State) : State :=
  match p with
  | none => answer a .badParam .empty s
  | some p =>
    match p.group, p.clear with
    | some g, some c => answer a .done (.counters (groupCounters g s)) (if c then clearGroup g s else s)
    | _, _ => answer a .badParam .empty s

/-- COUNTERS_READ. -/
def execCountersRead (h : Hdr) (p : Option CountersP) (s : State) : Out := .next (request h 23 (countersReadBody p) s)

/-! ## Frames that name no request of this part (R154, R155) -/

/-- BAD_REQUEST (R155): a code of Table 11-8 is no unknown code, so nothing happens for it (log 3). -/
def execBadRequest (h : Hdr) (code : Byte) (s : State) : Out :=
  .next (if code.toNat = 0 ∨ 25 < code.toNat then request h code (fun a s => answer a .badRequest .empty s) s else s)

/-- OTHER_NODE (R154): the part's own address and the broadcast address are not another node's (log 3). -/
def execOtherNode (dest : Byte) (s : State) : Out :=
  .next (outsideReset (fun s =>
    if dest = 255 ∨ dest = s.node.setWidth 8 then s
    else s.countMgmt fun c => { c with otherNode := inc c.otherNode }) s)

end Sys2Proof.Machine
end

