-- ==== Sys2Proof/Machine/Dispatch.lean ====
section
/-! DEFINITION. exec: each command's meaning, one arm per row of spec/opcode_table.json. -/

namespace Sys2Proof.Machine
open Sys2Proof

/-- The effect of a command on everything but the queue of waiting commands. -/
def exec (i : Instr) (s : State) : Host.Outcome State Fault Refusal :=
  match i with
  | .ident h => Sys2Proof.Machine.execIdent h s
  | .start h => Sys2Proof.Machine.execStart h s
  | .stop h => Sys2Proof.Machine.execStop h s
  | .softReset h => Sys2Proof.Machine.execSoftReset h s
  | .setParam h p => Sys2Proof.Machine.execSetParam h p s
  | .getParam h p => Sys2Proof.Machine.execGetParam h p s
  | .termLoad h p => Sys2Proof.Machine.execTermLoad h p s
  | .termRemove h p => Sys2Proof.Machine.execTermRemove h p s
  | .termRead h p => Sys2Proof.Machine.execTermRead h p s
  | .craneDormant h p => Sys2Proof.Machine.execCraneDormant h p s
  | .headLoad h p => Sys2Proof.Machine.execHeadLoad h p s
  | .headRead h p => Sys2Proof.Machine.execHeadRead h p s
  | .headRestart h p => Sys2Proof.Machine.execHeadRestart h p s
  | .headLooptest h p => Sys2Proof.Machine.execHeadLooptest h p s
  | .guardRelease h p => Sys2Proof.Machine.execGuardRelease h p s
  | .cellRead h p => Sys2Proof.Machine.execCellRead h p s
  | .segRead h p => Sys2Proof.Machine.execSegRead h p s
  | .reeferRegister h p => Sys2Proof.Machine.execReeferRegister h p s
  | .reeferRemove h p => Sys2Proof.Machine.execReeferRemove h p s
  | .reeferRead h p => Sys2Proof.Machine.execReeferRead h p s
  | .reeferPurge h p => Sys2Proof.Machine.execReeferPurge h p s
  | .bandLoad h p => Sys2Proof.Machine.execBandLoad h p s
  | .countersRead h p => Sys2Proof.Machine.execCountersRead h p s
  | .noticeMask h p => Sys2Proof.Machine.execNoticeMask h p s
  | .noticeSummary h => Sys2Proof.Machine.execNoticeSummary h s
  | .badRequest h code => Sys2Proof.Machine.execBadRequest h code s
  | .otherNode dest => Sys2Proof.Machine.execOtherNode dest s
  | .headstat head noise flags uptime => Sys2Proof.Machine.execHeadstat head noise flags uptime s
  | .echo head bytes => Sys2Proof.Machine.execEcho head bytes s
  | .uplinkCrane head f => Sys2Proof.Machine.execUplinkCrane head f s
  | .uplinkUser head f => Sys2Proof.Machine.execUplinkUser head f s
  | .meas head terminal segment entries => Sys2Proof.Machine.execMeas head terminal segment entries s
  | .batch head terminal payload => Sys2Proof.Machine.execBatch head terminal payload s
  | .mgmtOnHead head => Sys2Proof.Machine.execMgmtOnHead head s
  | .ulWrongKind head kind => Sys2Proof.Machine.execUlWrongKind head kind s
  | .rxDamaged head => Sys2Proof.Machine.execRxDamaged head s
  | .downlinkCrane f => Sys2Proof.Machine.execDownlinkCrane f s
  | .downlinkUser f => Sys2Proof.Machine.execDownlinkUser f s
  | .trunkWrongKind kind => Sys2Proof.Machine.execTrunkWrongKind kind s
  | .trunkDamaged => Sys2Proof.Machine.execTrunkDamaged s
  | .headLinkUp head => Sys2Proof.Machine.execHeadLinkUp head s
  | .headLinkDown head => Sys2Proof.Machine.execHeadLinkDown head s
  | .trunkLinkUp => Sys2Proof.Machine.execTrunkLinkUp s
  | .trunkLinkDown => Sys2Proof.Machine.execTrunkLinkDown s
  | .headSilenceExpiry head => Sys2Proof.Machine.execHeadSilenceExpiry head s
  | .pulseEnd head => Sys2Proof.Machine.execPulseEnd head s
  | .blankingEnd head => Sys2Proof.Machine.execBlankingEnd head s
  | .restartDeadlineExpiry head => Sys2Proof.Machine.execRestartDeadlineExpiry head s
  | .loopTestDeadlineExpiry head => Sys2Proof.Machine.execLoopTestDeadlineExpiry head s
  | .craneWatchdogExpiry slot => Sys2Proof.Machine.execCraneWatchdogExpiry slot s
  | .bicastDeadlineExpiry slot => Sys2Proof.Machine.execBicastDeadlineExpiry slot s
  | .coveragePeriodExpiry => Sys2Proof.Machine.execCoveragePeriodExpiry s
  | .gatewaySilenceExpiry slot => Sys2Proof.Machine.execGatewaySilenceExpiry slot s
  | .reeferSilenceExpiry index => Sys2Proof.Machine.execReeferSilenceExpiry index s
  | .flushDeadlineExpiry => Sys2Proof.Machine.execFlushDeadlineExpiry s
  | .purgeWalkVisit => Sys2Proof.Machine.execPurgeWalkVisit s
  | .headEgressService head => Sys2Proof.Machine.execHeadEgressService head s
  | .trunkGrant => Sys2Proof.Machine.execTrunkGrant s
  | .hardReset => Sys2Proof.Machine.execHardReset s
  | .resetRelease straps => Sys2Proof.Machine.execResetRelease straps s

end Sys2Proof.Machine
end

