-- ==== Sys2Proof/Config.lean ====
section
/-! DEFINITION. What the manual leaves open: two free values, with no body, so that no proof can see what they are. -/

namespace Sys2Proof

/-- The order in which events due at the same moment are taken is left open (00_scope 5.5 and every
"the first decides" rule give the outcome for either order). The idle step numbers its choices and
asks this free value which due event comes first (log 2). -/
opaque Config.pick : Nat → Nat

/-- What the four bytes of a reply item hold when its value, an uptime, is 2^32 or more: R170 gives the
width and no rule for such a value (log 17). -/
opaque Config.longItem : Nat → BitVec 32

end Sys2Proof
end

