-- ==== Sys2Proof/Machine/Formats.lean ====
section
/-! DEFINITION. The bytes of the frames the part sends (R169) and of the reply data (R170): control frames, notices, export batches, replies, and what stands on each wire. -/

namespace Sys2Proof.Machine
open Sys2Proof

/-! ## Numbers and codes (R170) -/

/-- A count, a counter, a time remaining or an uptime: four bytes. What they hold for a value that four
bytes cannot hold is free (log 17). -/
def nat4 (n : Nat) : List Byte := bytes4 (if n < 4294967296 then BitVec.ofNat 32 n else Config.longItem n)

/-- A number in one byte. -/
def nat1 (n : Nat) : List Byte := [BitVec.ofNat 8 n]

/-- A signed number in two bytes. -/
def int2 (x : Int) : List Byte := bytes2 (BitVec.ofInt 16 x)

/-- A yes/no item: 1 yes, 2 no. -/
def flagByte (b : Bool) : List Byte := [yesNoCode b]

/-- An item that may be absent: a presence byte, then the value bytes, 0 when absent. -/
def optItem {α : Type} (width : Nat) (f : α → List Byte) (o : Option α) : List Byte :=
  match o with
  | some a => 1 :: f a
  | none => 0 :: List.replicate width 0

/-- Head link state codes. -/
def HeadLink.code : HeadLink → Byte
  | .disabled => 1
  | .offline => 2
  | .restarting _ => 3
  | .up _ => 4

/-- Coverage status codes. -/
def CovStatus.code : CovStatus → Byte
  | .unmeasured => 1
  | .firm => 2
  | .weak => 3
  | .thin => 4
  | .guarded => 5

/-- Handover state codes. -/
def Handover.code : Handover → Byte
  | .orphan => 1
  | .settled _ => 2
  | .probing _ _ => 3
  | .bicast _ _ _ => 4

/-- Crane link state codes. -/
def CraneLink.code : CraneLink → Byte
  | .unheard => 1
  | .live _ => 2
  | .lost => 3
  | .dormant => 4

/-- Gateway state codes. -/
def GatewayState.code : GatewayState → Byte
  | .unheard => 1
  | .reporting _ _ => 2
  | .silent _ => 3

/-- Cell state codes. -/
def CellState.code : CellState → Byte
  | .none => 1
  | .fresh => 2
  | .sparse => 3

/-- Guard state codes: 1 CLEAR, 2 GUARDED. -/
def guardCode (guarded : Bool) : Byte := if guarded then 2 else 1

/-- Reason codes (Table 11-7). -/
def Reason.code : Reason → Byte
  | .state => 1
  | .change => 2
  | .refresh => 3

/-- Reply statuses 1 to 10, in the order of Table 10-1. -/
def Status.code : Status → Byte
  | .done => 1
  | .clamped => 2
  | .badRequest => 3
  | .badParam => 4
  | .notFound => 5
  | .occupied => 6
  | .duplicate => 7
  | .full => 8
  | .busy => 9
  | .wrongState => 10

/-- Notice kinds 1 to 21, in the order of Table 10-4 (Table 11-9). -/
def NoticeKind.code (k : NoticeKind) : Byte := BitVec.ofNat 8 (k.bit + 1)

/-! ## Control frames (Table 11-5) -/

/-- The HEADCTL payload of a control frame. -/
def CtlFrame.payload : CtlFrame → List Byte
  | .setpoint v => 1 :: nat1 v
  | .order n t => 2 :: bytes2 n ++ nat1 t.val
  | .linkLost n => 3 :: bytes2 n
  | .loopTest p => 4 :: p.toList

/-- R169: a frame the part originates has flags, head index, terminal number and sequence number 0. -/
def originated (k : FrameKind) (payload : List Byte) : List Byte := frameBytes k 0 0 0 0 payload

/-- The bytes of a frame on a head link; a downlink frame is sent as the core sent it (R169). -/
def HeadFrame.bytes : HeadFrame → List Byte
  | .ctl c => originated .headctl c.payload
  | .crane f => f.bytes .crane
  | .user f => f.bytes .user

/-! ## Notices and export batches (11.4, 11.6) -/

/-- Table 11-9. -/
def Notice.payload (n : Notice) : List Byte := [n.kind.code, 0] ++ bytes4 n.uptime ++ bytes4 n.subject ++ bytes2 n.detail

/-- The presence byte of an export record (Table 11-7). -/
def ExportRecord.presence (r : ExportRecord) : Byte :=
  BitVec.ofNat 8 ((if r.setpoint.isSome then 1 else 0) + (if r.supply.isSome then 2 else 0) +
    (if r.ret.isSome then 4 else 0) + (if r.gatewayNo.isSome then 8 else 0) + (if r.segment.isSome then 16 else 0))

/-- The two flags of a reefer as an export record carries them. -/
def ExportRecord.flags (r : ExportRecord) : Byte :=
  BitVec.ofNat 8 ((if r.compressor then 1 else 0) + (if r.defrost then 2 else 0))

/-- Table 11-7: the 20 bytes of an export record. -/
def ExportRecord.bytes (r : ExportRecord) : List Byte :=
  bytes3 (BitVec.ofNat 24 r.tag) ++ [r.state.code, r.presence, r.flags] ++
    int2 (r.setpoint.getD 0) ++ int2 (r.supply.getD 0) ++ int2 (r.ret.getD 0) ++ [r.alarm, r.reason.code] ++
    bytes2 (r.gatewayNo.getD 0) ++ nat1 ((r.segment.map Fin.val).getD 0) ++ [0] ++ bytes2 (BitVec.ofNat 16 r.age)

/-- 11.4: an EXPORT payload. -/
def exportPayload (rs : List ExportRecord) : List Byte := BitVec.ofNat 8 rs.length :: 0 :: rs.flatMap ExportRecord.bytes

/-! ## Reply data (R170; widths and orders the spec does not fix are log 14) -/

/-- The loop test result of R37. DESIGN CHOICE (log 14): the mismatch count stands behind FAIL alone, with no
presence byte, and is left out of every other result. -/
def LoopResult.bytes : LoopResult → List Byte
  | .pass => [1]
  | .fail n => 2 :: nat4 n
  | .noEcho => [3]
  | .headLost => [4]

/-- The head record, in the order and widths of Table 11-8. -/
def HeadRecord.bytes (r : HeadRecord) : List Byte :=
  flagByte r.enabled ++ nat1 r.winFirst ++ nat1 r.winLast ++ [BitVec.ofInt 8 r.trim] ++ int2 r.baseTarget ++
    nat1 r.pMin ++ nat1 r.pMax ++ nat1 r.initial ++ bytes2 (BitVec.ofNat 16 r.kp) ++ bytes2 (BitVec.ofNat 16 r.ki) ++
    bytes2 (BitVec.ofNat 16 r.kd) ++ nat1 r.slew ++ nat1 r.guardLimit ++ nat1 r.guardCount ++ flagByte r.autoRestore ++
    [r.alarmMask, r.alarmSense]

/-- R22: the record, then the live state in the order of its list. DESIGN CHOICE (log 14): the last HEADSTAT's noise
rise and alarm flags take 1 byte each and its head uptime 4, as in Table 11-4; the active alarm set and the offset u take
1 byte; each item of a restart stands behind its own presence byte. -/
def HeadView.bytes (v : HeadView) : List Byte :=
  v.record.bytes ++ [v.link.code] ++ flagByte v.ethUp ++
    flagByte v.restart.isSome ++ optItem 1 (fun r => [r.1.code]) v.restart ++ optItem 4 (fun r => nat4 r.2.1) v.restart ++
    optItem 4 (fun r => nat4 r.2.2) v.restart ++ flagByte v.testInFlight ++
    optItem 1 (fun l => [l.noise]) v.last ++ optItem 1 (fun l => [l.flags]) v.last ++
    optItem 4 (fun l => bytes4 l.uptime) v.last ++
    [v.alarms] ++ nat4 v.ctlLen ++ nat4 v.craneLen ++ nat4 v.normalLen ++ flagByte v.overrun ++
    nat1 v.u ++ [v.status.code, guardCode v.guarded]

/-- R12: the class part of a TERM_READ reply, with the remaining time of its deadline. DESIGN CHOICE (log 14): the
highest accepted sequence takes 2 bytes, as the sequence number of a frame's header. -/
def ClassPart.bytes (p : ClassPart) (left : Option Nat) : List Byte :=
  match p with
  | .crane c =>
    [c.link.code] ++ flagByte c.valid ++ optItem 2 bytes2 (if c.valid then some c.highest else none) ++
      bytes4 (if c.valid then c.history else 0) ++ optItem 4 nat4 left
  | .gateway g n => [g.code] ++ optItem 4 nat4 left ++ nat4 n
  | .vehicle | .other => []

/-- R11: the fields of an entry, in the order of the rule. DESIGN CHOICE (log 14): the slot, the heads and the segment
take 1 byte, the hold-off and the uptime in seconds 4. -/
def Term.bytes (slot : SlotIx) (t : Term) (bicastLeft : Option Nat) (waiting uptimeS : Nat) (partLeft : Option Nat) :
    List Byte :=
  nat1 slot.val ++ bytes2 t.number ++ [t.part.cls.code, t.ho.code] ++
    optItem 1 (fun h : HeadIx => nat1 h.val) t.ho.serving ++ optItem 1 (fun h : HeadIx => nat1 h.val) t.ho.candidate ++
    nat4 t.probe ++ nat4 t.holdoff ++ nat4 t.stray ++ optItem 1 (fun g : SegIx => nat1 g.val) t.segment ++
    optItem 2 int2 t.lsq ++ optItem 4 nat4 bicastLeft ++ nat4 waiting ++ nat4 uptimeS ++ t.part.bytes partLeft

/-- R140: the fields of Table 8-4 in its order, less the silence deadline, then the index, the gateway's
terminal number and the silence deadline as milliseconds remaining. DESIGN CHOICE (log 14): temperatures take 2
bytes, signed, the alarm code 1 byte, as in Tables 11-6 and 11-7, and the three flags are yes/no bytes. -/
def Reefer.bytes (r : Reefer) (i : ReeferIx) (gatewayNo : Option TermNo) (left : Option Nat) : List Byte :=
  bytes3 (BitVec.ofNat 24 r.tag) ++ nat1 r.cls.val ++ optItem 1 (fun g : SlotIx => nat1 g.val) r.gateway ++
    optItem 1 (fun g : SegIx => nat1 g.val) r.segment ++ optItem 2 int2 r.setpoint ++ optItem 2 int2 r.supply ++
    optItem 2 int2 r.ret ++ flagByte r.compressor ++ flagByte r.defrost ++ [r.alarm, r.state.code] ++
    nat4 r.outRun ++ nat4 r.inRun ++ nat4 r.lastHeard ++ optItem 2 int2 r.expSupply ++ optItem 2 int2 r.expRet ++
    optItem 2 int2 r.expSetpoint ++ optItem 1 (fun a : Byte => [a]) r.expAlarm ++ optItem 4 nat4 r.expTime ++
    flagByte r.pending ++ bytes3 (BitVec.ofNat 24 i.val) ++ optItem 2 bytes2 gatewayNo ++ optItem 4 nat4 left

/-- R106: what CELL_READ says of a cell. -/
def Cell.bytes (c : Cell) : List Byte := [c.state.code] ++ optItem 2 int2 c.avg ++ nat4 c.count

/-- R107: what SEG_READ says of a segment. -/
def Seg.bytes (g : Seg) : List Byte := nat4 g.cranes ++ nat4 g.gateways

/-- R170: the reply data, each item in the order its rule lists it. -/
def ReplyData.bytes : ReplyData → List Byte
  | .empty => []
  | .ident node running up =>
    [0x5A, 0x1E, 0x43, 0x12, 0x02, node.setWidth 8, if running then 2 else 1] ++ nat4 up
  | .param v => nat4 v
  | .term slot t bl w up pl => t.bytes slot bl w up pl
  | .head v => v.bytes
  | .loopTest r => r.bytes
  | .cells h wf wl index left cs =>
    nat1 h.val ++ nat1 wf ++ nat1 wl ++ [index] ++ optItem 4 nat4 left ++ cs.flatMap Cell.bytes
  | .segs gs => gs.flatMap Seg.bytes
  | .reeferIndex i => bytes3 (BitVec.ofNat 24 i.val)
  | .reefer r i gn left => r.bytes i gn left
  | .purged n => nat4 n
  | .counters cs => cs.flatMap bytes4
  | .summary k => bytes4 (k.setWidth 32)

/-- 11.5: a REPLY payload. -/
def Reply.payload (r : Reply) : List Byte := [r.code, r.tag, r.status.code, 0] ++ r.data.bytes

/-- The bytes of a frame on the trunk link (R169). -/
def TrunkFrame.bytes : TrunkFrame → List Byte
  | .crane f => f.bytes .crane
  | .user f => f.bytes .user
  | .notice n => originated .notice n.payload
  | .reply r => originated .reply r.payload
  | .exportBatch rs => originated .exportBatch (exportPayload rs)

/-! ## What the outside sees -/

/-- The bytes of the frame last handed to a head's link, if there is one. -/
def State.headWire (s : State) (h : HeadIx) : Option (List Byte) := (s.head h).tx.map HeadFrame.bytes

/-- The bytes of the frame last granted the trunk, if there is one. -/
def State.trunkWire (s : State) : Option (List Byte) := s.trunk.tx.map TrunkFrame.bytes

end Sys2Proof.Machine
end

