-- ==== Sys2Proof/Machine/Timers.lean ====
section
/-! DEFINITION. The part's own time (00_scope 5.5): which deadlines are due, and what the part does when no command waits. -/

namespace Sys2Proof.Machine
open Sys2Proof

/-- A command, if a condition holds. -/
def eventIf (b : Bool) (c : Instr) : List Instr := if b then [c] else []

/-- The due events of a head: silence (R25), pulse end (R32), blanking end (R34), restart deadline (R33),
loop test deadline (R37). -/
def headEvents (s : State) (h : HeadIx) : List Instr :=
  let d := s.head h
  (match d.link with
    | .up t => eventIf (decide (t ≤ s.uptime)) (.headSilenceExpiry h)
    | .restarting r =>
      eventIf (due r.pulseEnd s.uptime) (.pulseEnd h) ++ eventIf (due r.blankEnd s.uptime) (.blankingEnd h) ++
        eventIf (decide (r.deadline ≤ s.uptime)) (.restartDeadlineExpiry h)
    | .disabled | .offline => []) ++
  (match d.loopTest with
    | some t => eventIf (decide (t.deadline ≤ s.uptime)) (.loopTestDeadlineExpiry h)
    | none => [])

/-- The due events of a terminal entry: watchdog (R69), bicast deadline (R92), gateway silence (R127). -/
def termEvents (s : State) (i : SlotIx) : List Instr :=
  match s.term i with
  | none => []
  | some t =>
    eventIf (due t.ho.deadline s.uptime) (.bicastDeadlineExpiry i) ++
    (match t.part with
      | .crane c =>
        match c.link with
        | .live d => eventIf (decide (d ≤ s.uptime)) (.craneWatchdogExpiry i)
        | .unheard | .lost | .dormant => []
      | .gateway (.reporting _ d) _ => eventIf (due d s.uptime) (.gatewaySilenceExpiry i)
      | _ => [])

/-- The due event of a reefer entry: silence in ACTIVE and ALARM (R137). -/
def reeferEvents (s : State) (i : ReeferIx) : List Instr :=
  match s.reefer i with
  | none => []
  | some r =>
    match r.state with
    | .active | .alarm => eventIf (due r.silence s.uptime) (.reeferSilenceExpiry i)
    | .unheard | .silent | .unplugged => []

/-- Every event that is due now: the expiries above, the coverage period (R100), the flush deadline
(R147), and the next visit of a purge walk (R142). -/
def dueEvents (s : State) : List Instr :=
  (List.finRange 12).flatMap (headEvents s) ++ (List.finRange 256).flatMap (termEvents s) ++
    (List.finRange 2048).flatMap (reeferEvents s) ++
    eventIf (due s.cov.deadline s.uptime) .coveragePeriodExpiry ++
    eventIf (due s.exp.deadline s.uptime && !s.exp.expired) .flushDeadlineExpiry ++
    eventIf s.reef.purge.isSome .purgeWalkVisit

/-- What the part does when no command waits (log 1, log 2): in reset nothing; with nothing due, a
millisecond passes; otherwise one due event, freely chosen, is put in the queue. -/
def idle (s : State) : State :=
  if s.inReset then s
  else
    match dueEvents s with
    | [] => { s with uptime := s.uptime + 1 }
    | e :: es =>
      { s with pending := [((e :: es)[Config.pick s.choice % (es.length + 1)]?).getD e], choice := s.choice + 1 }

end Sys2Proof.Machine
end

