-- ==== Sys2Proof/Machine/Step.lean ====
section
/-! DEFINITION. One step: the command at the front of the queue, or the part's own time; and how commands enter the queue. -/

namespace Sys2Proof.Machine
open Sys2Proof

/-- One step: the command at the front of the queue is taken with the rest left waiting; on an empty
queue the part's own time moves on (log 1, log 2). -/
def step (s : State) : Host.Outcome State Fault Refusal :=
  match s.pending with
  | [] => .next (idle s)
  | c :: rest => exec c { s with pending := rest }

/-- A command put at the back of the queue. -/
def State.offer (s : State) (c : Instr) : State := { s with pending := s.pending ++ [c] }

/-- A frame that arrives on the link of head h, read by R168. -/
def State.offerHeadFrame (s : State) (h : HeadIx) (fcsOk : Bool) (bytes : List Byte) : State :=
  s.offer (headFrameCommand h fcsOk bytes)

/-- A frame that arrives on the trunk link, read by R168 at the part's node address. -/
def State.offerTrunkFrame (s : State) (fcsOk : Bool) (bytes : List Byte) : State :=
  s.offer (trunkFrameCommand s.node fcsOk bytes)

/-- The command a table word spells put at the front of the queue; no row has bits (log 16). -/
def State.withFetchWord (s : State) (nbits w : Nat) : State :=
  match decodeTableWord nbits w with
  | some c => { s with pending := c :: s.pending }
  | none => s

end Sys2Proof.Machine
end

