-- ==== Sys2Proof/Safety.lean ====
section
/-! DEFINITION. What counts as a sound state of the part: the statements the manual says every event keeps, in the terms the claims use. -/

namespace Sys2Proof.Safety
open Sys2Proof Sys2Proof.Machine

/-! ## Queues (R37 to R39, R54, R55, R59) -/

/-- One head's queues: their capacities, at most one SETPOINT in the control queue, an overrun episode
only while crane frames wait, and empty queues without a loop test while the head is DISABLED or OFFLINE. -/
structure HeadQueuesOk (d : Head) : Prop where
  ctl : d.ctlQ.length ≤ 8
  crane : d.craneQ.length ≤ 16
  normal : d.normalQ.length ≤ 64
  oneSetpoint : d.ctlQ.countP CtlFrame.isSetpoint ≤ 1
  episode : d.overrun = true → d.craneQ ≠ []
  testOnlyUp : d.loopTest.isSome = true → d.link.isUp = true
  closedEmpty : d.link = .disabled ∨ d.link = .offline → d.ctlQ = [] ∧ d.craneQ = [] ∧ d.normalQ = []

/-- Every queue within its capacity, and no data frame or control frame queued in STANDBY. -/
structure QueuesOk (s : State) : Prop where
  heads : ∀ h : HeadIx, HeadQueuesOk (s.head h)
  crane : s.trunk.craneQ.length ≤ 16
  notice : s.trunk.noticeQ.length ≤ 32
  reply : s.trunk.replyQ.length ≤ 8
  normal : s.trunk.normalQ.length ≤ 128
  episode : s.trunk.overrun = true → s.trunk.craneQ ≠ []
  turn : s.trunk.exportTurn ≤ 16
  standbyHeads : s.part = .standby → ∀ h : HeadIx,
    (s.head h).ctlQ = [] ∧ (s.head h).craneQ = [] ∧ (s.head h).normalQ = []
  standbyTrunk : s.part = .standby → s.trunk.craneQ = [] ∧ s.trunk.normalQ = []

/-! ## Terminals and segments (R1, R13, Tables 1-1 and 5-1) -/

/-- A head that may serve a terminal: UP, or RESTARTING after a WARM restart. -/
def servable (l : HeadLink) : Bool :=
  match l with
  | .up _ => true
  | .restarting r => decide (r.kind = .warm)
  | .disabled | .offline => false

/-- The three statements that follow Table 5-1, for one entry. -/
structure HandoverOk (s : State) (t : Term) : Prop where
  serving : ∀ v, t.ho.serving = some v → servable (s.head v).link = true
  candidate : ∀ c, t.ho.candidate = some c → s.isUp c = true ∧ t.ho.serving ≠ some c
  bicastCrane : t.ho.deadline.isSome = true → t.isCrane = true

/-- Every entry's handover fields are consistent with the head link states. -/
def HandoversOk (s : State) : Prop := ∀ i t, s.term i = some t → HandoverOk s t

/-- Terminal numbers are 1 to 65534 and no two occupied slots hold the same (R1). -/
structure NumbersOk (s : State) : Prop where
  range : ∀ i t, s.term i = some t → badNumber t.number = false
  unique : ∀ i j t u, s.term i = some t → s.term j = some u → t.number = u.number → i = j

/-- How many occupied slots hold an entry of a class whose segment is g. -/
def countIn (s : State) (c : TermClass) (g : SegIx) : Nat :=
  countTab (fun o : Option Term => o.any fun t => decide (t.part.cls = c ∧ t.segment = some g)) s.terms

/-- The Segment Table counts what the Terminal Table holds (R13). -/
def SegmentsOk (s : State) : Prop :=
  ∀ g : SegIx, (look s.segs g).cranes = countIn s .crane g ∧ (look s.segs g).gateways = countIn s .gateway g

/-! ## Reefers and the pending list (R129, R132, R135, R146 to R148) -/

/-- How many Reefer Table entries name a gateway slot. -/
def countNaming (s : State) (i : SlotIx) : Nat :=
  countTab (fun o : Option Reefer => o.any fun r => decide (r.gateway = some i)) s.reef.table

/-- Tags are 1 to 1,048,575 and unique, gateway references name GATEWAY entries whose reefer counts count
them, an ALARM entry has a setpoint, and a silence deadline exists in ACTIVE and ALARM alone. -/
structure ReefersOk (s : State) : Prop where
  range : ∀ i r, s.reefer i = some r → 1 ≤ r.tag ∧ r.tag ≤ 1048575
  unique : ∀ i j r q, s.reefer i = some r → s.reefer j = some q → r.tag = q.tag → i = j
  named : ∀ i r g, s.reefer i = some r → r.gateway = some g → ∃ t st n, s.term g = some t ∧ t.part = .gateway st n
  counted : ∀ g t st n, s.term g = some t → t.part = .gateway st n → n = countNaming s g
  alarm : ∀ i r, s.reefer i = some r → r.state = .alarm → r.setpoint.isSome = true
  silence : ∀ i r, s.reefer i = some r → r.silence.isSome = true → isHeard r.state = true

/-- The pending list holds exactly the entries whose export-pending flag is set, each once, oldest
first; the flush deadline is present exactly while RUNNING with the list not empty; a request stands
only then. -/
structure PendingOk (s : State) : Prop where
  once : (s.exp.list.map PendItem.index).Nodup
  flagged : ∀ i : ReeferIx, i ∈ s.exp.list.map PendItem.index ↔ ∃ r, s.reefer i = some r ∧ r.pending = true
  ordered : s.exp.list.Pairwise fun p q => p.join ≤ q.join
  past : ∀ p ∈ s.exp.list, p.join ≤ s.uptime
  deadline : s.exp.deadline.isSome = true ↔ s.part = .running ∧ s.exp.list ≠ []
  request : s.exp.request = true → s.part = .running ∧ s.exp.list ≠ []

/-! ## Records and loops (Tables 2-1 and 7-1, R110, R116) -/

/-- Every field of a head record lies within its range (Table 2-1). -/
structure RecordOk (r : HeadRecord) : Prop where
  window : r.winFirst ≤ r.winLast ∧ r.winLast ≤ 47
  trim : -16 ≤ r.trim ∧ r.trim ≤ 15
  base : -40 ≤ r.baseTarget ∧ r.baseTarget ≤ 120
  limits : r.pMin ≤ r.pMax ∧ r.pMax ≤ 120
  initial : r.pMin ≤ r.initial ∧ r.initial ≤ r.pMax
  gains : r.kp ≤ 1023 ∧ r.ki ≤ 1023 ∧ r.kd ≤ 1023
  slew : 1 ≤ r.slew ∧ r.slew ≤ 40
  guard : r.guardLimit ≤ 255 ∧ 1 ≤ r.guardCount ∧ r.guardCount ≤ 8

/-- One head's record and loop state: the offset within the limits, the history within −255..+255, the
status GUARDED exactly while the guard is, the last setpoint that of a queued SETPOINT, and, of a GUARDED
head that is not DISABLED, its p_min. -/
structure LoopOk (s : State) (h : HeadIx) : Prop where
  record : RecordOk (s.head h).record
  offset : (s.head h).record.pMin ≤ (s.loop h).u ∧ (s.loop h).u ≤ (s.head h).record.pMax
  history : -255 ≤ (s.loop h).e1 ∧ (s.loop h).e1 ≤ 255 ∧ -255 ≤ (s.loop h).e2 ∧ (s.loop h).e2 ≤ 255
  guarded : (s.loop h).status = .guarded ↔ (s.loop h).guarded = true
  run : (s.loop h).run ≤ 8
  queued : ∀ v, CtlFrame.setpoint v ∈ (s.head h).ctlQ → (s.loop h).lastSet = some v
  floor : (s.loop h).guarded = true → (s.head h).link ≠ .disabled →
    (s.loop h).lastSet = none ∨ (s.loop h).lastSet = some (s.head h).record.pMin

/-- Every head's record and loop state are sound. -/
def LoopsOk (s : State) : Prop := ∀ h : HeadIx, LoopOk s h

/-! ## Global parameters (Table 10-3) -/

/-- Every global parameter lies within its range. -/
structure ParamsOk (p : Params) : Prop where
  hysteresis : p.hysteresis ≤ 40
  probeLimit : 1 ≤ p.probeLimit ∧ p.probeLimit ≤ 8
  holdoff : p.holdoff ≤ 15
  strayLimit : 1 ≤ p.strayLimit ∧ p.strayLimit ≤ 8
  bicastTimeout : 20 ≤ p.bicastTimeout ∧ p.bicastTimeout ≤ 2000
  craneWatchdog : 50 ≤ p.craneWatchdog ∧ p.craneWatchdog ≤ 1000
  craneMargin : p.craneMargin ≤ 40
  thinMargin : p.thinMargin ≤ 40
  loopDivider : p.loopDivider = 1 ∨ p.loopDivider = 2 ∨ p.loopDivider = 4 ∨ p.loopDivider = 8
  coveragePeriod : 1 ≤ p.coveragePeriod ∧ p.coveragePeriod ≤ 60
  minSamples : 1 ≤ p.minSamples ∧ p.minSamples ≤ 255
  penaltyWeight : 1 ≤ p.penaltyWeight ∧ p.penaltyWeight ≤ 8
  headSilence : 1 ≤ p.headSilence ∧ p.headSilence ≤ 10
  restartTimeout : 5 ≤ p.restartTimeout ∧ p.restartTimeout ≤ 120
  gatewaySilence : 10 ≤ p.gatewaySilence ∧ p.gatewaySilence ≤ 600
  reeferSilence : 60 ≤ p.reeferSilence ∧ p.reeferSilence ≤ 3600
  batchLimit : 1 ≤ p.batchLimit ∧ p.batchLimit ≤ 24
  flushInterval : 100 ≤ p.flushInterval ∧ p.flushInterval ≤ 5000

/-! ## STANDBY (10.4) -/

/-- An entry in STANDBY: ORPHAN, with no watchdog and no gateway silence deadline running. -/
def quietTerm (t : Term) : Bool :=
  decide (t.ho = .orphan) &&
    match t.part with
    | .crane c => decide (c.link = .unheard) || decide (c.link = .dormant)
    | .gateway (.reporting _ d) _ => d.isNone
    | .gateway _ _ | .vehicle | .other => true

/-- In STANDBY no terminal is served, no coverage period, crane watchdog, gateway silence, reefer silence
or flush deadline runs, no export request stands, and every last setpoint is absent. -/
structure QuietInStandby (s : State) : Prop where
  terms : ∀ i t, s.term i = some t → quietTerm t = true
  reefers : ∀ i r, s.reefer i = some r → r.silence = none
  period : s.cov.deadline = none
  flush : s.exp.deadline = none
  request : s.exp.request = false
  turn : s.trunk.exportTurn = 0
  setpoints : ∀ h : HeadIx, (s.loop h).lastSet = none

/-- What 10.4 says of STANDBY. -/
def StandbyOk (s : State) : Prop := s.part = .standby → QuietInStandby s

/-! ## The duplicate window over a run of frames (R65) -/

/-- A window after a list of sequence numbers judged one after the other. -/
def windowAfter (c : CranePart) (qs : List (BitVec 16)) : CranePart := qs.foldl (fun c q => (windowStep c q).2) c

/-! ## Requests: the terms of 10.1 and 10.2 -/

/-- A request addressed to the part's own node that the reply queue admits (R154, R57). -/
abbrev OwnRequest (s : State) (h : Hdr) : Prop :=
  s.inReset = false ∧ h.dest = s.node.setWidth 8 ∧ s.trunk.replyQ.length < 8

/-- A request the part executes: broadcast, or its own with room for a reply (R154, R57). -/
abbrev Accepted (s : State) (h : Hdr) : Prop :=
  s.inReset = false ∧ (h.dest = 255 ∨ (h.dest = s.node.setWidth 8 ∧ s.trunk.replyQ.length < 8))

/-- The state in which an executed request has been counted: BROADCASTS or REQUESTS one higher (R155). -/
def asked (s : State) (h : Hdr) : State :=
  { s with
    mgmt := { s.mgmt with
      cnt :=
        if h.dest = 255 then { s.mgmt.cnt with broadcasts := inc s.mgmt.cnt.broadcasts }
        else { s.mgmt.cnt with requests := inc s.mgmt.cnt.requests } } }

/-- The state with the request's reply at the back of the reply queue: a broadcast has none (R154, R155). -/
def told (s : State) (h : Hdr) (code : Byte) (st : Status) (d : ReplyData) : State :=
  if h.dest = 255 then s
  else
    { s with trunk := { s.trunk with
        replyQ := s.trunk.replyQ ++ [{ code, tag := h.tag, status := st, data := d }] } }

/-- The state with the request's reply, one that carries no data. -/
def settled (s : State) (h : Hdr) (code : Byte) (st : Status) : State := told s h code st .empty

/-- The state with one Head Link Unit replaced. -/
abbrev setHead (s : State) (k : HeadIx) (d : Head) : State := { s with heads := put s.heads k d }

/-- A command that arrives as a request (Table 11-8), with its header and code. -/
def IsRequest (c : Instr) (h : Hdr) (code : Byte) : Prop := ∃ ps, requestParts c = some (h, code, ps)

end Sys2Proof.Safety
end

