-- ==== Sys2Proof/Certificates/Slice0/Obligations.lean ====
section
/-! DEFINITION. The statements for the provers, taken from the numbered rules of the manual. -/

open Sys2Proof Sys2Proof.Machine Sys2Proof.Safety

/-! ## Steps, reset and the part's own time -/

/-- A step takes the command at the front of the queue and leaves the rest waiting. -/
def Obligations.StepTakesTheFrontCommand : Prop :=
  ∀ (c : Instr) (rest : List Instr) (s : State),
    s.pending = c :: rest → step s = exec c { s with pending := rest }

/-- Every command completes, and no command's effect touches the waiting commands. -/
def Obligations.EveryCommandCompletesAndLeavesTheQueue : Prop :=
  ∀ (c : Instr) (s : State), ∃ t, exec c s = .next t ∧ t.pending = s.pending ∧ t.choice = s.choice

/-- With no command waiting: nothing in reset; a millisecond where nothing is due (log 1); else one of
the due events is queued (log 2), which are the expiries of exactly the deadlines that are present and not
later than now, and a visit while a purge walks; no other command is among them. How time passes is the model's choice. -/
def Obligations.IdlePartLetsDueDeadlinesExpire : Prop :=
  (∀ s : State, s.pending = [] →
    (s.inReset = true → step s = .next s) ∧
    (s.inReset = false → dueEvents s = [] → step s = .next { s with uptime := s.uptime + 1 }) ∧
    (s.inReset = false → dueEvents s ≠ [] →
      ∃ c ∈ dueEvents s, step s = .next { s with pending := [c], choice := s.choice + 1 })) ∧
  (∀ s : State,
    (∀ h, .headSilenceExpiry h ∈ dueEvents s ↔ ∃ d, (s.head h).link = .up d ∧ d ≤ s.uptime) ∧
    (∀ h, .pulseEnd h ∈ dueEvents s ↔
      ∃ r d, (s.head h).link = .restarting r ∧ r.pulseEnd = some d ∧ d ≤ s.uptime) ∧
    (∀ h, .blankingEnd h ∈ dueEvents s ↔
      ∃ r d, (s.head h).link = .restarting r ∧ r.blankEnd = some d ∧ d ≤ s.uptime) ∧
    (∀ h, .restartDeadlineExpiry h ∈ dueEvents s ↔
      ∃ r, (s.head h).link = .restarting r ∧ r.deadline ≤ s.uptime) ∧
    (∀ h, .loopTestDeadlineExpiry h ∈ dueEvents s ↔
      ∃ t, (s.head h).loopTest = some t ∧ t.deadline ≤ s.uptime) ∧
    (∀ i, .craneWatchdogExpiry i ∈ dueEvents s ↔
      ∃ t c d, s.term i = some t ∧ t.part = .crane c ∧ c.link = .live d ∧ d ≤ s.uptime) ∧
    (∀ i, .bicastDeadlineExpiry i ∈ dueEvents s ↔
      ∃ t v c d, s.term i = some t ∧ t.ho = .bicast v c d ∧ d ≤ s.uptime) ∧
    (∀ i, .gatewaySilenceExpiry i ∈ dueEvents s ↔
      ∃ t b d n, s.term i = some t ∧ t.part = .gateway (.reporting b (some d)) n ∧ d ≤ s.uptime) ∧
    (∀ i, .reeferSilenceExpiry i ∈ dueEvents s ↔
      ∃ r d, s.reefer i = some r ∧ isHeard r.state = true ∧ r.silence = some d ∧ d ≤ s.uptime) ∧
    (.coveragePeriodExpiry ∈ dueEvents s ↔ ∃ d, s.cov.deadline = some d ∧ d ≤ s.uptime) ∧
    (.flushDeadlineExpiry ∈ dueEvents s ↔
      s.exp.expired = false ∧ ∃ d, s.exp.deadline = some d ∧ d ≤ s.uptime) ∧
    (.purgeWalkVisit ∈ dueEvents s ↔ s.reef.purge.isSome = true) ∧
    ∀ c ∈ dueEvents s,
      (∃ h, c = .headSilenceExpiry h ∨ c = .pulseEnd h ∨ c = .blankingEnd h ∨ c = .restartDeadlineExpiry h ∨
        c = .loopTestDeadlineExpiry h) ∨
      (∃ i, c = .craneWatchdogExpiry i ∨ c = .bicastDeadlineExpiry i ∨ c = .gatewaySilenceExpiry i) ∨
      (∃ i, c = .reeferSilenceExpiry i) ∨ c = .coveragePeriodExpiry ∨ c = .flushDeadlineExpiry ∨ c = .purgeWalkVisit)

/-- The values after hard reset, chapter by chapter. -/
def Obligations.ResetGivesEveryBlockItsChapterValues : Prop :=
  State.reset.part = .standby ∧ State.reset.uptime = 0 ∧
  State.reset.mgmt.mask = BitVec.allOnes 21 ∧ State.reset.mgmt.summary = 0 ∧
  State.reset.mgmt.params =
    { hysteresis := 12, probeLimit := 3, holdoff := 4, strayLimit := 3, bicastTimeout := 400, craneWatchdog := 300,
      craneMargin := 12, thinMargin := 8, loopDivider := 1, coveragePeriod := 10, minSamples := 8,
      penaltyEnable := true, penaltyWeight := 4, headSilence := 3, restartTimeout := 60, gatewaySilence := 120,
      reeferSilence := 900, autoLearn := true, batchLimit := 24, flushInterval := 1000 } ∧
  (∀ h : HeadIx,
    (State.reset.head h).link = .disabled ∧ (State.reset.head h).loopTest = none ∧
    (State.reset.head h).last = none ∧ (State.reset.head h).alarms = 0 ∧ (State.reset.head h).overrun = false ∧
    (State.reset.head h).ctlQ = [] ∧ (State.reset.head h).craneQ = [] ∧ (State.reset.head h).normalQ = [] ∧
    (State.reset.head h).record =
      { enabled := false, winFirst := 0, winLast := 47, trim := 0, baseTarget := 40, pMin := 0, pMax := 120,
        initial := 60, kp := 128, ki := 32, kd := 0, slew := 8, guardLimit := 0, guardCount := 2,
        autoRestore := true, alarmMask := 0, alarmSense := 0 } ∧
    State.reset.restartLine h = false ∧
    (State.reset.loop h).u = 60 ∧ (State.reset.loop h).e1 = 0 ∧ (State.reset.loop h).e2 = 0 ∧
    (State.reset.loop h).status = .unmeasured ∧ (State.reset.loop h).guarded = false ∧
    (State.reset.loop h).run = 0 ∧ (State.reset.loop h).lastSet = none ∧
    ∀ g : SegIx, State.reset.cell h g = { sum := 0, count := 0, avg := none, state := .none }) ∧
  (∀ i : SlotIx, State.reset.term i = none) ∧
  (∀ g : SegIx, look State.reset.segs g = { cranes := 0, gateways := 0 }) ∧
  State.reset.trunk.craneQ = [] ∧ State.reset.trunk.noticeQ = [] ∧ State.reset.trunk.replyQ = [] ∧
  State.reset.trunk.normalQ = [] ∧ State.reset.trunk.overrun = false ∧ State.reset.trunk.exportTurn = 0 ∧
  State.reset.cov.deadline = none ∧ State.reset.cov.index = 0 ∧
  (∀ i : ReeferIx, State.reset.reefer i = none) ∧ State.reset.reef.tableFull = false ∧
  State.reset.reef.purge = none ∧
  (∀ b : BandIx, look State.reset.reef.bands b =
    { lower := 30, upper := 30, persistence := 3, deadband := 5, refresh := 60 }) ∧
  State.reset.exp.list = [] ∧ State.reset.exp.deadline = none ∧ State.reset.exp.request = false ∧
  ∀ g : Group, ∀ c ∈ groupCounters g State.reset, c = 0

/-- R161: assertion of the reset pin; what is taken while it is asserted; its release; and the node address,
which nothing but a release of reset changes. What is taken during reset, what the assertion itself sets and
that a release keeps the link indications are the model's reading (logs 4, 5, 9 and 7). -/
def Obligations.HardResetHoldsThePartUntilRelease : Prop :=
  (∀ s : State, ∃ t, exec .hardReset s = .next t ∧ t.inReset = true ∧ t.trunk.tx = none ∧
    ∀ h : HeadIx, t.restartLine h = false ∧ (t.head h).tx = none ∧ (t.head h).loopTest = none) ∧
  (∀ (c : Instr) (s : State), s.inReset = true → c ≠ .hardReset → (∀ straps, c ≠ .resetRelease straps) →
    (∀ h, c ≠ .headLinkUp h ∧ c ≠ .headLinkDown h) → c ≠ .trunkLinkUp → c ≠ .trunkLinkDown →
    exec c s = .next s) ∧
  (∀ (s : State) (straps : BitVec 6), s.inReset = true →
    exec (.resetRelease straps) s = .next
      { State.reset with
        pending := s.pending, choice := s.choice, node := straps
        heads := tabulate fun h => { State.reset.head h with ethUp := (s.head h).ethUp }
        trunk := { State.reset.trunk with linkUp := s.trunk.linkUp } }) ∧
  ∀ (c : Instr) (s t : State), (∀ straps, c ≠ .resetRelease straps) → exec c s = .next t → t.node = s.node

/-! ## Requests (chapter 10) -/

/-- R154, R57: a MGMT frame for another node changes OTHER_NODE alone, and an own-node request that finds 8
replies waiting changes REQUEST_OVERRUN alone, whatever it asks for. -/
def Obligations.RequestsNotTakenAreCountedAlone : Prop :=
  ((∀ (c : Instr) (h : Hdr) (code : Byte) (s : State), IsRequest c h code → WellFormed c = true →
    s.inReset = false → h.dest ≠ 255 → h.dest ≠ s.node.setWidth 8 →
    exec c s = .next
      { s with mgmt := { s.mgmt with cnt := { s.mgmt.cnt with otherNode := inc s.mgmt.cnt.otherNode } } }) ∧
  ∀ (dest : Byte) (s : State), s.inReset = false → dest ≠ 255 → dest ≠ s.node.setWidth 8 →
    exec (.otherNode dest) s = .next
      { s with mgmt := { s.mgmt with cnt := { s.mgmt.cnt with otherNode := inc s.mgmt.cnt.otherNode } } }) ∧
  (∀ (c : Instr) (h : Hdr) (code : Byte) (s : State), IsRequest c h code → WellFormed c = true →
    s.inReset = false → h.dest = s.node.setWidth 8 → 8 ≤ s.trunk.replyQ.length →
    exec c s = .next
      { s with trunk := { s.trunk with cnt := { s.trunk.cnt with requestOverrun := inc s.trunk.cnt.requestOverrun } } })

/-- R155: a request answered with a status other than DONE and CLAMPED has changed nothing but REQUESTS, and
its reply carries its code, its tag and no data; a code that names no request is such a request. A broadcast
counts in BROADCASTS even so (log 13, the model's reading). -/
def Obligations.RefusedRequestsChangeNothing : Prop :=
  (∀ (c : Instr) (h : Hdr) (code : Byte) (s t : State) (r : Reply), IsRequest c h code → WellFormed c = true →
    OwnRequest s h → exec c s = .next t → t.trunk.replyQ = s.trunk.replyQ ++ [r] →
    r.status ≠ .done → r.status ≠ .clamped → t = settled (asked s h) h code r.status) ∧
  ∀ (s : State) (h : Hdr) (code : Byte), Accepted s h → WellFormed (.badRequest h code) = true →
    exec (.badRequest h code) s = .next (settled (asked s h) h code .badRequest)

/-- R157: IDENT's six items as the reply carries them; it changes nothing else, and by broadcast it gives no reply. -/
def Obligations.IdentReportsSixItems : Prop :=
  (∀ (s : State) (h : Hdr), Accepted s h →
    exec (.ident h) s = .next
      (told (asked s h) h 1 .done (.ident s.node (decide (s.part = .running)) (s.uptime / 1000)))) ∧
  ∀ (node : BitVec 6) (running : Bool) (up : Nat), up < 4294967296 →
    (ReplyData.ident node running up).bytes =
      [0x5A, 0x1E, 0x43, 0x12, 0x02, node.setWidth 8, if running then 2 else 1] ++ bytes4 (BitVec.ofNat 32 up)

/-- R162: the identifiers, ranges and fields of Table 10-3 in its order, the checks of SET_PARAM and GET_PARAM,
the value stored, and the parameters left alone. A refused broadcast is counted too (log 13, the model's reading). -/
def Obligations.ParametersAreCheckedClampedAndRead : Prop :=
  (let ids : List ParamId :=
    [.hysteresis, .probeLimit, .holdoff, .strayLimit, .bicastTimeout, .craneWatchdog, .craneMargin, .thinMargin,
     .loopDivider, .coveragePeriod, .minSamples, .penaltyEnable, .penaltyWeight, .headSilence, .restartTimeout,
     .gatewaySilence, .reeferSilence, .autoLearn, .batchLimit, .flushInterval]
   ids.map ParamId.code = (List.range 20).map (fun n => BitVec.ofNat 8 (n + 1)) ∧
   ids.map paramRange =
    [.range 0 40, .range 1 8, .range 0 15, .range 1 8, .range 20 2000, .range 50 1000, .range 0 40, .range 0 40,
     .divider, .range 1 60, .range 1 255, .yesNo, .range 1 8, .range 1 10, .range 5 120,
     .range 10 600, .range 60 3600, .yesNo, .range 1 24, .range 100 5000] ∧
   ∀ p : Params, ids.map p.get =
    [p.hysteresis, p.probeLimit, p.holdoff, p.strayLimit, p.bicastTimeout, p.craneWatchdog, p.craneMargin, p.thinMargin,
     p.loopDivider, p.coveragePeriod, p.minSamples, if p.penaltyEnable then 1 else 2, p.penaltyWeight, p.headSilence,
     p.restartTimeout, p.gatewaySilence, p.reeferSilence, if p.autoLearn then 1 else 2, p.batchLimit, p.flushInterval]) ∧
  (∀ (s : State) (h : Hdr) (p : Option SetParamP), Accepted s h →
    exec (.setParam h p) s = .next
      (match p with
        | none => settled (asked s h) h 5 .badParam
        | some q =>
          match q.id with
          | none => settled (asked s h) h 5 .badParam
          | some i =>
            let v := q.value.toInt
            let stored := fun (x : Nat) (st : Status) =>
              settled { asked s h with mgmt := { (asked s h).mgmt with params := s.mgmt.params.set i x } } h 5 st
            match paramRange i with
            | .yesNo => if v = 1 ∨ v = 2 then stored v.toNat .done else settled (asked s h) h 5 .badParam
            | .divider =>
              if v = 1 ∨ v = 2 ∨ v = 4 ∨ v = 8 then stored v.toNat .done else settled (asked s h) h 5 .badParam
            | .range lo hi =>
              if v < lo then stored lo .clamped else if hi < v then stored hi .clamped else stored v.toNat .done)) ∧
  (∀ (p : Params) (i : ParamId) (x : Nat), (paramRange i = .yesNo → x = 1 ∨ x = 2) → (p.set i x).get i = x) ∧
  (∀ (p : Params) (i j : ParamId) (x : Nat), j ≠ i → (p.set i x).get j = p.get j) ∧
  ∀ (s : State) (h : Hdr) (p : Option (Option ParamId)), Accepted s h →
    exec (.getParam h p) s = .next
      (match p with
        | some (some i) => told (asked s h) h 6 .done (.param (s.mgmt.params.get i))
        | some none => settled (asked s h) h 6 .badParam
        | none => settled (asked s h) h 6 .badParam)

/-- R164, R165: NOTICE_MASK replaces the whole mask and nothing else, and refuses a set with a bit above bit
20; NOTICE_SUMMARY reports the summary and empties it, by broadcast without reporting it. A refused broadcast
is counted too (log 13, the model's reading). -/
def Obligations.MaskIsReplacedAndSummaryIsEmptied : Prop :=
  (∀ (s : State) (h : Hdr) (p : Option (BitVec 32)), Accepted s h →
    exec (.noticeMask h p) s = .next
      (match p with
        | none => settled (asked s h) h 24 .badParam
        | some m =>
          if m >>> 21 = 0 then
            settled { asked s h with mgmt := { (asked s h).mgmt with mask := m.setWidth 21 } } h 24 .done
          else settled (asked s h) h 24 .badParam)) ∧
  ∀ (s : State) (h : Hdr), Accepted s h →
    exec (.noticeSummary h) s = .next
      (told { asked s h with mgmt := { (asked s h).mgmt with summary := 0 } } h 25 .done (.summary s.mgmt.summary))

/-- R166: COUNTERS_READ answers every counter of the group as it stands, its own count included, and with the
clear option sets them to 0 and leaves everything else as it is; the counters of each group of Table 10-5, in the
order of its table, head 0 first. A refused broadcast is counted too, and a broadcast is counted in BROADCASTS before
the read and the clear (log 13, the model's reading and choice). -/
def Obligations.CountersAreReadAndCleared : Prop :=
  (∀ (s : State) (h : Hdr) (p : Option CountersP), Accepted s h →
    exec (.countersRead h p) s = .next
      (match p with
        | some ⟨some g, some clear⟩ =>
          told (if clear then clearGroup g (asked s h) else asked s h) h 23 .done
            (.counters (groupCounters g (asked s h)))
        | _ => settled (asked s h) h 23 .badParam)) ∧
  (∀ (g : Group) (s : State), ∀ c ∈ groupCounters g (clearGroup g s), c = 0) ∧
  (∀ (g k : Group) (s : State), k ≠ g → groupCounters k (clearGroup g s) = groupCounters k s) ∧
  (∀ s : State,
    groupCounters .head s = (List.finRange 12).flatMap (fun k =>
      let c := (s.head k).cnt
      [c.rxDamaged, c.rxNotUp, c.echoUnexpected, c.flushed, c.notUpDrop, c.controlDrop, c.orderBlocked, c.craneDrop,
       c.normalDrop, c.replyLost]) ∧
    groupCounters .classifier s =
      [s.cls.mgmtOnHead, s.cls.ulWrongKind, s.cls.ulStandbyDrop, s.cls.ulBadTerminal, s.cls.unlistedUser,
       s.cls.unlistedCrane, s.cls.unlistedMeas, s.cls.unlistedBatch, s.cls.classMismatch, s.cls.dlStandbyDrop,
       s.cls.dlBadTerminal, s.cls.forcedNotUp, s.cls.forcedBadHead, s.cls.dlUnknown, s.cls.dlClassMismatch,
       s.cls.orphanDrop] ∧
    groupCounters .trunk s =
      (let c := s.trunk.cnt
       [c.damaged, c.wrongKind, c.craneDrop, c.noticeDrop, c.requestOverrun, c.normalDrop, c.txCrane, c.txNotice,
        c.txReply, c.txNormal, c.txExport]) ∧
    groupCounters .crane s = [s.crane.accepted, s.crane.duplicate, s.crane.stale, s.crane.losses, s.crane.restores] ∧
    groupCounters .handover s =
      [s.ho.anchors, s.ho.reanchors, s.ho.orphanings, s.ho.hardHandovers, s.ho.bicastStarts, s.ho.bicastSuccess,
       s.ho.bicastTimeout, s.ho.bicastForced, s.ho.bicastCandidateLost, s.ho.noCover, s.ho.measBadHead,
       s.ho.measRepeatHead, s.ho.segmentInvalid] ∧
    groupCounters .coverage s =
      (let c := s.cov.cnt
       [c.samplesAdmitted, c.outOfWindow, c.countFull, c.penaltyApplied, c.penaltySuppressed, c.closes]) ∧
    groupCounters .loop s = (List.finRange 12).flatMap (fun k =>
      let c := (s.loop k).cnt
      [c.updates, c.unmeasuredUpdates, c.slewClamps, c.rangeClamps, c.guardEntries]) ∧
    groupCounters .reefer s =
      (let c := s.reef.cnt
       [c.batches, c.batchNotGateway, c.batchTruncated, c.unknownKind, c.badTag, c.records, c.autoLearned,
        c.unknownTagDrop, c.setpointInvalid, c.sensorFault, c.reeferAlarms, c.reeferSilences, c.gatewaySilences, c.purged,
        c.purgeReplyLost]) ∧
    groupCounters .exportGroup s =
      (let c := s.exp.cnt
       [c.offers, c.merged, c.batches, c.records, c.removed]) ∧
    groupCounters .management s =
      (let c := s.mgmt.cnt
       [c.requests, c.broadcasts, c.otherNode, c.noticesRaised, c.noticesMasked])) ∧
  ∀ s : State,
    (clearGroup .head s = { s with heads := (clearGroup .head s).heads } ∧
      ∀ k, (clearGroup .head s).head k = { s.head k with cnt := ((clearGroup .head s).head k).cnt }) ∧
    clearGroup .classifier s = { s with cls := (clearGroup .classifier s).cls } ∧
    clearGroup .trunk s = { s with trunk := { s.trunk with cnt := (clearGroup .trunk s).trunk.cnt } } ∧
    clearGroup .crane s = { s with crane := (clearGroup .crane s).crane } ∧
    clearGroup .handover s = { s with ho := (clearGroup .handover s).ho } ∧
    clearGroup .coverage s = { s with cov := { s.cov with cnt := (clearGroup .coverage s).cov.cnt } } ∧
    (clearGroup .loop s = { s with loops := (clearGroup .loop s).loops } ∧
      ∀ k, (clearGroup .loop s).loop k = { s.loop k with cnt := ((clearGroup .loop s).loop k).cnt }) ∧
    clearGroup .reefer s = { s with reef := { s.reef with cnt := (clearGroup .reefer s).reef.cnt } } ∧
    clearGroup .exportGroup s = { s with exp := { s.exp with cnt := (clearGroup .exportGroup s).exp.cnt } } ∧
    clearGroup .management s = { s with mgmt := { s.mgmt with cnt := (clearGroup .management s).mgmt.cnt } }

/-- R54 to R56, R163: a notice raised enters the summary, is counted, filtered by the mask and offered to the
notice queue, whose last four places admit crane-class kinds alone; the crane and normal uplink queues. The uptime of a notice is in whole seconds and wraps (Table 11-9). -/
def Obligations.TrunkQueuesAdmitByTheTable : Prop :=
  (∀ (k : NoticeKind) (subject : Nat) (detail : BitVec 16) (s : State),
    (raise k subject detail s).mgmt.summary = s.mgmt.summary ||| (1#21 <<< k.bit) ∧
    (raise k subject detail s).mgmt.cnt =
      { s.mgmt.cnt with
        noticesRaised := inc s.mgmt.cnt.noticesRaised
        noticesMasked :=
          if s.mgmt.mask.getLsbD k.bit then s.mgmt.cnt.noticesMasked else inc s.mgmt.cnt.noticesMasked } ∧
    (raise k subject detail s).trunk =
      (if s.mgmt.mask.getLsbD k.bit = false then s.trunk
       else if s.trunk.noticeQ.length < 28 ∨
           (s.trunk.noticeQ.length < 32 ∧
             k ∈ [.craneLinkLost, .craneLinkRestored, .handoverFailed, .handoverForced, .queueOverrun]) then
         { s.trunk with
           noticeQ := s.trunk.noticeQ ++
             [{ kind := k, uptime := BitVec.ofNat 32 (s.uptime / 1000), subject := BitVec.ofNat 32 subject, detail }] }
       else { s.trunk with cnt := { s.trunk.cnt with noticeDrop := inc s.trunk.cnt.noticeDrop } }) ∧
    raise k subject detail s =
      { s with mgmt := { (raise k subject detail s).mgmt with params := s.mgmt.params, mask := s.mgmt.mask }
               trunk := (raise k subject detail s).trunk }) ∧
  (∀ (s : State) (f : BerthFrame),
    offerTrunkCrane f s =
      (let full := { s.trunk with cnt := { s.trunk.cnt with craneDrop := inc s.trunk.cnt.craneDrop } }
       if s.trunk.craneQ.length < 16 then { s with trunk := { s.trunk with craneQ := s.trunk.craneQ ++ [f] } }
       else if s.trunk.overrun then { s with trunk := full }
       else raise .queueOverrun 12 2 { s with trunk := { full with overrun := true } }) ∧
    offerTrunkNormal f s =
      (if s.trunk.normalQ.length < 128 then { s with trunk := { s.trunk with normalQ := s.trunk.normalQ ++ [f] } }
       else { s with trunk := { s.trunk with cnt := { s.trunk.cnt with normalDrop := inc s.trunk.cnt.normalDrop } } }))

/-! ## The part state (10.4) -/

/-- R158, R159: START and STOP, each in STANDBY and in RUNNING. A flush deadline armed at or before now
expires at once (log 12, the model's reading). -/
def Obligations.StartAndStopChangeThePartState : Prop :=
  (∀ (s : State) (h : Hdr), Accepted s h → ∃ t, exec (.start h) s = .next (settled t h 2 .done) ∧
    (s.part = .running → t = asked s h) ∧
    (s.part = .standby →
      t = { asked s h with
            part := .running, heads := t.heads, terms := t.terms
            cov := { s.cov with deadline := some (s.uptime + s.mgmt.params.coveragePeriod * 1000) }
            reef := { s.reef with table := t.reef.table }
            exp := { s.exp with deadline := t.exp.deadline, expired := t.exp.expired, request := t.exp.request }
            trunk := { s.trunk with
              exportTurn := if s.exp.request = true ∧ t.exp.request = false then 0 else s.trunk.exportTurn } } ∧
      (∀ k, t.head k =
        match (s.head k).loopTest with
        | some e =>
          if e.held then
            { s.head k with
              loopTest := some { e with held := false }, ctlQ := (s.head k).ctlQ ++ [.loopTest e.pattern] }
          else s.head k
        | none => s.head k) ∧
      (∀ i, t.term i = (s.term i).map fun e =>
        match e.part with
        | .gateway (.reporting b _) n =>
          { e with part := .gateway (.reporting b (some (s.uptime + s.mgmt.params.gatewaySilence * 1000))) n }
        | _ => e) ∧
      (∀ i, t.reefer i = (s.reefer i).map fun r =>
        if r.state = .active ∨ r.state = .alarm then
          { r with silence := some (s.uptime + s.mgmt.params.reeferSilence * 1000) }
        else r) ∧
      t.exp.deadline = s.exp.list.head?.map (fun p => p.join + s.mgmt.params.flushInterval) ∧
      (t.exp.expired = true ↔ ∃ p, s.exp.list.head? = some p ∧ p.join + s.mgmt.params.flushInterval ≤ s.uptime) ∧
      (t.exp.request = true ↔
        s.exp.list ≠ [] ∧ (s.mgmt.params.batchLimit ≤ s.exp.list.length ∨ t.exp.expired = true)))) ∧
  (∀ (s : State) (h : Hdr), Accepted s h → ∃ t, exec (.stop h) s = .next (settled t h 3 .done) ∧
    (s.part = .standby → t = asked s h) ∧
    (s.part = .running →
      t = { asked s h with
            part := .standby, heads := t.heads, terms := t.terms, loops := t.loops
            trunk := { s.trunk with craneQ := [], normalQ := [], overrun := false, exportTurn := 0 }
            cov := { s.cov with cells := t.cov.cells, deadline := none }
            reef := { s.reef with table := t.reef.table }
            exp := { s.exp with deadline := none, expired := false, request := false } } ∧
      (∀ k, t.head k =
        { s.head k with
          ctlQ := [], craneQ := [], normalQ := [], overrun := false
          cnt := { (s.head k).cnt with
            flushed := satAdd (s.head k).cnt.flushed
              ((s.head k).ctlQ.length + (s.head k).craneQ.length + (s.head k).normalQ.length) } }) ∧
      (∀ i, t.term i = (s.term i).map fun e =>
        { e with
          ho := .orphan, probe := 0, holdoff := 0, stray := 0, lsq := none
          part := match e.part with
            | .crane c =>
              .crane { link := if c.link = .dormant then .dormant else .unheard, valid := false, highest := 0, history := 0 }
            | .gateway (.reporting b _) n => .gateway (.reporting b none) n
            | p => p }) ∧
      (∀ k g, t.cell k g = { s.cell k g with sum := 0, count := 0 }) ∧
      (∀ k, t.loop k = { s.loop k with lastSet := none }) ∧
      ∀ i, t.reefer i = (s.reefer i).map fun r => { r with silence := none }))

/-- R160: SOFT_RESET, in either part state. A LOOP_TEST frame still queued is flushed and counted with its queue
(log 10, the model's reading). -/
def Obligations.SoftResetSetsBlocksBack : Prop :=
  ∀ (s : State) (h : Hdr), Accepted s h → ∃ t, exec (.softReset h) s = .next (settled t h 4 .done) ∧
    t = { asked s h with
          part := .standby, heads := t.heads, terms := t.terms, loops := t.loops, segs := t.segs
          trunk := { s.trunk with
            craneQ := [], noticeQ := [], replyQ := [], normalQ := [], overrun := false, exportTurn := 0 }
          cov := { s.cov with cells := t.cov.cells, deadline := none, index := 0 }
          reef := { s.reef with table := t.reef.table, tableFull := false, purge := none }
          exp := { s.exp with list := [], deadline := none, expired := false, request := false } } ∧
    (∀ k, t.head k =
      { s.head k with
        ctlQ := [], craneQ := [], normalQ := [], overrun := false, loopTest := none, alarms := 0
        cnt := { (s.head k).cnt with
          flushed := satAdd (s.head k).cnt.flushed
            ((s.head k).ctlQ.length + (s.head k).craneQ.length + (s.head k).normalQ.length) } }) ∧
    (∀ i, t.term i = (s.term i).map fun e =>
      { e with
        ho := .orphan, probe := 0, holdoff := 0, stray := 0, lsq := none, segment := none
        part := match e.part with
          | .crane c =>
            .crane { link := if c.link = .dormant then .dormant else .unheard, valid := false, highest := 0, history := 0 }
          | .gateway _ n => .gateway .unheard n
          | p => p }) ∧
    (∀ g, look t.segs g = { cranes := 0, gateways := 0 }) ∧
    (∀ k g, t.cell k g = { sum := 0, count := 0, avg := none, state := .none }) ∧
    (∀ k, t.loop k =
      { s.loop k with
        u := (s.head k).record.initial, e1 := 0, e2 := 0, status := .unmeasured, guarded := false, run := 0
        lastSet := none }) ∧
    ∀ i, t.reefer i = (s.reefer i).map fun r =>
      { r with
        state := if r.state = .unplugged then .unplugged else .unheard
        outRun := 0, inRun := 0, silence := none, pending := false }

/-! ## Terminals (chapter 1) -/

/-- R1, R7: a lookup answers the slot that holds a number, none only where no slot holds it; what a selector
and a value resolve to. -/
def Obligations.TerminalsAreFoundBySlotOrNumber : Prop :=
  ((∀ (s : State) (n : TermNo) (i : SlotIx) (e : Term), s.lookup n = some (i, e) → s.term i = some e ∧ e.number = n) ∧
  (∀ (s : State) (n : TermNo), s.lookup n = none ↔ ∀ i e, s.term i = some e → e.number ≠ n) ∧
  ∀ (s : State) (i : SlotIx) (e : Term), NumbersOk s → s.term i = some e → s.lookup e.number = some (i, e)) ∧
  (∀ (s : State) (p : Option TermSelP),
    pickTerm p s =
      (match p with
        | none => .refused .badParam
        | some ⟨none, _⟩ => .refused .badParam
        | some ⟨some .slot, v⟩ =>
          match ix? 256 v.toNat with
          | none => .refused .badParam
          | some i =>
            match s.term i with
            | some e => .entry i e
            | none => .refused .notFound
        | some ⟨some .number, v⟩ =>
          if v = 0 ∨ v = 65535 then .refused .badParam
          else
            match s.lookup v with
            | some (i, e) => .entry i e
            | none => .refused .notFound))

/-- R4, R5, R8 to R10: the checks of TERM_LOAD and the values of a new entry; TERM_REMOVE frees its slot,
lowers the count of its segment, clears the references to a gateway, and changes nothing else. A refused
broadcast is counted too (log 13, the model's reading). -/
def Obligations.TermLoadAndRemoveChangeOneSlot : Prop :=
  (∀ (s : State) (h : Hdr) (p : Option TermLoadP), Accepted s h →
    exec (.termLoad h p) s = .next
      (match p with
        | none => settled (asked s h) h 7 .badParam
        | some q =>
          match q.cls, ix? 256 q.slot.toNat with
          | some c, some i =>
            if q.number = 0 ∨ q.number = 65535 then settled (asked s h) h 7 .badParam
            else if (s.term i).isSome then settled (asked s h) h 7 .occupied
            else if ∃ j : SlotIx, (s.term j).any (fun e => decide (e.number = q.number)) = true then
              settled (asked s h) h 7 .duplicate
            else
              settled
                { asked s h with
                  terms := put s.terms i (some
                    { number := q.number, ho := .orphan, probe := 0, holdoff := 0, stray := 0, segment := none
                      lsq := none
                      part := match c with
                        | .crane => .crane { link := .unheard, valid := false, highest := 0, history := 0 }
                        | .vehicle => .vehicle
                        | .gateway => .gateway .unheard 0
                        | .other => .other }) }
                h 7 .done
          | _, _ => settled (asked s h) h 7 .badParam)) ∧
  (∀ (s : State) (h : Hdr) (p : Option TermSelP), Accepted s h →
    (∀ st, pickTerm p s = .refused st → exec (.termRemove h p) s = .next (settled (asked s h) h 8 st)) ∧
    ∀ i e, pickTerm p s = .entry i e → ∃ t,
      exec (.termRemove h p) s = .next (settled t h 8 .done) ∧
      t = { asked s h with
            terms := put s.terms i none, segs := t.segs, reef := { s.reef with table := t.reef.table } } ∧
      (∀ g, look t.segs g =
        match e.part with
        | .crane _ => if e.segment = some g then { look s.segs g with cranes := (look s.segs g).cranes - 1 } else look s.segs g
        | .gateway _ _ =>
          if e.segment = some g then { look s.segs g with gateways := (look s.segs g).gateways - 1 } else look s.segs g
        | _ => look s.segs g) ∧
      ∀ j, t.reefer j = (s.reefer j).map fun r =>
        match e.part with
        | .gateway _ _ => if r.gateway = some i then { r with gateway := none } else r
        | _ => r)

/-- R73: the checks of CRANE_DORMANT in order and its effect on the crane part alone. A refused broadcast is
counted too (log 13, the model's reading). -/
def Obligations.CraneDormantSetsTheLinkState : Prop :=
  ∀ (s : State) (h : Hdr) (p : Option CraneDormantP), Accepted s h →
    exec (.craneDormant h p) s = .next
      (match p with
        | none => settled (asked s h) h 10 .badParam
        | some q =>
          match ix? 256 q.slot.toNat, q.setting with
          | some i, some on =>
            match s.term i with
            | none => settled (asked s h) h 10 .notFound
            | some e =>
              match e.part with
              | .crane _ =>
                settled
                  { asked s h with
                    terms := put s.terms i (some
                      { e with
                        part := .crane { link := if on then .dormant else .unheard, valid := false, highest := 0
                                         history := 0 } }) }
                  h 10 .done
              | _ => settled (asked s h) h 10 .wrongState
          | _, _ => settled (asked s h) h 10 .badParam)

/-! ## Reads (R11, R12, R22, R106, R107, R140) -/

/-- The requests that read (R11, R12, R22, R106, R107, R140): their checks, what they answer, that they change
nothing, the frames of a terminal that are waiting, and the segments a range names. A refused broadcast is counted too (log 13, the model's reading). -/
def Obligations.ReadsAnswerAndChangeNothing : Prop :=
  (∀ (s : State) (h : Hdr), Accepted s h →
    (∀ p, exec (.termRead h p) s = .next
      (match pickTerm p s with
        | .refused st => settled (asked s h) h 9 st
        | .entry i e =>
          told (asked s h) h 9 .done
            (.term i e (e.ho.deadline.map fun d => d - s.uptime) (waitingFrames e.number s) (s.uptime / 1000)
              (match e.part with
                | .crane c =>
                  match c.link with
                  | .live d => some (d - s.uptime)
                  | _ => none
                | .gateway (.reporting _ d) _ => d.map fun d => d - s.uptime
                | _ => none)))) ∧
    (∀ p, exec (.headRead h p) s = .next
      (match p with
        | none => settled (asked s h) h 12 .badParam
        | some b =>
          match ix? 12 b.toNat with
          | none => settled (asked s h) h 12 .badParam
          | some k =>
            told (asked s h) h 12 .done (.head
              { record := (s.head k).record, link := (s.head k).link, ethUp := (s.head k).ethUp
                restart := match (s.head k).link with
                  | .restarting r =>
                    some (r.kind, (match r.pulseEnd with | some d => d - s.uptime | none => 0), r.deadline - s.uptime)
                  | _ => none
                testInFlight := (s.head k).loopTest.isSome, last := (s.head k).last, alarms := (s.head k).alarms
                ctlLen := (s.head k).ctlQ.length, craneLen := (s.head k).craneQ.length
                normalLen := (s.head k).normalQ.length, overrun := (s.head k).overrun
                u := (s.loop k).u, status := (s.loop k).status, guarded := (s.loop k).guarded }))) ∧
    (∀ p, exec (.cellRead h p) s = .next
      (match p with
        | none => settled (asked s h) h 16 .badParam
        | some q =>
          match ix? 12 q.head.toNat with
          | none => settled (asked s h) h 16 .badParam
          | some k =>
            if min q.last.toNat 47 < q.first.toNat then settled (asked s h) h 16 .badParam
            else
              told (asked s h) h 16 (if q.last.toNat ≤ 47 then .done else .clamped)
                (.cells k (s.head k).record.winFirst (s.head k).record.winLast s.cov.index
                  (s.cov.deadline.map fun d => d - s.uptime)
                  ((segRange q.first.toNat (min q.last.toNat 47)).map (s.cell k))))) ∧
    (∀ p, exec (.segRead h p) s = .next
      (match p with
        | none => settled (asked s h) h 17 .badParam
        | some q =>
          if min q.last.toNat 47 < q.first.toNat then settled (asked s h) h 17 .badParam
          else
            told (asked s h) h 17 (if q.last.toNat ≤ 47 then .done else .clamped)
              (.segs ((segRange q.first.toNat (min q.last.toNat 47)).map (look s.segs))))) ∧
    ∀ p, exec (.reeferRead h p) s = .next
      (match pickReefer p s with
        | .refused st => settled (asked s h) h 20 st
        | .entry i r =>
          told (asked s h) h 20 .done
            (.reefer r i (r.gateway.bind fun g => (s.term g).map Term.number) (r.silence.map fun d => d - s.uptime)))) ∧
  (∀ (n : TermNo) (s : State),
    waitingFrames n s = ((List.finRange 12).map fun k =>
      (s.head k).ctlQ.countP (fun c => match c with
        | .order m _ => decide (m = n)
        | .linkLost m => decide (m = n)
        | .setpoint _ => false
        | .loopTest _ => false) +
      (s.head k).craneQ.countP (fun f => decide (f.terminal = n)) +
      (s.head k).normalQ.countP fun f => decide (f.terminal = n)).sum) ∧
  (∀ first last : Nat,
    (∀ g : SegIx, g ∈ segRange first last ↔ first ≤ g.val ∧ g.val ≤ last) ∧
    (segRange first last).Pairwise fun g k => g.val < k.val)

/-! ## Head Link Units (chapter 2) -/

/-- R20, R21, R105, R110, R117: the checks and clamps of HEAD_LOAD in order; what the record does to its head,
its cells and its loop, with the consequences of R26 (HeadRestartsLeaveUp) where it disables the head; the other
heads keep theirs. A refused broadcast is counted too (log 13, the model's
reading). -/
def Obligations.HeadLoadReplacesTheRecord : Prop :=
  (∀ (s : State) (h : Hdr) (p : Option HeadLoadP), Accepted s h →
    exec (.headLoad h p) s = .next
      (match p with
        | none => settled (asked s h) h 11 .badParam
        | some q =>
          match q.enabled, q.autoRestore, ix? 12 q.head.toNat with
          | some en, some ar, some k =>
            let pMin := min q.pMin.toNat 120
            let pMax := min q.pMax.toNat 120
            let r : HeadRecord :=
              { enabled := en, winFirst := min q.winFirst.toNat 47, winLast := min q.winLast.toNat 47
                trim := max (-16) (min 15 q.trim.toInt), baseTarget := max (-40) (min 120 q.baseTarget.toInt)
                pMin, pMax, initial := max pMin (min pMax q.initial.toNat)
                kp := min q.kp.toNat 1023, ki := min q.ki.toNat 1023, kd := min q.kd.toNat 1023
                slew := max 1 (min 40 q.slew.toNat), guardLimit := q.guardLimit.toNat
                guardCount := max 1 (min 8 q.guardCount.toNat), autoRestore := ar
                alarmMask := q.alarmMask, alarmSense := q.alarmSense }
            let kept := r.winFirst = q.winFirst.toNat ∧ r.winLast = q.winLast.toNat ∧ r.trim = q.trim.toInt ∧
              r.baseTarget = q.baseTarget.toInt ∧ pMin = q.pMin.toNat ∧ pMax = q.pMax.toNat ∧
              r.initial = q.initial.toNat ∧ r.kp = q.kp.toNat ∧ r.ki = q.ki.toNat ∧ r.kd = q.kd.toNat ∧
              r.slew = q.slew.toNat ∧ r.guardCount = q.guardCount.toNat
            if 62 < q.winFirst.toNat ∨ 62 < q.winLast.toNat then settled (asked s h) h 11 .badParam
            else if r.winLast < r.winFirst then settled (asked s h) h 11 .badParam
            else if pMax < pMin then settled (asked s h) h 11 .badParam
            else applyRecord k r (settled (asked s h) h 11 (if kept then .done else .clamped))
          | _, _, _ => settled (asked s h) h 11 .badParam)) ∧
  (∀ (s : State) (k : HeadIx) (r : HeadRecord),
    let t := applyRecord k r s
    let old := (s.head k).record
    let wasOff := (s.head k).link = .disabled
    let u' := clampNat r.pMin r.pMax (s.loop k).u
    (t.head k).record = r ∧
    (t.head k).link =
      (if r.enabled then (if wasOff then .offline else (s.head k).link) else .disabled) ∧
    (∀ g, t.cell k g =
      if (old.winFirst = r.winFirst ∧ old.winLast = r.winLast) ∨ (old.covers g = true ∧ r.covers g = true) then s.cell k g
      else { sum := 0, count := 0, avg := none, state := .none }) ∧
    (t.loop k).u = (if wasOff ∧ r.enabled = true then r.initial else u') ∧
    (t.loop k).e1 = (if wasOff ∧ r.enabled = true then 0 else (s.loop k).e1) ∧
    (t.loop k).e2 = (if wasOff ∧ r.enabled = true then 0 else (s.loop k).e2) ∧
    (t.loop k).status = (if wasOff ∧ r.enabled = true then .unmeasured else (s.loop k).status) ∧
    (t.loop k).guarded = (if wasOff ∧ r.enabled = true then false else (s.loop k).guarded) ∧
    (t.loop k).run = (if wasOff ∧ r.enabled = true then 0 else (s.loop k).run) ∧
    (¬ wasOff → r.enabled = true → ∃ m, t =
      (if (s.loop k).guarded = true then (if old.pMin = r.pMin then m else offerSetpoint k r.pMin m)
       else if u' = (s.loop k).u then m else offerSetpoint k u' m) ∧
      m = { s with heads := put s.heads k { s.head k with record := r }, cov := { s.cov with cells := t.cov.cells }
                   loops := put s.loops k { s.loop k with u := u' } }) ∧
    (wasOff → t =
      { s with
        heads := put s.heads k { s.head k with record := r, link := if r.enabled then .offline else .disabled }
        cov := { s.cov with cells := t.cov.cells }
        loops := put s.loops k
          (if r.enabled then
            { s.loop k with u := r.initial, e1 := 0, e2 := 0, status := .unmeasured, guarded := false, run := 0 }
           else { s.loop k with u := u' }) }) ∧
    (¬ wasOff → r.enabled = false → ∃ m, t = { m with loops := put m.loops k { m.loop k with u := u' } } ∧
      m = headGone k .disabled false
        { s with heads := put s.heads k { s.head k with record := r }, cov := { s.cov with cells := t.cov.cells } }) ∧
    (∀ j, j ≠ k → t.head j = s.head j ∧ t.loop j = s.loop j ∧ ∀ g, t.cell j g = s.cell j g) ∧
    (r.enabled = true → t.terms = s.terms ∧ t.mgmt = s.mgmt ∧ t.trunk = s.trunk) ∧
    t.segs = s.segs ∧ t.reef = s.reef ∧ t.exp = s.exp)

/-- R26, R31: the checks of HEAD_RESTART, its pulse, blanking time and deadline; what leaving UP or RESTARTING
does to the queues, the loop test, the alarms, the loop and the reply queue, and that other heads stay as they
are. A refused broadcast is counted too, and the consequences follow in table order (logs 13, 10, the model's
reading). -/
def Obligations.HeadRestartsLeaveUp : Prop :=
  (∀ (s : State) (h : Hdr) (p : Option HeadRestartP), Accepted s h →
    exec (.headRestart h p) s = .next
      (match p with
        | none => settled (asked s h) h 13 .badParam
        | some q =>
          match ix? 12 q.head.toNat, q.kind with
          | some k, some kind =>
            match (s.head k).link with
            | .disabled => settled (asked s h) h 13 .wrongState
            | .restarting _ => settled (asked s h) h 13 .busy
            | _ =>
              let d := s.uptime + s.mgmt.params.restartTimeout * 1000
              match kind with
              | .cold =>
                headGone k (.restarting { kind := .cold, pulseEnd := some (s.uptime + 200), blankEnd := none, deadline := d })
                  false (settled (asked s h) h 13 .done)
              | .warm =>
                headGone k
                  (.restarting
                    { kind := .warm, pulseEnd := some (s.uptime + 20), blankEnd := some (s.uptime + 2000), deadline := d })
                  true (settled (asked s h) h 13 .done)
          | _, _ => settled (asked s h) h 13 .badParam)) ∧
  (∀ (s : State) (k : HeadIx) (next : HeadLink) (warm : Bool),
    let t := headGone k next warm s
    let d := s.head k
    let lost : Bool := match d.loopTest with
      | some e => e.replies
      | none => false
    (t.head k).link = next ∧ (t.head k).alarms = 0 ∧ (t.head k).loopTest = none ∧ (t.head k).record = d.record ∧
    (t.head k).ctlQ =
      (if warm then (if d.loopTest.isSome then d.ctlQ.filter (fun c => !c.isLoopTest) else d.ctlQ) else []) ∧
    (t.head k).craneQ = (if warm then d.craneQ else []) ∧ (t.head k).normalQ = (if warm then d.normalQ else []) ∧
    (t.head k).overrun = (if warm then d.overrun else false) ∧
    (t.head k).cnt =
      { d.cnt with
        flushed := if warm then d.cnt.flushed
          else satAdd d.cnt.flushed (d.ctlQ.length + d.craneQ.length + d.normalQ.length)
        replyLost := if lost ∧ 8 ≤ s.trunk.replyQ.length then inc d.cnt.replyLost else d.cnt.replyLost } ∧
    t.trunk.replyQ =
      (match d.loopTest with
        | some e =>
          if e.replies ∧ s.trunk.replyQ.length < 8 then
            s.trunk.replyQ ++ [{ code := 14, tag := e.tag, status := .done, data := .loopTest .headLost }]
          else s.trunk.replyQ
        | none => s.trunk.replyQ) ∧
    t.loop k = (if warm = false ∧ d.ctlQ.any CtlFrame.isSetpoint then { s.loop k with lastSet := none } else s.loop k) ∧
    t.terms = (departure k warm s).terms ∧ t.ho = (departure k warm s).ho ∧
    (∀ j, j ≠ k → t.head j = s.head j ∧ t.loop j = s.loop j) ∧
    t.segs = s.segs ∧ t.cov = s.cov ∧ t.reef = s.reef ∧ t.exp = s.exp ∧ t.part = s.part ∧
    t.trunk.craneQ = s.trunk.craneQ ∧ t.trunk.normalQ = s.trunk.normalQ ∧
    t = { departure k warm s with
          heads := t.heads, loops := t.loops, trunk := { (departure k warm s).trunk with replyQ := t.trunk.replyQ } })

/-- R24, R27 to R29, R33: a HEADSTAT by the head's link state: the whole state the unit's own steps leave, with
HEAD_UP, HEAD_REBOOTED (its detail the terminals served), the departure and the SETPOINT, and the alarm evaluation
flag by flag; the guard takes the noise rise after them. The order of the five steps of R24 is the model's reading
(log 10). -/
def Obligations.HeadstatActsByLinkState : Prop :=
  (∀ (s : State) (k : HeadIx) (noise flags : Byte) (up : BitVec 32), s.inReset = false →
    let st : HeadStat := { noise, flags, uptime := up }
    let silence := s.uptime + s.mgmt.params.headSilence * 1000
    let out := if (s.loop k).guarded then (s.head k).record.pMin else (s.loop k).u
    ((s.head k).link = .disabled →
      exec (.headstat k noise flags up) s = .next
        (setHead s k { s.head k with cnt := { (s.head k).cnt with rxNotUp := inc (s.head k).cnt.rxNotUp } })) ∧
    (∀ r d, (s.head k).link = .restarting r → r.pulseEnd = some d →
      exec (.headstat k noise flags up) s = .next
        (guardEval k noise (setHead s k { s.head k with last := some st }))) ∧
    (((s.head k).link = .offline ∨ ∃ r, (s.head k).link = .restarting r ∧ r.pulseEnd = none) → ∃ m,
      exec (.headstat k noise flags up) s = .next (guardEval k noise m) ∧
      (m.head k).link = .up silence ∧ (m.head k).last = some st ∧
      (m.head k).alarms = (s.head k).record.alarmMask &&& (flags ^^^ (s.head k).record.alarmSense) ∧
      m.mgmt.summary.getLsbD NoticeKind.headUp.bit = true ∧ m.terms = s.terms ∧
      (∀ r, (s.head k).link = .restarting r → r.kind = .warm → (s.loop k).guarded = false →
        m.loops = s.loops ∧ (m.head k).ctlQ = (s.head k).ctlQ) ∧
      (((s.head k).link = .offline ∨ (s.loop k).guarded = true ∨
          ∃ r, (s.head k).link = .restarting r ∧ r.kind = .cold) → s.part = .running → (s.head k).ctlQ.length < 8 →
        (m.loop k).lastSet = some (s.output k) ∧ CtlFrame.setpoint (s.output k) ∈ (m.head k).ctlQ) ∧
      let entered := raise .headUp k.val 0
        (evalAlarms k flags (setHead s k { s.head k with link := .up silence, last := some st, alarms := 0 }))
      let told := (s.head k).link = .offline ∨ (s.loop k).guarded = true ∨
        ∃ r, (s.head k).link = .restarting r ∧ r.kind = .cold
      (told → m = offerSetpoint k out entered) ∧ (¬ told → m = entered)) ∧
    ∀ d, (s.head k).link = .up d → ∃ m,
      exec (.headstat k noise flags up) s = .next (guardEval k noise m) ∧
      (m.head k).link = .up silence ∧ (m.head k).last = some st ∧
      (m.head k).alarms = (s.head k).record.alarmMask &&& (flags ^^^ (s.head k).record.alarmSense) ∧
      (m.head k).craneQ = (s.head k).craneQ ∧ (m.head k).normalQ = (s.head k).normalQ ∧
      (m.head k).loopTest = (s.head k).loopTest ∧
      (if ∃ l ∈ (s.head k).last, up < l.uptime then
         m.terms = (departure k false s).terms ∧ m.mgmt.summary.getLsbD NoticeKind.headRebooted.bit = true ∧
         (m.loop k).e1 = 0 ∧ (m.loop k).e2 = 0 ∧ (m.loop k).u = (s.loop k).u ∧
         (s.part = .running → (s.head k).ctlQ.length < 8 → (m.loop k).lastSet = some (s.output k))
       else m.terms = s.terms ∧ m.loops = s.loops ∧ (m.head k).ctlQ = (s.head k).ctlQ) ∧
      let armed := setHead s k { s.head k with link := .up silence }
      let served := (List.finRange 256).countP fun i => (s.term i).any fun e => decide (e.ho.serving = some k)
      let left := departure k false (raise .headRebooted k.val (BitVec.ofNat 16 (min served 65535)) armed)
      let w :=
        if ∃ l ∈ (s.head k).last, up < l.uptime then
          offerSetpoint k out { left with loops := put left.loops k { left.loop k with e1 := 0, e2 := 0 } }
        else armed
      m = evalAlarms k flags (setHead w k { w.head k with last := some st })) ∧
  (∀ (s : State) (k : HeadIx) (flags : Byte),
    let d := s.head k
    let now := activeSet d.record.alarmMask d.record.alarmSense flags
    (∀ b : Fin 8, now.getLsbD b =
      (d.record.alarmMask.getLsbD b && (if d.record.alarmSense.getLsbD b then !flags.getLsbD b else flags.getLsbD b))) ∧
    evalAlarms k flags s =
      (let m := setHead s k { d with alarms := now }
       if ∀ b : Fin 8, now.getLsbD b = true → d.alarms.getLsbD b = true then m
       else raise .headAlarm k.val (now ++ (now &&& ~~~d.alarms)) m))

/-- R23, R25, R32 to R34, R60: the link events, and the expiries of a head: what each does when its deadline
is present and due, and that it does nothing otherwise. Doing nothing otherwise, the indication during reset,
the end of blanking and the frame last sent are the model's reading (logs 3, 4, 9, 11). -/
def Obligations.LinkEventsAndHeadExpiriesActByState : Prop :=
  ((∀ (s : State) (k : HeadIx),
    exec (.headLinkUp k) s = .next (setHead s k { s.head k with ethUp := true })) ∧
  (∀ (s : State) (k : HeadIx),
    let m := setHead s k { s.head k with ethUp := false, tx := none }
    exec (.headLinkDown k) s = .next
      (if s.inReset then m
       else
        match (s.head k).link with
        | .up _ => goOffline k 1 m
        | .restarting r => if r.kind = .warm ∧ r.blankEnd = none then goOffline k 3 m else m
        | _ => m)) ∧
  (∀ (s : State) (k : HeadIx) (cause : Nat),
    goOffline k cause s = headGone k .offline false (raise .headOffline k.val (BitVec.ofNat 16 cause) s)) ∧
  (∀ s : State, exec .trunkLinkUp s = .next { s with trunk := { s.trunk with linkUp := true } }) ∧
  ∀ s : State, exec .trunkLinkDown s = .next { s with trunk := { s.trunk with linkUp := false, tx := none } }) ∧
  (∀ (s : State) (k : HeadIx), s.inReset = false →
    exec (.headSilenceExpiry k) s = .next
      (match (s.head k).link with
        | .up d => if d ≤ s.uptime then goOffline k 2 s else s
        | _ => s) ∧
    exec (.pulseEnd k) s = .next
      (match (s.head k).link with
        | .restarting r =>
          if ∃ d ∈ r.pulseEnd, d ≤ s.uptime then
            setHead s k { s.head k with link := .restarting { r with pulseEnd := none } }
          else s
        | _ => s) ∧
    exec (.blankingEnd k) s = .next
      (match (s.head k).link with
        | .restarting r =>
          if ∃ d ∈ r.blankEnd, d ≤ s.uptime then
            if (s.head k).ethUp then
              setHead s k { s.head k with link := .restarting { r with blankEnd := none } }
            else goOffline k 3 s
          else s
        | _ => s) ∧
    exec (.restartDeadlineExpiry k) s = .next
      (match (s.head k).link with
        | .restarting r =>
          if r.deadline ≤ s.uptime then
            headGone k .offline false
              (raise .headRestartFailed k.val (match r.kind with | .cold => 1 | .warm => 2) s)
          else s
        | _ => s))

/-- R36, R37: the checks of HEAD_LOOPTEST, the test in flight, the ECHO and the deadline that end it, and what an
end does (the end of UP ends it too: HeadRestartsLeaveUp). A refused broadcast
is counted too, and an expiry not due does nothing (logs 13, 3, the model's reading). -/
def Obligations.LoopTestsStartAndEnd : Prop :=
  (∀ (s : State) (h : Hdr) (p : Option LoopTestP), Accepted s h →
    exec (.headLooptest h p) s = .next
      (match p with
        | none => settled (asked s h) h 14 .badParam
        | some q =>
          match ix? 12 q.head.toNat with
          | none => settled (asked s h) h 14 .badParam
          | some k =>
            if s.isUp k = false then settled (asked s h) h 14 .wrongState
            else if (s.head k).loopTest.isSome then settled (asked s h) h 14 .busy
            else if s.part = .running ∧ 8 ≤ (s.head k).ctlQ.length then settled (asked s h) h 14 .busy
            else
              setHead (asked s h) k { s.head k with
                    loopTest := some
                      { pattern := q.pattern, deadline := s.uptime + 50, tag := h.tag
                        replies := decide (h.dest ≠ 255), held := decide (s.part = .standby) }
                    ctlQ := if s.part = .running then (s.head k).ctlQ ++ [.loopTest q.pattern] else (s.head k).ctlQ })) ∧
  (∀ (s : State) (k : HeadIx) (bytes : Vector Byte 16), s.inReset = false →
    exec (.echo k bytes) s = .next
      (if s.isUp k then
        match (s.head k).loopTest with
        | some e =>
          let n := (List.finRange 16).countP fun i => decide (bytes[i] ≠ ~~~e.pattern[i])
          endLoopTest k (if n = 0 then .pass else .fail n) s
        | none =>
          setHead s k { s.head k with cnt := { (s.head k).cnt with echoUnexpected := inc (s.head k).cnt.echoUnexpected } }
       else
        setHead s k { s.head k with cnt := { (s.head k).cnt with rxNotUp := inc (s.head k).cnt.rxNotUp } })) ∧
  (∀ (s : State) (k : HeadIx), s.inReset = false →
    exec (.loopTestDeadlineExpiry k) s = .next
      (if ∃ e ∈ (s.head k).loopTest, e.deadline ≤ s.uptime then endLoopTest k .noEcho s else s)) ∧
  ∀ (s : State) (k : HeadIx) (e : LoopTest) (res : LoopResult), (s.head k).loopTest = some e →
    endLoopTest k res s =
      (let d := { s.head k with loopTest := none, ctlQ := (s.head k).ctlQ.filter fun c => !c.isLoopTest }
       if e.replies = false then setHead s k d
       else if s.trunk.replyQ.length < 8 then
        { s with
          heads := put s.heads k d
          trunk := { s.trunk with
            replyQ := s.trunk.replyQ ++ [{ code := 14, tag := e.tag, status := .done, data := .loopTest res }] } }
       else setHead s k { d with cnt := { d.cnt with replyLost := inc d.cnt.replyLost } })

/-- R38, R39: admission to the head egress queues (Tables 2-4 and 2-5) and the overrun episode. -/
def Obligations.HeadQueuesAdmitByTheTable : Prop :=
  ∀ (s : State) (k : HeadIx),
    let d := s.head k
    let isOpen := s.part = .running ∧ d.link ≠ .disabled ∧ d.link ≠ .offline
    let dropped := fun (c : HeadCounters) => setHead s k { d with cnt := c }
    let notUp := dropped { d.cnt with notUpDrop := inc d.cnt.notUpDrop }
    (∀ v, offerCtl k (.setpoint v) s =
      if ¬ isOpen then notUp
      else if d.ctlQ.any CtlFrame.isSetpoint then
        setHead s k { d with ctlQ := d.ctlQ.map fun c => match c with | .setpoint _ => .setpoint v | c => c }
      else if d.ctlQ.length < 8 then setHead s k { d with ctlQ := d.ctlQ ++ [.setpoint v] }
      else dropped { d.cnt with controlDrop := inc d.cnt.controlDrop }) ∧
    (∀ n c, offerCtl k (.order n c) s =
      if ¬ isOpen then notUp
      else if d.ctlQ.length < 8 then setHead s k { d with ctlQ := d.ctlQ ++ [.order n c] }
      else dropped { d.cnt with orderBlocked := inc d.cnt.orderBlocked }) ∧
    (∀ n, offerCtl k (.linkLost n) s =
      if ¬ isOpen then notUp
      else if d.ctlQ.length < 8 then setHead s k { d with ctlQ := d.ctlQ ++ [.linkLost n] }
      else dropped { d.cnt with controlDrop := inc d.cnt.controlDrop }) ∧
    (∀ f, offerHeadCrane k f s =
      if ¬ isOpen then notUp
      else if d.craneQ.length < 16 then setHead s k { d with craneQ := d.craneQ ++ [f] }
      else if d.overrun then dropped { d.cnt with craneDrop := inc d.cnt.craneDrop }
      else
        raise .queueOverrun k.val 1
          (setHead s k { d with overrun := true, cnt := { d.cnt with craneDrop := inc d.cnt.craneDrop } })) ∧
    ∀ f, offerHeadNormal k f s =
      if ¬ isOpen then notUp
      else if d.normalQ.length < 64 then setHead s k { d with normalQ := d.normalQ ++ [f] }
      else dropped { d.cnt with normalDrop := inc d.cnt.normalDrop }

/-- R40, R36, R39: one frame leaves the head's queues in strict order, a held LOOP_TEST ahead of all, while the
head is served; otherwise nothing changes. The frame sent is seen in Head.tx, the model's own field (log 9). -/
def Obligations.EgressServiceSendsInStrictOrder : Prop :=
  ∀ (s : State) (k : HeadIx), s.inReset = false →
    let d := s.head k
    let isServed := d.ethUp = true ∧
      ((∃ t, d.link = .up t) ∨ ∃ r, d.link = .restarting r ∧ r.pulseEnd = none)
    (¬ isServed → exec (.headEgressService k) s = .next s) ∧
    (isServed → ∃ d', exec (.headEgressService k) s = .next (setHead s k d') ∧
      ((∃ e, d.loopTest = some e ∧ e.held = true ∧
          d' = { d with tx := some (.ctl (.loopTest e.pattern)), loopTest := some { e with held := false } }) ∨
       ((∀ e, d.loopTest = some e → e.held = false) ∧
        ((∃ c cs, d.ctlQ = c :: cs ∧ d' = { d with tx := some (.ctl c), ctlQ := cs }) ∨
         (d.ctlQ = [] ∧ ∃ f fs, d.craneQ = f :: fs ∧
            d' = { d with tx := some (.crane f), craneQ := fs, overrun := if fs = [] then false else d.overrun }) ∨
         (d.ctlQ = [] ∧ d.craneQ = [] ∧ ∃ f fs, d.normalQ = f :: fs ∧ d' = { d with tx := some (.user f), normalQ := fs }) ∨
         (d.ctlQ = [] ∧ d.craneQ = [] ∧ d.normalQ = [] ∧ d' = d)))))

/-! ## The interference guard and the loop (chapter 7) -/

/-- R118 to R120: the guard run, entry and exit for each HEADSTAT, and GUARD_RELEASE. A refused broadcast is
counted too (log 13, the model's reading). -/
def Obligations.GuardEntersLeavesAndReleases : Prop :=
  (∀ (s : State) (k : HeadIx) (noise : Byte),
    let r := (s.head k).record
    let l := s.loop k
    let run := fun n => { s with loops := put s.loops k { l with run := n } }
    guardEval k noise s =
      if l.guarded then
        if r.guardLimit = 0 then leaveGuarded k 3 s
        else if r.autoRestore = false ∨ r.guardLimit < noise.toNat then run 0
        else if r.guardCount ≤ l.run + 1 then leaveGuarded k 1 s
        else run (l.run + 1)
      else if r.guardLimit = 0 ∨ noise.toNat ≤ r.guardLimit then run 0
      else if r.guardCount ≤ l.run + 1 then enterGuarded k noise s
      else run (l.run + 1)) ∧
  (∀ (s : State) (k : HeadIx) (noise : Byte),
    enterGuarded k noise s =
      raise .guardEntered k.val (noise.setWidth 16)
        (offerSetpoint k (s.head k).record.pMin
          { s with
            loops := put s.loops k
              { s.loop k with
                guarded := true, status := .guarded, run := 0
                cnt := { (s.loop k).cnt with guardEntries := inc (s.loop k).cnt.guardEntries } } })) ∧
  (∀ (s : State) (k : HeadIx) (cause : Nat),
    leaveGuarded k cause s =
      raise .guardLeft k.val (BitVec.ofNat 16 cause)
        (offerSetpoint k (s.loop k).u
          { s with loops := put s.loops k { s.loop k with guarded := false, status := .unmeasured, run := 0 } })) ∧
  (∀ (s : State) (k : HeadIx) (v : Nat),
    offerSetpoint k v s =
      { offerCtl k (.setpoint v) s with
        loops := put s.loops k
          { s.loop k with
            lastSet :=
              if s.headOpen k = true ∧ ((s.head k).ctlQ.any CtlFrame.isSetpoint = true ∨ (s.head k).ctlQ.length < 8) then
                some v
              else none } }) ∧
  ∀ (s : State) (h : Hdr) (p : Option Byte), Accepted s h →
    exec (.guardRelease h p) s = .next
      (match p with
        | none => settled (asked s h) h 15 .badParam
        | some b =>
          match ix? 12 b.toNat with
          | none => settled (asked s h) h 15 .badParam
          | some k =>
            if (s.loop k).guarded then settled (leaveGuarded k 2 (asked s h)) h 15 .done
            else settled (asked s h) h 15 .wrongState)

/-- R112 to R115: the edge quality, the error, the step, the offset, the history, the status and the SETPOINT of
one head's update, and rounding to the nearest integer with halves away from zero. -/
def Obligations.LoopUpdateFollowsTheNineStages : Prop :=
  ((∀ (s : State) (k : HeadIx), edgeQuality (look s.cov.cells k) = none →
    loopUpdate k s =
      { s with
        loops := put s.loops k
          { s.loop k with
            status := if (s.loop k).guarded then (s.loop k).status else .unmeasured
            cnt := { (s.loop k).cnt with unmeasuredUpdates := inc (s.loop k).cnt.unmeasuredUpdates } } }) ∧
  ∀ (s : State) (k : HeadIx) (q : Int), edgeQuality (look s.cov.cells k) = some q →
    let r := (s.head k).record
    let l := s.loop k
    let cranes := (List.finRange 256).countP fun i =>
      (s.term i).any fun e => decide (e.part.cls = .crane ∧ e.ho.serving = some k)
    let target : Int := r.baseTarget + s.mgmt.params.craneMargin * min cranes 4
    let e := max (-255) (min 255 (target - q))
    let sum := r.kp * (e - l.e1) + r.ki * e + r.kd * (e - 2 * l.e1 + l.e2)
    let raw := roundDiv sum 256
    let step := max (-(r.slew : Int)) (min r.slew raw)
    let u := max (r.pMin : Int) (min r.pMax (l.u + step))
    let status := if l.guarded then l.status
      else if target - s.mgmt.params.thinMargin ≤ q then .firm
      else if u.toNat = r.pMax then .thin else .weak
    r.pMin ≤ r.pMax → ∃ m,
      loopUpdate k s = (if l.guarded ∨ l.lastSet = some u.toNat then m else offerSetpoint k u.toNat m) ∧
      m = (let x := { s with
            loops := put s.loops k
              { l with
                u := u.toNat, e1 := e, e2 := l.e1, status := status
                cnt := { l.cnt with
                  updates := inc l.cnt.updates
                  slewClamps := if step = raw then l.cnt.slewClamps else inc l.cnt.slewClamps
                  rangeClamps := if u = l.u + step then l.cnt.rangeClamps else inc l.cnt.rangeClamps } } }
           if l.guarded = false ∧ status = .thin ∧ l.status ≠ .thin then
             raise .coverageThin k.val (BitVec.ofInt 8 e ++ BitVec.ofInt 8 u) x
           else x)) ∧
  (∀ cells : Vector Cell 48,
    (∀ q, edgeQuality cells = some q ↔
      (∃ g : SegIx, (look cells g).state = .fresh ∧ (look cells g).avg = some q) ∧
      ∀ (g : SegIx) (x : Int), (look cells g).state = .fresh → (look cells g).avg = some x → q ≤ x) ∧
    (edgeQuality cells = none ↔ ∀ g : SegIx, (look cells g).state = .fresh → (look cells g).avg = none)) ∧
  (∀ (a : Int) (n : Nat), 0 < n →
    -(n : Int) ≤ 2 * (a - n * roundDiv a n) ∧ 2 * (a - n * roundDiv a n) ≤ n ∧
    (2 * (a - n * roundDiv a n) = n → a < 0) ∧ (2 * (a - n * roundDiv a n) = -n → 0 < a))

/-! ## Coverage Measurement (chapter 6) -/

/-- R98, R99, R101: where the quality entries of a report go and what each is counted as; the silence penalty of one
entry, its five conditions and the samples it admits. -/
def Obligations.SamplesEnterLiveCells : Prop :=
  ((∀ (s : State) (k : HeadIx) (g : SegIx) (q : Int),
    let c := s.cell k g
    let t := sampleEntry g s (k, q)
    let live := (s.head k).record.winFirst ≤ g.val ∧ g.val ≤ (s.head k).record.winLast
    t = { s with cov := { s.cov with cells := t.cov.cells, cnt := t.cov.cnt } } ∧
    t.cell k g = (if live ∧ c.count < 65535 then { c with sum := c.sum + q, count := c.count + 1 } else c) ∧
    (∀ j f, (j, f) ≠ (k, g) → t.cell j f = s.cell j f) ∧
    t.cov.cnt =
      (if ¬ live then { s.cov.cnt with outOfWindow := inc s.cov.cnt.outOfWindow }
       else if c.count < 65535 then { s.cov.cnt with samplesAdmitted := inc s.cov.cnt.samplesAdmitted }
       else { s.cov.cnt with countFull := inc s.cov.cnt.countFull })) ∧
  ∀ (s : State) (i : SlotIx) (e : Term) (u : List (HeadIx × Int)), s.term i = some e →
    reportSamples i u s =
      match e.segment with
      | some g => u.foldl (sampleEntry g) s
      | none => s) ∧
  (∀ (s : State) (i : SlotIx),
    let t := penaltyEntry s i
    (∀ e b n k g, s.term i = some e → e.part = .gateway (.silent b) n → e.ho.serving = some k → e.segment = some g →
      (s.head k).record.winFirst ≤ g.val → g.val ≤ (s.head k).record.winLast →
      (0 < (look s.segs g).cranes →
        t = { s with cov := { s.cov with
                cnt := { s.cov.cnt with penaltySuppressed := inc s.cov.cnt.penaltySuppressed } } }) ∧
      ((look s.segs g).cranes = 0 →
        let c := s.cell k g
        let w := min s.mgmt.params.penaltyWeight (65535 - c.count)
        t = { s with cov := { s.cov with cells := t.cov.cells, cnt := t.cov.cnt } } ∧
        t.cell k g = { c with sum := c.sum - 80 * w, count := c.count + w } ∧
        (∀ j f, (j, f) ≠ (k, g) → t.cell j f = s.cell j f) ∧
        t.cov.cnt = { s.cov.cnt with
          penaltyApplied := inc s.cov.cnt.penaltyApplied
          countFull := satAdd s.cov.cnt.countFull (s.mgmt.params.penaltyWeight - w) })) ∧
    ((∀ e, s.term i = some e →
        (∀ b n, e.part ≠ .gateway (.silent b) n) ∨ e.ho.serving = none ∨ e.segment = none ∨
        ∃ k g, e.ho.serving = some k ∧ e.segment = some g ∧
          ¬ ((s.head k).record.winFirst ≤ g.val ∧ g.val ≤ (s.head k).record.winLast)) → t = s))

/-- R100 to R103, R111: the close: penalty, averages, sums set to 0, index, deadline, and the heads updated.
An expiry that is not due does nothing (log 3, the model's reading). -/
def Obligations.CoverageCloseAveragesAndAdvances : Prop :=
  (∀ s : State, s.inReset = false →
    exec .coveragePeriodExpiry s = .next (if ∃ d ∈ s.cov.deadline, d ≤ s.uptime then coverageClose s else s)) ∧
  ∀ s : State,
    let p := if s.mgmt.params.penaltyEnable then (List.finRange 256).foldl penaltyEntry s else s
    let t := coverageClose s
    ∃ m, t = (if (s.cov.index + 1).toNat % s.mgmt.params.loopDivider = 0 then
        (List.finRange 12).foldl
          (fun x k =>
            match (x.head k).link with
            | .up _ => loopUpdate k x
            | .restarting _ => loopUpdate k x
            | _ => x) m
      else m) ∧
      m = { p with cov := { p.cov with
              cells := m.cov.cells, index := s.cov.index + 1
              deadline := some (s.uptime + s.mgmt.params.coveragePeriod * 1000)
              cnt := { p.cov.cnt with closes := inc p.cov.cnt.closes } } } ∧
      ∀ k g, m.cell k g =
        (let c := p.cell k g
         if (s.head k).record.winFirst ≤ g.val ∧ g.val ≤ (s.head k).record.winLast then
           if s.mgmt.params.minSamples ≤ c.count then
             { sum := 0, count := 0, avg := some (roundDiv c.sum c.count), state := .fresh }
           else { sum := 0, count := 0, avg := c.avg, state := .sparse }
         else { c with sum := 0, count := 0 })

/-! ## Crane links (chapter 4) -/

/-- R63 to R65: Table 4-2, and the history after a frame ahead of the highest accepted sequence. -/
def Obligations.DuplicateWindowFollowsTheTable : Prop :=
  (∀ (c : CranePart) (q : BitVec 16),
    let d := (q.toNat + 65536 - c.highest.toNat) % 65536
    let b := 65536 - d
    windowStep c q =
      if c.valid = false then (.accept, { c with valid := true, highest := q, history := 0 })
      else if d = 0 then (.duplicate, c)
      else if d ≤ 32767 then (.accept, { c with highest := q, history := shiftHistory d c.history })
      else if 32 < b then (.stale, c)
      else if c.history.getLsbD (b - 1) then (.duplicate, c)
      else (.accept, { c with history := c.history ||| (1#32 <<< (b - 1)) })) ∧
  (∀ (d k : Nat) (old : BitVec 32), 1 ≤ d → 1 ≤ k → k ≤ 32 →
    (shiftHistory d old).getLsbD (k - 1) =
      if d < k then old.getLsbD (k - d - 1) else decide (k = d)) ∧
  ∀ (b k : Nat) (old : BitVec 32), 1 ≤ b → b ≤ 32 → 1 ≤ k → k ≤ 32 →
    (old ||| (1#32 <<< (b - 1))).getLsbD (k - 1) = (old.getLsbD (k - 1) || decide (k = b))

/-- R65: no sequence number is accepted a second time while it lies within 32 below the highest accepted
sequence: a number the window has accepted, and that has lain within 32 below the highest at every moment
since, is discarded as a duplicate, whatever came before it and between. -/
def Obligations.NoSequenceNumberPassesTwiceWithinTheWindow : Prop :=
  ∀ (c : CranePart) (before between : List (BitVec 16)) (q : BitVec 16),
    (windowStep (windowAfter c before) q).1 = .accept →
    (∀ n, ((windowAfter c (before ++ q :: between.take n)).highest - q).toNat ≤ 32) →
    (windowStep (windowAfter c (before ++ q :: between)) q).1 = .duplicate

/-- R48, R49, R64, R68, R76: an uplink CRANE frame of a listed crane and an uplink USER frame of a listed terminal:
window, activity, head, forwarding. -/
def Obligations.UplinkFramesAreJudgedAndForwarded : Prop :=
  (∀ (s : State) (k : HeadIx) (f : BerthFrame) (i : SlotIx) (e : Term) (c : CranePart),
    s.inReset = false → s.isUp k = true → s.part = .running → f.terminal ≠ 0 → f.terminal ≠ 65535 →
    s.lookup f.terminal = some (i, e) → e.part = .crane c →
    let w := windowStep c f.seq
    let m := craneActivity i k
      { s with
        terms := put s.terms i (some { e with part := .crane w.2 })
        crane := match w.1 with
          | .accept => { s.crane with accepted := inc s.crane.accepted }
          | .duplicate => { s.crane with duplicate := inc s.crane.duplicate }
          | .stale => { s.crane with stale := inc s.crane.stale } }
    exec (.uplinkCrane k f) s = .next
      (if w.1 = .accept then
        offerTrunkCrane { f with flags := f.flags &&& 254, headIndex := BitVec.ofNat 8 k.val } (judgeHead i k m)
       else m)) ∧
  (∀ (s : State) (k : HeadIx) (f : BerthFrame) (i : SlotIx) (e : Term),
    s.inReset = false → s.isUp k = true → s.part = .running → f.terminal ≠ 0 → f.terminal ≠ 65535 →
    s.lookup f.terminal = some (i, e) →
    exec (.uplinkUser k f) s = .next
      (offerTrunkNormal { f with flags := f.flags &&& 254, headIndex := BitVec.ofNat 8 k.val }
        (judgeHead i k (if e.isCrane then craneActivity i k s else s))))

/-- R68, R69: activity of a crane by its link state, and the expiry of its watchdog. An expiry that is not due
does nothing (log 3, the model's reading). -/
def Obligations.CraneWatchdogFollowsActivity : Prop :=
  ∀ (s : State) (i : SlotIx) (k : HeadIx) (e : Term) (c : CranePart), s.term i = some e → e.part = .crane c →
    let live := { s with
      terms := put s.terms i (some
        { e with part := .crane { c with link := .live (s.uptime + s.mgmt.params.craneWatchdog) } }) }
    craneActivity i k s =
      (match c.link with
        | .unheard => live
        | .live _ => live
        | .lost =>
          raise .craneLinkRestored e.number.toNat (BitVec.ofNat 16 k.val)
            { live with crane := { s.crane with restores := inc s.crane.restores } }
        | .dormant => s) ∧
    (s.inReset = false → exec (.craneWatchdogExpiry i) s = .next
      (match c.link with
        | .live d =>
          if d ≤ s.uptime then
            let lost := { s with
              terms := put s.terms i (some
                { e with part := .crane { link := .lost, valid := false, highest := 0, history := 0 } })
              crane := { s.crane with losses := inc s.crane.losses } }
            match e.ho.serving with
            | some v => offerCtl v (.linkLost e.number) (raise .craneLinkLost e.number.toNat (BitVec.ofNat 16 v.val) lost)
            | none => raise .craneLinkLost e.number.toNat 255 lost
          else s
        | _ => s))

/-! ## Uplink classification (3.1) -/

/-- R23, R44 to R47, R50, R168: the frames that go no further, each counted in its counter and changing nothing else. -/
def Obligations.DiscardedFramesAreCountedAlone : Prop :=
  ∀ s : State, s.inReset = false →
    (∀ k, exec (.rxDamaged k) s = .next
      (s.countHead k fun c => { c with rxDamaged := inc c.rxDamaged })) ∧
    (∀ kd, exec (.trunkWrongKind kd) s = .next
      { s with trunk := { s.trunk with cnt := { s.trunk.cnt with wrongKind := inc s.trunk.cnt.wrongKind } } }) ∧
    exec .trunkDamaged s = .next
      { s with trunk := { s.trunk with cnt := { s.trunk.cnt with damaged := inc s.trunk.cnt.damaged } } } ∧
    (∀ k, exec (.mgmtOnHead k) s = .next
      (if s.isUp k then { s with cls := { s.cls with mgmtOnHead := inc s.cls.mgmtOnHead } }
       else s.countHead k fun c => { c with rxNotUp := inc c.rxNotUp })) ∧
    (∀ k kd, exec (.ulWrongKind k kd) s = .next
      (if s.isUp k then { s with cls := { s.cls with ulWrongKind := inc s.cls.ulWrongKind } }
       else s.countHead k fun c => { c with rxNotUp := inc c.rxNotUp })) ∧
    ∀ k,
      let from' := fun (n : TermNo) (unlisted : State) (out : Host.Outcome State Fault Refusal) =>
        (s.isUp k = false → out = .next (s.countHead k fun c => { c with rxNotUp := inc c.rxNotUp })) ∧
        (s.isUp k = true → s.part = .standby →
          out = .next { s with cls := { s.cls with ulStandbyDrop := inc s.cls.ulStandbyDrop } }) ∧
        (s.isUp k = true → s.part = .running → n = 0 ∨ n = 65535 →
          out = .next { s with cls := { s.cls with ulBadTerminal := inc s.cls.ulBadTerminal } }) ∧
        (s.isUp k = true → s.part = .running → n ≠ 0 → n ≠ 65535 → (∀ i e, s.term i = some e → e.number ≠ n) →
          out = .next unlisted)
      (∀ f, from' f.terminal { s with cls := { s.cls with unlistedCrane := inc s.cls.unlistedCrane } }
        (exec (.uplinkCrane k f) s)) ∧
      (∀ f, from' f.terminal
        (offerTrunkNormal { f with flags := f.flags &&& 254, headIndex := BitVec.ofNat 8 k.val }
          { s with cls := { s.cls with unlistedUser := inc s.cls.unlistedUser } })
        (exec (.uplinkUser k f) s)) ∧
      (∀ n g es, from' n { s with cls := { s.cls with unlistedMeas := inc s.cls.unlistedMeas } } (exec (.meas k n g es) s)) ∧
      (∀ n b, from' n { s with cls := { s.cls with unlistedBatch := inc s.cls.unlistedBatch } } (exec (.batch k n b) s)) ∧
      ∀ f i e, s.isUp k = true → s.part = .running → f.terminal ≠ 0 → f.terminal ≠ 65535 →
        s.lookup f.terminal = some (i, e) → e.isCrane = false →
        exec (.uplinkCrane k f) s = .next { s with cls := { s.cls with classMismatch := inc s.cls.classMismatch } }

/-! ## Handover (chapter 5) -/

/-- R14 to R16, R30, R48, R76, R82: a measurement report of a listed terminal in its order: activity, segment and
counts, head, last serving quality and evaluation, samples; how its entries are sorted, trimmed and counted. -/
def Obligations.MeasurementReportsActInOrder : Prop :=
  ((∀ (s : State) (k : HeadIx) (n : TermNo) (seg : Byte) (es : List MeasEntry) (i : SlotIx) (e : Term),
    s.inReset = false → s.isUp k = true → s.part = .running → n ≠ 0 → n ≠ 65535 → s.lookup n = some (i, e) →
    let m := judgeHead i k (recordSegment i seg (if e.isCrane then craneActivity i k s else s))
    let r := sortEntries m [] es
    exec (.meas k n seg es) s = .next
      (reportSamples i r.usable (evaluate i r.usable (storeLsq i r.usable
        { m with ho := { m.ho with
            measBadHead := satAdd m.ho.measBadHead r.badHead, measRepeatHead := satAdd m.ho.measRepeatHead r.repeated } })))) ∧
  (∀ (s : State) (i : SlotIx) (e : Term) (seg : Byte), s.term i = some e →
    let g := ix? 48 seg.toNat
    let t := recordSegment i seg s
    t = { s with
          terms := put s.terms i (some { e with segment := g }), segs := t.segs
          ho := if 48 ≤ seg.toNat ∧ seg.toNat ≠ 63 then { s.ho with segmentInvalid := inc s.ho.segmentInvalid } else s.ho } ∧
    ∀ x : SegIx, look t.segs x =
      (let old := look s.segs x
       let step := fun (n : Nat) =>
        if e.segment = g then n else if e.segment = some x then n - 1 else if g = some x then n + 1 else n
       match e.part with
       | .crane _ => { old with cranes := step old.cranes }
       | .gateway _ _ => { old with gateways := step old.gateways }
       | _ => old)) ∧
  ∀ (s : State) (i : SlotIx) (e : Term) (u : List (HeadIx × Int)), s.term i = some e →
    storeLsq i u s =
      match e.ho.serving with
      | some v =>
        match u.find? fun p => decide (p.1 = v) with
        | some p => { s with terms := put s.terms i (some { e with lsq := some p.2 }) }
        | none => s
      | none => s) ∧
  (∀ (s : State) (es : List MeasEntry),
    let r := sortEntries s [] es
    let first := fun (k : HeadIx) => es.find? fun e => decide (e.head.toNat = k.val)
    let clamp := fun (x : Int) => max (-80) (min 175 x)
    (∀ (k : HeadIx) (q : Int), (k, q) ∈ r.usable ↔ s.isUp k = true ∧ ∃ e, first k = some e ∧
      q = clamp (clamp e.quality.toInt + (s.head k).record.trim)) ∧
    (r.usable.map Prod.fst).Nodup ∧
    r.badHead = es.countP (fun e => decide (11 < e.head.toNat)) ∧
    r.repeated + r.badHead + (List.finRange 12).countP (fun k => (first k).isSome) = es.length)

/-- R77 to R79, R91: the head of a frame judged against the entry. -/
def Obligations.FramesAnchorStrayReanchorOrArrive : Prop :=
  ∀ (s : State) (i : SlotIx) (k : HeadIx) (e : Term), s.term i = some e →
    let moved := fun (ho : HandoverCounters) (v : HeadIx) => { s with
      ho := ho
      terms := put s.terms i (some
        { e with ho := .settled v, probe := 0, stray := 0, holdoff := s.mgmt.params.holdoff, lsq := none }) }
    let served := { s with terms := put s.terms i (some { e with stray := 0 }) }
    let stray := fun (v : HeadIx) =>
      if e.stray + 1 < s.mgmt.params.strayLimit then
        { s with terms := put s.terms i (some { e with stray := e.stray + 1 }) }
      else
        raise .reanchor e.number.toNat (BitVec.ofNat 8 v.val ++ BitVec.ofNat 8 k.val)
          (moved { s.ho with reanchors := inc s.ho.reanchors } k)
    judgeHead i k s =
      match e.ho with
      | .orphan => { s with
          ho := { s.ho with anchors := inc s.ho.anchors }
          terms := put s.terms i (some { e with ho := .settled k, probe := 0, holdoff := 0, stray := 0, lsq := none }) }
      | .settled v => if k = v then served else stray v
      | .probing v _ => if k = v then served else stray v
      | .bicast v c _ =>
        if k = v then served
        else if k = c then moved { s.ho with bicastSuccess := inc s.ho.bicastSuccess } c
        else stray v

/-- R80, R93: the departure of a head acts on every entry by Table 5-3, keeps the segments and the class
parts, counts each orphaning and each bicast it ends, and raises each bicast's notice in slot order, with its
subject and detail, and changes nothing else. -/
def Obligations.DeparturesFollowTable53 : Prop :=
  ∀ (s : State) (d : HeadIx) (warm : Bool),
    let t := departure d warm s
    let count := fun (p : Handover → Bool) => (List.finRange 256).countP fun i => (s.term i).any fun e => p e.ho
    (∀ i, t.term i = (s.term i).map fun e =>
      match e.ho with
      | .orphan => e
      | .settled v =>
        if v = d ∧ warm = false then { e with ho := .orphan, probe := 0, holdoff := 0, stray := 0, lsq := none } else e
      | .probing v c =>
        if v = d then
          if warm then e else { e with ho := .orphan, probe := 0, holdoff := 0, stray := 0, lsq := none }
        else if c = d then { e with ho := .settled v, probe := 0 }
        else e
      | .bicast v c _ =>
        if v = d then
          { e with ho := .settled c, probe := 0, stray := 0, holdoff := s.mgmt.params.holdoff, lsq := none }
        else if c = d then { e with ho := .settled v, probe := 0, holdoff := s.mgmt.params.holdoff }
        else e) ∧
    t.ho = { s.ho with
      orphanings := satAdd s.ho.orphanings (if warm then 0 else count fun ho =>
        match ho with
        | .settled v => decide (v = d)
        | .probing v _ => decide (v = d)
        | _ => false)
      bicastForced := satAdd s.ho.bicastForced (count fun ho =>
        match ho with
        | .bicast v _ _ => decide (v = d)
        | _ => false)
      bicastCandidateLost := satAdd s.ho.bicastCandidateLost (count fun ho =>
        match ho with
        | .bicast v c _ => decide (v ≠ d ∧ c = d)
        | _ => false) } ∧
    (∀ i e v c x, s.term i = some e → e.ho = .bicast v c x →
      (v = d → t.mgmt.summary.getLsbD NoticeKind.handoverForced.bit = true) ∧
      (v ≠ d → c = d → t.mgmt.summary.getLsbD NoticeKind.handoverFailed.bit = true)) ∧
    t = { s with
          terms := t.terms, ho := t.ho, mgmt := { t.mgmt with params := s.mgmt.params, mask := s.mgmt.mask }
          trunk := { s.trunk with noticeQ := t.trunk.noticeQ, cnt := t.trunk.cnt } } ∧
    t =
      (let notices := (List.finRange 256).filterMap fun i =>
        match s.term i with
        | some e =>
          match e.ho with
          | .bicast v c _ =>
            if v = d then some (NoticeKind.handoverForced, e.number, BitVec.ofNat 8 v.val ++ BitVec.ofNat 8 c.val)
            else if c = d then some (NoticeKind.handoverFailed, e.number, 2#8 ++ BitVec.ofNat 8 c.val)
            else none
          | _ => none
        | none => none
       { notices.foldl (fun x n => raise n.1 n.2.1.toNat n.2.2 x) s with terms := t.terms, ho := t.ho })

/-- R83 to R89: hold-off, the position trigger before the quality trigger, who may be a target; executing a
handover: a bicast for a crane, an immediate move for other terminals, nothing where the order is not queued. -/
def Obligations.ReportsStartHandoversByTriggers : Prop :=
  ((∀ (s : State) (i : SlotIx) (e : Term) (u : List (HeadIx × Int)), s.term i = some e →
    evaluate i u s =
      match e.ho.serving, e.ho.deadline with
      | some v, none =>
        if 0 < e.holdoff then { s with terms := put s.terms i (some { e with holdoff := e.holdoff - 1 }) }
        else
          match e.segment with
          | some g =>
            if g.val < (s.head v).record.winFirst ∨ (s.head v).record.winLast < g.val then
              match positionTarget s e.isCrane v g u with
              | some x => executeHandover i e v x u s
              | none => { s with ho := { s.ho with noCover := inc s.ho.noCover } }
            else qualityTrigger i e v u s
          | none => qualityTrigger i e v u s
      | _, _ => s) ∧
  (∀ (s : State) (crane : Bool) (v x : HeadIx),
    eligible s crane v x = true ↔ s.isUp x = true ∧ x ≠ v ∧
      (crane = true → (s.loop x).status = .firm ∨ (s.loop x).status = .weak ∨ (s.loop x).status = .unmeasured)) ∧
  (∀ (s : State) (crane : Bool) (v : HeadIx) (g : SegIx) (u : List (HeadIx × Int)), (u.map Prod.fst).Nodup →
    let cand := fun (x : HeadIx) => eligible s crane v x = true ∧
      (s.head x).record.winFirst ≤ g.val ∧ g.val ≤ (s.head x).record.winLast
    (positionTarget s crane v g u = none ↔ ∀ x, ¬ cand x) ∧
    ∀ x, positionTarget s crane v g u = some x → cand x ∧
      ((∃ q, (x, q) ∈ u ∧ ∀ y p, (y, p) ∈ u → cand y → p < q ∨ (p = q ∧ x ≤ y)) ∨
       ((∀ y p, (y, p) ∈ u → ¬ cand y) ∧ ∀ y, cand y → x ≤ y))) ∧
  (∀ (s : State) (crane : Bool) (v : HeadIx) (ref : Option Int) (u : List (HeadIx × Int)), (u.map Prod.fst).Nodup →
    let qual := fun (x : HeadIx) (q : Int) => (x, q) ∈ u ∧ eligible s crane v x = true ∧
      ∃ r, ref = some r ∧ r + s.mgmt.params.hysteresis ≤ q
    (qualityTarget s crane v ref u = none ↔ ∀ x q, ¬ qual x q) ∧
    ∀ x, qualityTarget s crane v ref u = some x →
      ∃ q, qual x q ∧ ∀ y p, qual y p → p < q ∨ (p = q ∧ x ≤ y)) ∧
  ∀ (s : State) (i : SlotIx) (e : Term) (v : HeadIx) (u : List (HeadIx × Int)),
    let limit := s.mgmt.params.probeLimit
    let go := fun (x : HeadIx) (n : Nat) =>
      let e' := { e with ho := .probing v x, probe := n }
      let m := { s with terms := put s.terms i (some e') }
      if limit ≤ n then executeHandover i e' v x u m else m
    (e.ho = .settled v ∨ ∃ c, e.ho = .probing v c) →
    qualityTrigger i e v u s =
      match qualityTarget s e.isCrane v e.lsq u with
      | some b => go b (if e.ho.candidate = some b then min (e.probe + 1) limit else 1)
      | none =>
        { s with terms := put s.terms i (some
            (match e.ho with
              | .probing _ _ => { e with ho := .settled v, probe := 0 }
              | _ => e)) }) ∧
  (∀ (s : State) (i : SlotIx) (e : Term) (v x : HeadIx) (u : List (HeadIx × Int)),
    let m := offerCtl v (.order e.number x) s
    executeHandover i e v x u s =
      if s.headOpen v = true ∧ (s.head v).ctlQ.length < 8 then
        if e.isCrane then
          { m with
            ho := { s.ho with bicastStarts := inc s.ho.bicastStarts }
            terms := put s.terms i (some
              { e with ho := .bicast v x (s.uptime + s.mgmt.params.bicastTimeout), probe := 0 }) }
        else
          { m with
            ho := { s.ho with hardHandovers := inc s.ho.hardHandovers }
            terms := put s.terms i (some
              { e with
                ho := .settled x, probe := 0, stray := 0, holdoff := s.mgmt.params.holdoff
                lsq := (u.find? fun p => decide (p.1 = x)).map Prod.snd }) }
      else m)

/-- R92, R127, R137, R147, R148: the bicast, gateway silence, reefer silence and flush deadlines: what each
expiry does when the deadline is present and due, and that it does nothing before. Doing nothing otherwise is
the model's reading (log 3). -/
def Obligations.DeadlinesOfEntriesExpire : Prop :=
  (∀ (s : State) (i : SlotIx), s.inReset = false →
    (∀ e v c d, s.term i = some e → e.ho = .bicast v c d → d ≤ s.uptime →
      exec (.bicastDeadlineExpiry i) s = .next
        (raise .handoverFailed e.number.toNat (1#8 ++ BitVec.ofNat 8 c.val)
          { s with
            ho := { s.ho with bicastTimeout := inc s.ho.bicastTimeout }
            terms := put s.terms i (some
              { e with ho := .settled v, probe := 0, holdoff := s.mgmt.params.holdoff }) })) ∧
    ((∀ e v c d, s.term i = some e → e.ho = .bicast v c d → s.uptime < d) →
      exec (.bicastDeadlineExpiry i) s = .next s)) ∧
  ((∀ (s : State) (i : SlotIx) (e : Term) (b d n : Nat), s.inReset = false → s.term i = some e →
    e.part = .gateway (.reporting b (some d)) n →
    exec (.gatewaySilenceExpiry i) s = .next
      (if d ≤ s.uptime then
        raise .gatewaySilent e.number.toNat (BitVec.ofNat 16 (min n 65535))
          { s with
            terms := put s.terms i (some { e with part := .gateway (.silent b) n })
            reef := { s.reef with cnt := { s.reef.cnt with gatewaySilences := inc s.reef.cnt.gatewaySilences } } }
       else s)) ∧
  (∀ (s : State) (i : SlotIx), s.inReset = false →
    (∀ e b d n, s.term i = some e → e.part = .gateway (.reporting b (some d)) n → s.uptime < d) →
    exec (.gatewaySilenceExpiry i) s = .next s) ∧
  (∀ (s : State) (i : ReeferIx), s.inReset = false →
    (∀ r d, s.reefer i = some r → r.state = .active ∨ r.state = .alarm → r.silence = some d → s.uptime < d) →
    exec (.reeferSilenceExpiry i) s = .next s) ∧
  ∀ (s : State) (i : ReeferIx) (r : Reefer) (d : Nat), s.inReset = false → s.reefer i = some r → r.silence = some d →
    r.state = .active ∨ r.state = .alarm →
    let t := s.mgmt.params.reeferSilence * 1000
    let timeout := match r.segment with
      | some g => if (look s.segs g).cranes = 0 then t else t * 4
      | none => t
    exec (.reeferSilenceExpiry i) s = .next
      (if s.uptime < d then s
       else if s.uptime - r.lastHeard < timeout then
        { s with reef := { s.reef with table := put s.reef.table i (some { r with silence := some (r.lastHeard + timeout) }) } }
       else
        offerExport i r.state
          (raise .reeferSilent r.tag
            (match r.gateway with
              | some g =>
                match s.term g with
                | some e => e.number
                | none => 0
              | none => 0)
            { s with reef := { s.reef with
                table := put s.reef.table i (some { r with state := .silent, silence := none })
                cnt := { s.reef.cnt with reeferSilences := inc s.reef.cnt.reeferSilences } } }))) ∧
  (∀ s : State, s.inReset = false →
    ((s.exp.expired = true ∨ ∀ d, s.exp.deadline = some d → s.uptime < d) → exec .flushDeadlineExpiry s = .next s) ∧
    ∀ d, s.exp.expired = false → s.exp.deadline = some d → d ≤ s.uptime → ∃ t,
      exec .flushDeadlineExpiry s = .next t ∧
      (t.exp.request = true ↔ s.part = .running ∧ s.exp.list ≠ []) ∧
      t = { s with
            exp := { s.exp with expired := true, request := t.exp.request }
            trunk := { s.trunk with
              exportTurn := if s.exp.request = true ∧ t.exp.request = false then 0 else s.trunk.exportTurn } })

/-! ## Reefers (chapter 8) -/

/-- R126, R128: a BATCH frame of a listed terminal: the gateway part first, then the records in order against the
slot, number and segment read once, then how the parsing ended; how a payload is cut into records: the bytes of
each kind (Table 11-6), when a record is partial and when its kind is unknown. -/
def Obligations.BatchesAreReadRecordByRecord : Prop :=
  (∀ (s : State) (k : HeadIx) (n : TermNo) (payload : List Byte) (i : SlotIx) (e : Term),
    s.inReset = false → s.isUp k = true → s.part = .running → n ≠ 0 → n ≠ 65535 → s.lookup n = some (i, e) →
    exec (.batch k n payload) s = .next
      (match e.part with
        | .gateway st cnt =>
          let x := { s with
            terms := put s.terms i (some
              { e with
                part := .gateway (.reporting s.uptime (some (s.uptime + s.mgmt.params.gatewaySilence * 1000))) cnt }) }
          let y := match st with
            | .silent last =>
              raise .gatewayResumed e.number.toNat (BitVec.ofNat 16 (min ((s.uptime - last) / 1000) 65535)) x
            | _ => x
          let p := readRecords 30 payload
          let z := p.1.foldl (handleRecord i e.number e.segment)
            { y with reef := { s.reef with cnt := { s.reef.cnt with batches := inc s.reef.cnt.batches } } }
          match p.2 with
          | .final => z
          | .truncated => { z with reef := { z.reef with cnt := { z.reef.cnt with batchTruncated := inc z.reef.cnt.batchTruncated } } }
          | .unknownKind => { z with reef := { z.reef with cnt := { z.reef.cnt with unknownKind := inc z.reef.cnt.unknownKind } } }
        | _ =>
          { s with reef := { s.reef with cnt := { s.reef.cnt with batchNotGateway := inc s.reef.cnt.batchNotGateway } } })) ∧
  ((∀ n b, readRecords (n + 1) b =
    match readRecord b with
    | .record r final rest =>
      if final then ([r], .final) else (r :: (readRecords n rest).1, (readRecords n rest).2)
    | .partialRecord => ([], .truncated)
    | .unknown => ([], .unknownKind)) ∧
  (∀ b, readRecords 0 b = ([], .truncated)) ∧
  (∀ n b, (readRecords n b).1.length ≤ n) ∧
  (∀ b, readRecord b = .unknown ↔
    ∃ hd more, b = hd :: more ∧ hd &&& 127 ≠ 1 ∧ hd &&& 127 ≠ 2 ∧ hd &&& 127 ≠ 3 ∧ hd &&& 127 ≠ 4) ∧
  (∀ b, readRecord b = .partialRecord ↔
    b = [] ∨ ∃ hd more, b = hd :: more ∧
      ((hd &&& 127 = 1 ∧ more.length < 11) ∨ (hd &&& 127 = 2 ∧ more.length < 7) ∨
        ((hd &&& 127 = 3 ∨ hd &&& 127 = 4) ∧ more.length < 3))) ∧
  (∀ (hd t2 t1 t0 a1 a0 b1 b0 c1 c0 fl al : Byte) (rest : List Byte),
    let tag := (t2 ++ t1 ++ t0).toNat
    let final := hd.getLsbD 7
    (hd &&& 127 = 1 → readRecord (hd :: t2 :: t1 :: t0 :: a1 :: a0 :: b1 :: b0 :: c1 :: c0 :: fl :: al :: rest) =
      .record
        { tag, body := .full (a1 ++ a0).toInt (b1 ++ b0).toInt (c1 ++ c0).toInt (fl.getLsbD 0) (fl.getLsbD 1) al }
        final rest) ∧
    (hd &&& 127 = 2 → readRecord (hd :: t2 :: t1 :: t0 :: b1 :: b0 :: c1 :: c0 :: rest) =
      .record { tag, body := .temp (b1 ++ b0).toInt (c1 ++ c0).toInt } final rest) ∧
    (hd &&& 127 = 3 → readRecord (hd :: t2 :: t1 :: t0 :: rest) = .record { tag, body := .beat } final rest) ∧
    (hd &&& 127 = 4 → readRecord (hd :: t2 :: t1 :: t0 :: rest) = .record { tag, body := .off } final rest)) ∧
  ∀ (b : List Byte) (r : BatchRecord) (final : Bool) (rest : List Byte), readRecord b = .record r final rest →
    ∃ hd t2 t1 t0 more, b = hd :: t2 :: t1 :: t0 :: more ∧ final = hd.getLsbD 7 ∧ r.tag = (t2 ++ t1 ++ t0).toNat ∧
      match r.body with
      | .full sp su re co de al => (hd &&& 127) = 1 ∧ ∃ a1 a0 b1 b0 c1 c0 fl, more = a1 :: a0 :: b1 :: b0 :: c1 :: c0 :: fl :: al :: rest ∧
          sp = (a1 ++ a0).toInt ∧ su = (b1 ++ b0).toInt ∧ re = (c1 ++ c0).toInt ∧
          co = fl.getLsbD 0 ∧ de = fl.getLsbD 1
      | .temp su re => (hd &&& 127) = 2 ∧ ∃ b1 b0 c1 c0, more = b1 :: b0 :: c1 :: c0 :: rest ∧
          su = (b1 ++ b0).toInt ∧ re = (c1 ++ c0).toInt
      | .beat => (hd &&& 127) = 3 ∧ more = rest
      | .off => (hd &&& 127) = 4 ∧ more = rest)

/-- R128, R129, R131: a bad tag and a dropped unknown tag are counted and leave the table; a learned tag takes the
lowest free index; every other record is processed against the entry that holds its tag. -/
def Obligations.RecordsFindOrLearnTheirEntry : Prop :=
  ∀ (s : State) (g : SlotIx) (no : TermNo) (seg : Option SegIx) (rec : BatchRecord),
    let held := ∃ i r, s.reefer i = some r ∧ r.tag = rec.tag
    let drop := { s with reef := { s.reef with cnt := { s.reef.cnt with unknownTagDrop := inc s.reef.cnt.unknownTagDrop } } }
    (rec.tag = 0 ∨ 1048575 < rec.tag → handleRecord g no seg s rec =
      { s with reef := { s.reef with cnt := { s.reef.cnt with badTag := inc s.reef.cnt.badTag } } }) ∧
    (1 ≤ rec.tag → rec.tag ≤ 1048575 → held → ∃ i r, s.reefer i = some r ∧ r.tag = rec.tag ∧
      handleRecord g no seg s rec = processRecord g no seg i r rec.body s) ∧
    (1 ≤ rec.tag → rec.tag ≤ 1048575 → ¬ held → s.mgmt.params.autoLearn = false → handleRecord g no seg s rec = drop) ∧
    (1 ≤ rec.tag → rec.tag ≤ 1048575 → ¬ held → s.mgmt.params.autoLearn = true → (∀ i, s.reefer i ≠ none) →
      handleRecord g no seg s rec =
        if s.reef.tableFull then drop
        else raise .tableFull rec.tag no { drop with reef := { drop.reef with tableFull := true } }) ∧
    ∀ i, 1 ≤ rec.tag → rec.tag ≤ 1048575 → ¬ held → s.mgmt.params.autoLearn = true → s.reefer i = none →
      (∀ j, j < i → s.reefer j ≠ none) →
      handleRecord g no seg s rec =
        processRecord g no seg i (newReefer rec.tag 0 s.uptime) rec.body
          { s with reef := { s.reef with
              table := put s.reef.table i (some (newReefer rec.tag 0 s.uptime))
              cnt := { s.reef.cnt with autoLearned := inc s.reef.cnt.autoLearned } } }

/-- R132 to R136: a processed record places its entry under the gateway of its batch, moves the reefer counts, sets
state, values and runs, counts its faults (R134), arms or clears the silence deadline, raises its notices and
offers the entry. -/
def Obligations.ProcessedRecordsFollowTheSixSteps : Prop :=
  (∀ (s : State) (g : SlotIx) (no : TermNo) (seg : Option SegIx) (i : ReeferIx) (r : Reefer) (b : RecordBody),
    let base := { r with gateway := some g, segment := seg, lastHeard := s.uptime }
    let z := base.processed (look s.reef.bands r.cls) b
    let placed := { z with
      silence := if z.state = .active ∨ z.state = .alarm then some (s.uptime + s.mgmt.params.reeferSilence * 1000) else none }
    let resumed := r.state = .silent ∧ b ≠ .off
    let before := (base.heard b).state
    ∃ x m, processRecord g no seg i r b s = offerExport i r.state m ∧
      (∀ j : SlotIx, x.term j = (s.term j).map fun e =>
        match e.part with
        | .gateway st n =>
          { e with
            part := .gateway st
              (if r.gateway = some g then n else if j = g then n + 1 else if r.gateway = some j then n - 1 else n) }
        | _ => e) ∧
      x = { s with
            terms := x.terms
            reef := { s.reef with
              table := put s.reef.table i (some placed)
              cnt := { s.reef.cnt with
                records := inc s.reef.cnt.records
                setpointInvalid := satAdd s.reef.cnt.setpointInvalid (setpointFaults b)
                sensorFault := satAdd s.reef.cnt.sensorFault (sensorFaults b) } } } ∧
      m = (let y := if resumed then raise .reeferResumed r.tag no x else x
           if before = .active ∧ z.state = .alarm then
             raise .reeferAlarm r.tag (BitVec.ofInt 16 (z.supply.getD 0))
               { y with reef := { y.reef with cnt := { y.reef.cnt with reeferAlarms := inc y.reef.cnt.reeferAlarms } } }
           else if before = .alarm ∧ z.state = .active then raise .reeferClear r.tag (BitVec.ofInt 16 (z.supply.getD 0)) y
           else y)) ∧
  (∀ (c : Band) (b : RecordBody) (r : Reefer),
    let quiet := r.state = .unheard ∨ r.state = .unplugged ∨ r.state = .silent
    let x := r.heard b
    let y := x.stored b
    let z := r.processed c b
    x = (if b = .off then { r with state := .unplugged, outRun := 0, inRun := 0, silence := none }
         else if quiet then { r with state := .active, outRun := 0, inRun := 0 } else r) ∧
    y = (match b with
      | .full sp su re co de al =>
        { x with
          setpoint := if -300 ≤ sp ∧ sp ≤ 300 then some sp else x.setpoint
          supply := if -400 ≤ su ∧ su ≤ 600 then some su else none
          ret := if -400 ≤ re ∧ re ≤ 600 then some re else none
          compressor := co, defrost := de, alarm := al }
      | .temp su re =>
        { x with
          supply := if -400 ≤ su ∧ su ≤ 600 then some su else none
          ret := if -400 ≤ re ∧ re ≤ 600 then some re else none }
      | _ => x) ∧
    setpointFaults b = (match b with
      | .full sp _ _ _ _ _ => if sp < -300 ∨ 300 < sp then 1 else 0
      | _ => 0) ∧
    sensorFaults b = (match b with
      | .full _ su re _ _ _ => [su, re]
      | .temp su re => [su, re]
      | _ => []).countP (fun v => decide (v < -400 ∨ 600 < v)) ∧
    ((b = .beat ∨ b = .off ∨ y.setpoint = none ∨ y.supply = none ∨ y.defrost = true) → z = y) ∧
    ∀ sp su, b ≠ .beat → b ≠ .off → y.setpoint = some sp → y.supply = some su → y.defrost = false →
      z = (if sp - c.lower ≤ su ∧ su ≤ sp + c.upper then
          { y with
            inRun := min (y.inRun + 1) 8, outRun := 0
            state := if y.state = .alarm ∧ c.persistence ≤ min (y.inRun + 1) 8 then .active else y.state }
        else
          { y with
            outRun := min (y.outRun + 1) 8, inRun := 0
            state := if y.state = .active ∧ c.persistence ≤ min (y.outRun + 1) 8 then .alarm else y.state }))

/-- R129, R130, R139 to R141: the checks and effects of the requests that change the Reefer Table, the band
classes and the purge walk, and what tags, indexes and free places resolve to. A refused broadcast is counted
too (log 13, the model's reading). -/
def Obligations.ReeferRequestsCheckAndAct : Prop :=
  (∀ (s : State) (h : Hdr), Accepted s h →
    (∀ p, exec (.reeferRegister h p) s = .next
      (match p with
        | none => settled (asked s h) h 18 .badParam
        | some q =>
          match ix? 4 q.cls.toNat with
          | none => settled (asked s h) h 18 .badParam
          | some c =>
            if q.tag = 0 ∨ 1048575 < q.tag.toNat then settled (asked s h) h 18 .badParam
            else if s.reef.purge.isSome then settled (asked s h) h 18 .busy
            else if (s.findTag q.tag.toNat).isSome then settled (asked s h) h 18 .duplicate
            else
              match s.freeReeferIx with
              | none => settled (asked s h) h 18 .full
              | some i =>
                told
                  { asked s h with
                    reef := { s.reef with table := put s.reef.table i (some (newReefer q.tag.toNat c s.uptime)) } }
                  h 18 .done (.reeferIndex i))) ∧
    (∀ p, exec (.bandLoad h p) s = .next
      (match p with
        | none => settled (asked s h) h 22 .badParam
        | some q =>
          match ix? 4 q.cls.toNat with
          | none => settled (asked s h) h 22 .badParam
          | some c =>
            if s.reef.purge.isSome then settled (asked s h) h 22 .busy
            else
              let b : Band :=
                { lower := max 1 (min 200 q.lower.toNat), upper := max 1 (min 200 q.upper.toNat)
                  persistence := max 1 (min 8 q.persistence.toNat), deadband := max 1 (min 50 q.deadband.toNat)
                  refresh := max 1 (min 240 q.refresh.toNat) }
              let kept := b.lower = q.lower.toNat ∧ b.upper = q.upper.toNat ∧ b.persistence = q.persistence.toNat ∧
                b.deadband = q.deadband.toNat ∧ b.refresh = q.refresh.toNat
              settled { asked s h with reef := { s.reef with bands := put s.reef.bands c b } } h 22
                (if kept then .done else .clamped))) ∧
    (∀ p, exec (.reeferRemove h p) s = .next
      (match pickReefer p s with
        | .refused st => settled (asked s h) h 19 st
        | .entry i r => settled (freeReefer i r (asked s h)) h 19 .done)) ∧
    ∀ p, exec (.reeferPurge h p) s = .next
      (match p with
        | none => settled (asked s h) h 21 .badParam
        | some q =>
          match q.state with
          | none => settled (asked s h) h 21 .badParam
          | some st =>
            if st = .active ∨ st = .alarm then settled (asked s h) h 21 .badParam
            else if s.reef.purge.isSome then settled (asked s h) h 21 .busy
            else
              { asked s h with
                reef := { s.reef with
                  purge := some
                    { state := st, minAge := q.minAge.toNat, next := 0, removed := 0, tag := h.tag
                      replies := decide (h.dest ≠ 255) } } })) ∧
  ((∀ (s : State) (p : Option ReeferSelP),
    pickReefer p s =
      (match p with
        | none => .refused .badParam
        | some ⟨none, _⟩ => .refused .badParam
        | some ⟨some .tag, v⟩ =>
          if v = 0 ∨ 1048575 < v.toNat then .refused .badParam
          else if s.reef.purge.isSome then .refused .busy
          else
            match s.findTag v.toNat with
            | some (i, r) => .entry i r
            | none => .refused .notFound
        | some ⟨some .index, v⟩ =>
          match ix? 2048 v.toNat with
          | none => .refused .badParam
          | some i =>
            if s.reef.purge.isSome then .refused .busy
            else
              match s.reefer i with
              | some r => .entry i r
              | none => .refused .notFound)) ∧
  (∀ (s : State) (tag : Nat) (i : ReeferIx) (r : Reefer), s.findTag tag = some (i, r) → s.reefer i = some r ∧ r.tag = tag) ∧
  (∀ (s : State) (tag : Nat), s.findTag tag = none ↔ ∀ i r, s.reefer i = some r → r.tag ≠ tag) ∧
  (∀ (s : State) (i : ReeferIx), s.freeReeferIx = some i ↔ s.reefer i = none ∧ ∀ j, j < i → s.reefer j ≠ none) ∧
  ∀ s : State, s.freeReeferIx = none ↔ ∀ i, s.reefer i ≠ none)

/-- R140, R142, R151: freeing an entry lowers its gateway's count, ends a full-table episode and takes its
item out of the pending list, with the flush deadline armed for a new front and the request judged; one visit of
the purge walk, and the end of the walk. A visit with no walk in progress does nothing, and a flush deadline armed
at or before now expires at once (logs 3, 12, the model's reading). -/
def Obligations.PurgeVisitsJudgeOneEntry : Prop :=
  (∀ (s : State) (i : ReeferIx) (r : Reefer), r.pending = false →
    let t := freeReefer i r s
    t = { s with terms := t.terms, reef := { s.reef with table := put s.reef.table i none, tableFull := false } } ∧
    ∀ j, t.term j = (s.term j).map fun e =>
      match e.part with
      | .gateway st n => { e with part := .gateway st (if r.gateway = some j then n - 1 else n) }
      | _ => e) ∧
  (∀ (s : State) (i : ReeferIx) (r : Reefer), r.pending = true →
    freeReefer i r s = removePending i (freeReefer i { r with pending := false } s)) ∧
  (∀ (s : State) (i : ReeferIx),
    let t := removePending i s
    let atFront := s.exp.list.head?.any fun p => decide (p.index = i)
    let due := if s.part = .running then t.exp.list.head?.map fun p => p.join + s.mgmt.params.flushInterval else none
    t.exp.list = s.exp.list.filter (fun p => decide (p.index ≠ i)) ∧
    t.exp.cnt = { s.exp.cnt with removed := inc s.exp.cnt.removed } ∧
    t.exp.deadline = (if atFront then due else s.exp.deadline) ∧
    t.exp.expired = (if atFront then due.any fun d => decide (d ≤ s.uptime) else s.exp.expired) ∧
    (t.exp.request = true ↔ s.part = .running ∧ t.exp.list ≠ [] ∧
      (s.mgmt.params.batchLimit ≤ t.exp.list.length ∨ t.exp.expired = true)) ∧
    t = { s with
          exp := t.exp
          trunk := { s.trunk with
            exportTurn := if s.exp.request = true ∧ t.exp.request = false then 0 else s.trunk.exportTurn } }) ∧
  ∀ s : State, s.inReset = false →
    (s.reef.purge = none → exec .purgeWalkVisit s = .next s) ∧
    ∀ p, s.reef.purge = some p →
      let taken := ∃ r ∈ s.reefer p.next, r.state = p.state ∧ p.minAge * 1000 ≤ s.uptime - r.lastHeard
      ∃ m, (if taken then
          ∃ r ∈ s.reefer p.next, m = (freeReefer p.next r s).countReef fun c => { c with purged := inc c.purged }
        else m = s) ∧
        let removed := if taken then p.removed + 1 else p.removed
        exec .purgeWalkVisit s = .next
          (match ix? 2048 (p.next.val + 1) with
            | some n => { m with reef := { m.reef with purge := some { p with next := n, removed := removed } } }
            | none =>
              let x := { m with reef := { m.reef with purge := none } }
              if p.replies = false then x
              else if m.trunk.replyQ.length < 8 then
                { x with trunk := { x.trunk with
                    replyQ := x.trunk.replyQ ++ [{ code := 21, tag := p.tag, status := .done, data := .purged removed }] } }
              else x.countReef fun c => { c with purgeReplyLost := inc c.purgeReplyLost })

/-! ## Reefer export (chapter 9) -/

/-- R145 to R148: an offer judged with its entry's band class at now, the reason of an offer, and what a qualifying
offer does to the pending list, the flush deadline and the request; any other leaves no trace. A flush deadline armed at or before now expires at once (log 12, the model's
reading). -/
def Obligations.OffersJoinOrMergeIntoTheList : Prop :=
  ((∀ (s : State) (i : ReeferIx) (r : Reefer) (why : Reason), r.pending = true →
    joinList i r why s =
      { s with exp := { s.exp with
          list := s.exp.list.map fun p =>
            if p.index = i then
              { p with reason := if why = .state ∨ (why = .change ∧ p.reason = .refresh) then why else p.reason }
            else p
          cnt := { s.exp.cnt with merged := inc s.exp.cnt.merged } } }) ∧
  ∀ (s : State) (i : ReeferIx) (r : Reefer) (why : Reason), r.pending = false → s.part = .running →
    let t := joinList i r why s
    let due := s.uptime + s.mgmt.params.flushInterval
    t.exp.list = s.exp.list ++ [{ index := i, join := s.uptime, reason := why }] ∧
    t.exp.cnt = { s.exp.cnt with offers := inc s.exp.cnt.offers } ∧
    t.exp.deadline = (if s.exp.list = [] then some due else s.exp.deadline) ∧
    t.exp.expired = (if s.exp.list = [] then decide (due ≤ s.uptime) else s.exp.expired) ∧
    (t.exp.request = true ↔ s.mgmt.params.batchLimit ≤ s.exp.list.length + 1 ∨ t.exp.expired = true) ∧
    t = { s with
          exp := t.exp, reef := { s.reef with table := put s.reef.table i (some { r with pending := true }) }
          trunk := { s.trunk with
            exportTurn := if s.exp.request = true ∧ t.exp.request = false then 0 else s.trunk.exportTurn } }) ∧
  (∀ (s : State) (i : ReeferIx) (before : ReeferState),
    offerExport i before s =
      match s.reefer i with
      | some r =>
        match offerReason (look s.reef.bands r.cls) before r s.uptime with
        | some why => joinList i r why s
        | none => s
      | none => s) ∧
  (∀ (b : Band) (before : ReeferState) (r : Reefer) (now : Nat),
    let differs := fun (x y : Option Int) =>
      (x.isSome ≠ y.isSome) ∨ ∃ p q, x = some p ∧ y = some q ∧ ((b.deadband : Int) ≤ p - q ∨ (b.deadband : Int) ≤ q - p)
    let changed := r.setpoint ≠ r.expSetpoint ∨ r.expAlarm ≠ some r.alarm ∨ differs r.supply r.expSupply ∨ differs r.ret r.expRet
    let stale := r.expTime = none ∨ ∃ t, r.expTime = some t ∧ b.refresh * 60000 ≤ now - t
    (r.state = .unheard → offerReason b before r now = none) ∧
    (r.state ≠ .unheard →
      (r.state ≠ before → offerReason b before r now = some .state) ∧
      (r.state = before → changed → offerReason b before r now = some .change) ∧
      (r.state = before → ¬ changed → stale → offerReason b before r now = some .refresh) ∧
      (r.state = before → ¬ changed → ¬ stale → offerReason b before r now = none)))

/-! ## The trunk (chapter 3) -/

/-- R58 to R60: one grant: strict order of the first three places, the export turn at the fourth, and no grant while
the link is down or nothing can be sent. What a grant sends is seen in Trunk.tx, the model's own field (log 9). -/
def Obligations.TrunkGrantsFollowTheOrder : Prop :=
  ∀ s : State, s.inReset = false →
    let k := s.trunk
    exec .trunkGrant s = .next
      (if k.linkUp = false then s
       else
        match k.craneQ, k.noticeQ, k.replyQ, k.normalQ with
        | f :: fs, _, _, _ =>
          { s with trunk := { k with
              tx := some (.crane f), craneQ := fs, overrun := if fs = [] then false else k.overrun
              cnt := { k.cnt with txCrane := inc k.cnt.txCrane } } }
        | [], n :: ns, _, _ =>
          { s with trunk := { k with
              tx := some (.notice n), noticeQ := ns, cnt := { k.cnt with txNotice := inc k.cnt.txNotice } } }
        | [], [], r :: rs, _ =>
          { s with trunk := { k with
              tx := some (.reply r), replyQ := rs, cnt := { k.cnt with txReply := inc k.cnt.txReply } } }
        | [], [], [], [] => if s.exp.request then grantExport s else s
        | [], [], [], f :: fs =>
          if s.exp.request = true ∧ 16 ≤ k.exportTurn then grantExport s
          else
            { s with trunk := { k with
                tx := some (.user f), normalQ := fs
                exportTurn := if s.exp.request then k.exportTurn + 1 else k.exportTurn
                cnt := { k.cnt with txNormal := inc k.cnt.txNormal } } })

/-- R149, R150: an export grant: the records of the front items as the entries stand, the entries marked as
exported, the items taken out, the counters, the new front's deadline and the request judged again. The frame is
seen in Trunk.tx, the model's own field (log 9), and a flush deadline armed at or before now expires at once
(log 12, the model's reading). -/
def Obligations.ExportGrantsSendSnapshots : Prop :=
  ∀ s : State, PendingOk s → ReefersOk s → s.part = .running →
    let n := s.mgmt.params.batchLimit
    let t := grantExport s
    let items := s.exp.list.take n
    ∃ recs, t.trunk.tx = some (.exportBatch recs) ∧
      recs.map some = items.map (fun p => (s.reefer p.index).map fun r =>
        { tag := r.tag, state := r.state, setpoint := r.setpoint, supply := r.supply, ret := r.ret
          compressor := r.compressor, defrost := r.defrost, alarm := r.alarm, reason := p.reason
          gatewayNo := r.gateway.bind fun g => (s.term g).map Term.number, segment := r.segment
          age := min ((s.uptime - r.lastHeard) / 1000) 65535 }) ∧
      (∀ i : ReeferIx, t.reefer i =
        if ∃ p ∈ items, p.index = i then
          (s.reefer i).map fun r =>
            { r with
              pending := false, expSupply := r.supply, expRet := r.ret, expSetpoint := r.setpoint
              expAlarm := some r.alarm, expTime := some s.uptime }
        else s.reefer i) ∧
      t.exp.list = s.exp.list.drop n ∧
      t.exp.cnt = { s.exp.cnt with
        batches := inc s.exp.cnt.batches, records := satAdd s.exp.cnt.records items.length } ∧
      t.exp.deadline = (t.exp.list.head?.map fun p => p.join + s.mgmt.params.flushInterval) ∧
      (t.exp.request = true ↔ t.exp.list ≠ [] ∧ (n ≤ t.exp.list.length ∨ ∃ d ∈ t.exp.deadline, d ≤ s.uptime)) ∧
      t = { s with
            exp := t.exp, reef := { s.reef with table := t.reef.table }
            trunk := { s.trunk with
              tx := t.trunk.tx, exportTurn := 0, cnt := { s.trunk.cnt with txExport := inc s.trunk.cnt.txExport } } }

/-- R45, R51, R52: the nine cases of Table 3-2, the first that matches, and the drop of every data frame in
STANDBY, downlink and uplink. -/
def Obligations.DownlinkFramesAreSteeredByTheFirstCase : Prop :=
  (∀ (s : State) (k : HeadIx) (c : Instr), s.inReset = false → s.part = .standby → s.isUp k = true →
    ((∃ f, c = .uplinkCrane k f) ∨ (∃ f, c = .uplinkUser k f) ∨ (∃ n g es, c = .meas k n g es) ∨
      ∃ n b, c = .batch k n b) →
    exec c s = .next { s with cls := { s.cls with ulStandbyDrop := inc s.cls.ulStandbyDrop } }) ∧
  ∀ (s : State) (f : BerthFrame) (crane : Bool), s.inReset = false →
    let drop := fun (c : ClassifierCounters) => { s with cls := c }
    let offer := fun (k : HeadIx) => if crane then offerHeadCrane k f s else offerHeadNormal k f s
    exec (if crane then .downlinkCrane f else .downlinkUser f) s = .next
      (if s.part = .standby then drop { s.cls with dlStandbyDrop := inc s.cls.dlStandbyDrop }
       else if f.terminal = 0 ∨ f.terminal = 65535 then drop { s.cls with dlBadTerminal := inc s.cls.dlBadTerminal }
       else if f.flags.getLsbD 0 then
        match ix? 12 f.headIndex.toNat with
        | some k => if s.isUp k then offer k else drop { s.cls with forcedNotUp := inc s.cls.forcedNotUp }
        | none => drop { s.cls with forcedBadHead := inc s.cls.forcedBadHead }
       else
        match s.lookup f.terminal with
        | none => drop { s.cls with dlUnknown := inc s.cls.dlUnknown }
        | some (_, e) =>
          if crane = true ∧ e.isCrane = false then drop { s.cls with dlClassMismatch := inc s.cls.dlClassMismatch }
          else
            match e.ho with
            | .orphan => drop { s.cls with orphanDrop := inc s.cls.orphanDrop }
            | .settled v => offer v
            | .probing v _ => offer v
            | .bicast v c _ => if crane then offerHeadCrane c f (offerHeadCrane v f s) else offer v)

/-! ## Frames on the links (chapter 11) -/

/-- R168, R169: the kinds and lengths of Table 11-2, the checks a frame on a link passes and the fields it is read
into; the frames the part originates carry a header of zeros, and forwarded frames are passed on whole; the payloads
of HEADCTL, NOTICE, EXPORT and REPLY (Tables 11-5, 11-9, 11-7 and 11.5); and a frame that arrives waits as the command
it is read as. The widths of some reply items, which bound a REPLY's length, are the model's (log 14), and so is the
queue of waiting commands (log 16). -/
def Obligations.LinkFramesAreCheckedAndReadBack : Prop :=
  (let kinds : List FrameKind :=
    [.crane, .user, .meas, .batch, .headstat, .echo, .headctl, .mgmt, .reply, .notice, .exportBatch]
   kinds.map FrameKind.code = (List.range 11).map (fun n => BitVec.ofNat 8 (n + 1)) ∧
   (∀ (b : Byte) (k : FrameKind), FrameKind.ofCode b = some k ↔ k.code = b) ∧
   ∀ n : Nat, kinds.map (fun k => k.lengthOk n) =
    [decide (n ≤ 1400), decide (n ≤ 1400), decide (n = 5 ∨ n = 8 ∨ n = 11 ∨ n = 14), decide (4 ≤ n ∧ n ≤ 360),
     decide (n = 6), decide (n = 16), decide (2 ≤ n ∧ n ≤ 17), decide (4 ≤ n ∧ n ≤ 64), decide (4 ≤ n ∧ n ≤ 1024),
     decide (n = 12), decide (22 ≤ n ∧ n ≤ 482)]) ∧
  (∀ (ok : Bool) (bytes : List Byte),
    let at' := fun (n : Nat) => (bytes[n]?).getD 0
    let n := (at' 8 ++ at' 9).toNat
    ∀ f, readFrame ok bytes = some f ↔
      ok = true ∧ 10 ≤ bytes.length ∧ at' 3 = 1 ∧ FrameKind.ofCode (at' 0) = some f.kind ∧ f.kind.lengthOk n = true ∧
      10 + n ≤ bytes.length ∧
      (f.kind = .meas → 1 ≤ (at' 11).toNat ∧ (at' 11).toNat ≤ 4 ∧ n = 2 + 3 * (at' 11).toNat) ∧
      f.flags = at' 1 ∧ f.headIndex = at' 2 ∧ f.terminal = at' 4 ++ at' 5 ∧ f.seq = at' 6 ++ at' 7 ∧
      f.payload = (bytes.drop 10).take n) ∧
  ((∀ c : CtlFrame, readFrame true (HeadFrame.ctl c).bytes =
    some { kind := .headctl, flags := 0, headIndex := 0, terminal := 0, seq := 0, payload := c.payload }) ∧
  (∀ n : Notice, readFrame true (TrunkFrame.notice n).bytes =
    some { kind := .notice, flags := 0, headIndex := 0, terminal := 0, seq := 0, payload := n.payload }) ∧
  (∀ rs : List ExportRecord, 1 ≤ rs.length → rs.length ≤ 24 → readFrame true (TrunkFrame.exportBatch rs).bytes =
    some { kind := .exportBatch, flags := 0, headIndex := 0, terminal := 0, seq := 0, payload := exportPayload rs }) ∧
  ∀ f : BerthFrame, f.fits = true →
    (readFrame true (HeadFrame.crane f).bytes).map RawFrame.berth = some f ∧
    (readFrame true (HeadFrame.user f).bytes).map RawFrame.berth = some f ∧
    (readFrame true (TrunkFrame.crane f).bytes).map RawFrame.berth = some f ∧
    (readFrame true (TrunkFrame.user f).bytes).map RawFrame.berth = some f) ∧
  (let two : BitVec 16 → List Byte := fun x => [(x >>> 8).setWidth 8, x.setWidth 8]
   let three : BitVec 24 → List Byte := fun x => [(x >>> 16).setWidth 8, (x >>> 8).setWidth 8, x.setWidth 8]
   let four : BitVec 32 → List Byte := fun x =>
    [(x >>> 24).setWidth 8, (x >>> 16).setWidth 8, (x >>> 8).setWidth 8, x.setWidth 8]
   let signed : Option Int → List Byte := fun o => two (BitVec.ofInt 16 (o.getD 0))
   ((∀ v, (CtlFrame.setpoint v).payload = [1, BitVec.ofNat 8 v]) ∧
    (∀ n t, (CtlFrame.order n t).payload = 2 :: two n ++ [BitVec.ofNat 8 t.val]) ∧
    (∀ n, (CtlFrame.linkLost n).payload = 3 :: two n) ∧
    ∀ p, (CtlFrame.loopTest p).payload = 4 :: p.toList) ∧
   (([.craneLinkLost, .craneLinkRestored, .handoverFailed, .handoverForced, .queueOverrun, .reanchor, .headUp,
      .headOffline, .headAlarm, .headRebooted, .headRestartFailed, .guardEntered, .guardLeft, .coverageThin,
      .gatewaySilent, .gatewayResumed, .reeferAlarm, .reeferClear, .reeferSilent, .reeferResumed, .tableFull] :
      List NoticeKind).map NoticeKind.code = (List.range 21).map (fun n => BitVec.ofNat 8 (n + 1)) ∧
    ∀ n : Notice, n.payload = [n.kind.code, 0] ++ four n.uptime ++ four n.subject ++ two n.detail) ∧
   ((∀ rs, exportPayload rs = BitVec.ofNat 8 rs.length :: 0 :: rs.flatMap ExportRecord.bytes) ∧
    ([.unheard, .active, .alarm, .silent, .unplugged] : List ReeferState).map ReeferState.code = [1, 2, 3, 4, 5] ∧
    ([.state, .change, .refresh] : List Reason).map Reason.code = [1, 2, 3] ∧
    ∀ r : ExportRecord, ∃ present flags : Byte,
      (present.getLsbD 0 = r.setpoint.isSome ∧ present.getLsbD 1 = r.supply.isSome ∧ present.getLsbD 2 = r.ret.isSome ∧
        present.getLsbD 3 = r.gatewayNo.isSome ∧ present.getLsbD 4 = r.segment.isSome ∧ present >>> 5 = 0) ∧
      (flags.getLsbD 0 = r.compressor ∧ flags.getLsbD 1 = r.defrost ∧ flags >>> 2 = 0) ∧
      r.bytes = three (BitVec.ofNat 24 r.tag) ++ [r.state.code, present, flags] ++ signed r.setpoint ++ signed r.supply ++
        signed r.ret ++ [r.alarm, r.reason.code] ++ two (r.gatewayNo.getD 0) ++
        [BitVec.ofNat 8 ((r.segment.map Fin.val).getD 0), 0] ++ two (BitVec.ofNat 16 r.age)) ∧
   (([.done, .clamped, .badRequest, .badParam, .notFound, .occupied, .duplicate, .full, .busy, .wrongState] :
      List Status).map Status.code = [1, 2, 3, 4, 5, 6, 7, 8, 9, 10] ∧
    (∀ r : Reply, r.payload = [r.code, r.tag, r.status.code, 0] ++ r.data.bytes) ∧
    ∀ r : Reply,
      (∀ k a b c d cs, r.data = .cells k a b c d cs → cs.length ≤ 48) → (∀ gs, r.data = .segs gs → gs.length ≤ 48) →
      (∀ cs, r.data = .counters cs → cs.length ≤ 120) →
      readFrame true (TrunkFrame.reply r).bytes =
        some { kind := .reply, flags := 0, headIndex := 0, terminal := 0, seq := 0, payload := r.payload })) ∧
  (∀ (s : State) (k : HeadIx) (ok : Bool) (bytes : List Byte),
    s.offerHeadFrame k ok bytes = { s with pending := s.pending ++ [headFrameCommand k ok bytes] }) ∧
  ∀ (s : State) (ok : Bool) (bytes : List Byte),
    s.offerTrunkFrame ok bytes = { s with pending := s.pending ++ [trunkFrameCommand s.node ok bytes] }

/-- Every command that a head's frame can stand for is read back from the frame that encodes it. -/
def Obligations.HeadFramesDecodeToTheirCommand : Prop :=
  ∀ (c : Instr) (k : HeadIx) (bytes : List Byte), WellFormed c = true → encodeHeadFrame c = some (k, bytes) →
    headFrameCommand k true bytes = c

/-- Every command that a trunk frame can stand for is read back, at the node it is for, from the frame that encodes
it; a request's absent parameters are encoded as no parameter bytes. -/
def Obligations.TrunkFramesDecodeToTheirCommand : Prop :=
  ∀ (c : Instr) (node : BitVec 6) (bytes : List Byte), WellFormed c = true → encodeTrunkFrame c = some bytes →
    (∀ h code, IsRequest c h code → h.dest = 255 ∨ h.dest = node.setWidth 8) →
    (∀ dest, c = .otherNode dest → dest ≠ node.setWidth 8) →
    trunkFrameCommand node true bytes = c

/-! ## What every step keeps -/

/-- Every queue stays within its capacity, and empty where the manual says it is empty. -/
def Obligations.StepsKeepTheQueues : Prop :=
 ∀ s t : State, QueuesOk s → step s = .next t → QueuesOk t

/-- The statements that follow Table 5-1 stay true of every entry. -/
def Obligations.StepsKeepTheHandovers : Prop :=
 ∀ s t : State, HandoversOk s → step s = .next t → HandoversOk t

/-- No two occupied slots come to hold the same terminal number, none holds 0 or 65535, and every global parameter
stays within its range. -/
def Obligations.StepsKeepNumbersAndParameters : Prop :=
  (∀ s t : State, NumbersOk s → step s = .next t → NumbersOk t) ∧
  (∀ s t : State, ParamsOk s.mgmt.params → step s = .next t → ParamsOk t.mgmt.params)

/-- The Segment Table goes on counting what the Terminal Table holds. -/
def Obligations.StepsKeepTheSegmentCounts : Prop :=
 ∀ s t : State, SegmentsOk s → step s = .next t → SegmentsOk t

/-- Tags stay unique, reefer counts true, and an ALARM entry keeps a setpoint. -/
def Obligations.StepsKeepTheReeferTable : Prop :=
 ∀ s t : State, ReefersOk s → step s = .next t → ReefersOk t

/-- The pending list goes on holding exactly the flagged entries, each once, with its deadline and request. -/
def Obligations.StepsKeepThePendingList : Prop :=
 ∀ s t : State, PendingOk s → step s = .next t → PendingOk t

/-- Every offset stays within its head's limits, and every record and loop state within its ranges. -/
def Obligations.StepsKeepTheLoops : Prop :=
  ∀ s t : State, LoopsOk s → QueuesOk s → step s = .next t → LoopsOk t

/-- What 10.4 says of STANDBY stays true. -/
def Obligations.StepsKeepStandbyQuiet : Prop :=
 ∀ s t : State, StandbyOk s → step s = .next t → StandbyOk t

/-- Every invariant holds right after reset. -/
def Obligations.ResetMeetsEveryInvariant : Prop :=
  QueuesOk State.reset ∧ HandoversOk State.reset ∧ NumbersOk State.reset ∧ SegmentsOk State.reset ∧
  ReefersOk State.reset ∧ PendingOk State.reset ∧ LoopsOk State.reset ∧ ParamsOk State.reset.mgmt.params ∧
  StandbyOk State.reset
end

