-- ==== Sys2Proof/Laws/Tables.lean ====
section
/-! SUPPORT. Laws of the tables: reading after writing, changing every element, finding, counting. -/

namespace Sys2Proof

variable {α β : Type} {n : Nat}

@[simp] theorem look_put_self (v : Vector α n) (i : Fin n) (x : α) : look (put v i x) i = x := by
  simp [look, put]

theorem look_put_of_ne (v : Vector α n) {i j : Fin n} (x : α) (h : j ≠ i) : look (put v i x) j = look v j := by
  have : i.val ≠ j.val := fun e => h (Fin.ext e.symm)
  simp [look, put, this]

theorem look_put (v : Vector α n) (i j : Fin n) (x : α) :
    look (put v i x) j = if j = i then x else look v j := by
  split
  · next h => subst h; simp
  · next h => exact look_put_of_ne v x h

theorem put_put (v : Vector α n) (i : Fin n) (x y : α) : put (put v i x) i y = put v i y := by
  simp [put]

@[simp] theorem put_look (v : Vector α n) (i : Fin n) : put v i (look v i) = v := by
  simp [put, look]

@[simp] theorem look_replicate (x : α) (i : Fin n) : look (Vector.replicate n x) i = x := by
  simp [look]

@[simp] theorem look_tabulate (f : Fin n → α) (i : Fin n) : look (tabulate f) i = f i := by
  simp [look, tabulate]

@[simp] theorem look_mapTab (f : α → β) (v : Vector α n) (i : Fin n) : look (mapTab f v) i = f (look v i) := by
  simp [look, mapTab]

/-- Two tables that agree at every index are equal. -/
theorem table_ext {v w : Vector α n} (h : ∀ i, look v i = look w i) : v = w := by
  apply Vector.ext
  intro i hi
  exact h ⟨i, hi⟩

theorem findIx_some {p : α → Bool} {v : Vector α n} {i : Fin n} (h : findIx p v = some i) : p (look v i) = true := by
  unfold findIx at h
  split at h
  · next k hk =>
    split at h
    · next hn =>
      cases h
      have := List.findIdx?_eq_some_iff_findIdx_eq.mp hk
      have hlt : k < v.toList.length := this.1
      have hp := List.findIdx_getElem (p := p) (xs := v.toList) (w := this.2 ▸ hlt)
      simpa [look, this.2] using hp
    · cases h
  · cases h

theorem findIx_none {p : α → Bool} {v : Vector α n} (h : findIx p v = none) (i : Fin n) : p (look v i) = false := by
  unfold findIx at h
  split at h
  · next k hk =>
    have := List.findIdx?_eq_some_iff_findIdx_eq.mp hk
    have hn : k < n := by simpa using this.1
    simp [hn] at h
  · next hk =>
    have := List.findIdx?_eq_none_iff.mp hk (look v i) (by simp [look])
    simpa using this

/-- A match at one index alone is the one found. -/
theorem findIx_unique {p : α → Bool} {v : Vector α n} {i : Fin n} (hi : p (look v i) = true)
    (hu : ∀ j, p (look v j) = true → j = i) : findIx p v = some i := by
  cases h : findIx p v with
  | none => simp [findIx_none h i] at hi
  | some j => rw [hu j (findIx_some h)]

theorem ix?_of_lt {k : Nat} (h : k < n) : ix? n k = some ⟨k, h⟩ := by simp [ix?, h]

theorem ix?_of_not_lt {k : Nat} (h : ¬ k < n) : ix? n k = none := by simp [ix?, h]

theorem ix?_eq_some {k : Nat} {i : Fin n} : ix? n k = some i ↔ k = i.val := by
  unfold ix?
  split
  · constructor
    · rintro ⟨rfl⟩; rfl
    · intro h; simp [h]
  · constructor
    · intro h; cases h
    · intro h; omega

@[simp] theorem ix?_val (i : Fin n) : ix? n i.val = some i := ix?_eq_some.mpr rfl

/-- The count of a table as a count over its indexes. -/
theorem countTab_eq (p : α → Bool) (v : Vector α n) :
    countTab p v = (List.finRange n).countP fun i => p (look v i) := by
  have h : v.toList = (List.finRange n).map (look v) := by
    apply List.ext_getElem <;> simp [look]
  rw [countTab, h, List.countP_map]
  rfl

/-- One element written changes the count by that element alone. -/
theorem countTab_put (p : α → Bool) (v : Vector α n) (i : Fin n) (x : α) :
    countTab p (put v i x) + (if p (look v i) then 1 else 0) = countTab p v + (if p x then 1 else 0) := by
  have hi : i.val < v.toList.length := by simp
  have hs : (put v i x).toList = v.toList.set i.val x := by
    apply List.ext_getElem <;> simp [put, List.getElem_set, Vector.getElem_set]
  have hle : (if p (look v i) then 1 else 0) ≤ v.toList.countP p := by
    split
    · next hp =>
      have : look v i ∈ v.toList := by simp [look]
      exact List.countP_pos_iff.mpr ⟨_, this, hp⟩
    · exact Nat.zero_le _
  have hc := List.countP_set (p := p) (l := v.toList) (i := i.val) (a := x) hi
  have hg : v.toList[i.val] = look v i := by simp [look]
  rw [hg] at hc
  rw [countTab, hs, hc, countTab]
  omega

end Sys2Proof
end

