-- ==== Sys2Proof/Laws/State.lean ====
section
/-! SUPPORT. One lemma per field per update of State, and what each accessor reads after each update. -/

namespace Sys2Proof.Machine
open Sys2Proof

variable (s : State)

/-! ## Fields -/

@[simp] theorem State.modHead_pending (h : HeadIx) (f : Head → Head) : (s.modHead h f).pending = s.pending := rfl
@[simp] theorem State.modHead_choice (h : HeadIx) (f : Head → Head) : (s.modHead h f).choice = s.choice := rfl
@[simp] theorem State.modHead_inReset (h : HeadIx) (f : Head → Head) : (s.modHead h f).inReset = s.inReset := rfl
@[simp] theorem State.modHead_uptime (h : HeadIx) (f : Head → Head) : (s.modHead h f).uptime = s.uptime := rfl
@[simp] theorem State.modHead_node (h : HeadIx) (f : Head → Head) : (s.modHead h f).node = s.node := rfl
@[simp] theorem State.modHead_part (h : HeadIx) (f : Head → Head) : (s.modHead h f).part = s.part := rfl
@[simp] theorem State.modHead_mgmt (h : HeadIx) (f : Head → Head) : (s.modHead h f).mgmt = s.mgmt := rfl
@[simp] theorem State.modHead_heads (h : HeadIx) (f : Head → Head) : (s.modHead h f).heads = put s.heads h (f (look s.heads h)) := rfl
@[simp] theorem State.modHead_trunk (h : HeadIx) (f : Head → Head) : (s.modHead h f).trunk = s.trunk := rfl
@[simp] theorem State.modHead_cls (h : HeadIx) (f : Head → Head) : (s.modHead h f).cls = s.cls := rfl
@[simp] theorem State.modHead_terms (h : HeadIx) (f : Head → Head) : (s.modHead h f).terms = s.terms := rfl
@[simp] theorem State.modHead_segs (h : HeadIx) (f : Head → Head) : (s.modHead h f).segs = s.segs := rfl
@[simp] theorem State.modHead_ho (h : HeadIx) (f : Head → Head) : (s.modHead h f).ho = s.ho := rfl
@[simp] theorem State.modHead_crane (h : HeadIx) (f : Head → Head) : (s.modHead h f).crane = s.crane := rfl
@[simp] theorem State.modHead_cov (h : HeadIx) (f : Head → Head) : (s.modHead h f).cov = s.cov := rfl
@[simp] theorem State.modHead_loops (h : HeadIx) (f : Head → Head) : (s.modHead h f).loops = s.loops := rfl
@[simp] theorem State.modHead_reef (h : HeadIx) (f : Head → Head) : (s.modHead h f).reef = s.reef := rfl
@[simp] theorem State.modHead_exp (h : HeadIx) (f : Head → Head) : (s.modHead h f).exp = s.exp := rfl

@[simp] theorem State.modLoop_pending (h : HeadIx) (f : LoopState → LoopState) : (s.modLoop h f).pending = s.pending := rfl
@[simp] theorem State.modLoop_choice (h : HeadIx) (f : LoopState → LoopState) : (s.modLoop h f).choice = s.choice := rfl
@[simp] theorem State.modLoop_inReset (h : HeadIx) (f : LoopState → LoopState) : (s.modLoop h f).inReset = s.inReset := rfl
@[simp] theorem State.modLoop_uptime (h : HeadIx) (f : LoopState → LoopState) : (s.modLoop h f).uptime = s.uptime := rfl
@[simp] theorem State.modLoop_node (h : HeadIx) (f : LoopState → LoopState) : (s.modLoop h f).node = s.node := rfl
@[simp] theorem State.modLoop_part (h : HeadIx) (f : LoopState → LoopState) : (s.modLoop h f).part = s.part := rfl
@[simp] theorem State.modLoop_mgmt (h : HeadIx) (f : LoopState → LoopState) : (s.modLoop h f).mgmt = s.mgmt := rfl
@[simp] theorem State.modLoop_heads (h : HeadIx) (f : LoopState → LoopState) : (s.modLoop h f).heads = s.heads := rfl
@[simp] theorem State.modLoop_trunk (h : HeadIx) (f : LoopState → LoopState) : (s.modLoop h f).trunk = s.trunk := rfl
@[simp] theorem State.modLoop_cls (h : HeadIx) (f : LoopState → LoopState) : (s.modLoop h f).cls = s.cls := rfl
@[simp] theorem State.modLoop_terms (h : HeadIx) (f : LoopState → LoopState) : (s.modLoop h f).terms = s.terms := rfl
@[simp] theorem State.modLoop_segs (h : HeadIx) (f : LoopState → LoopState) : (s.modLoop h f).segs = s.segs := rfl
@[simp] theorem State.modLoop_ho (h : HeadIx) (f : LoopState → LoopState) : (s.modLoop h f).ho = s.ho := rfl
@[simp] theorem State.modLoop_crane (h : HeadIx) (f : LoopState → LoopState) : (s.modLoop h f).crane = s.crane := rfl
@[simp] theorem State.modLoop_cov (h : HeadIx) (f : LoopState → LoopState) : (s.modLoop h f).cov = s.cov := rfl
@[simp] theorem State.modLoop_loops (h : HeadIx) (f : LoopState → LoopState) : (s.modLoop h f).loops = put s.loops h (f (look s.loops h)) := rfl
@[simp] theorem State.modLoop_reef (h : HeadIx) (f : LoopState → LoopState) : (s.modLoop h f).reef = s.reef := rfl
@[simp] theorem State.modLoop_exp (h : HeadIx) (f : LoopState → LoopState) : (s.modLoop h f).exp = s.exp := rfl

@[simp] theorem State.setTerm_pending (i : SlotIx) (t : Option Term) : (s.setTerm i t).pending = s.pending := rfl
@[simp] theorem State.setTerm_choice (i : SlotIx) (t : Option Term) : (s.setTerm i t).choice = s.choice := rfl
@[simp] theorem State.setTerm_inReset (i : SlotIx) (t : Option Term) : (s.setTerm i t).inReset = s.inReset := rfl
@[simp] theorem State.setTerm_uptime (i : SlotIx) (t : Option Term) : (s.setTerm i t).uptime = s.uptime := rfl
@[simp] theorem State.setTerm_node (i : SlotIx) (t : Option Term) : (s.setTerm i t).node = s.node := rfl
@[simp] theorem State.setTerm_part (i : SlotIx) (t : Option Term) : (s.setTerm i t).part = s.part := rfl
@[simp] theorem State.setTerm_mgmt (i : SlotIx) (t : Option Term) : (s.setTerm i t).mgmt = s.mgmt := rfl
@[simp] theorem State.setTerm_heads (i : SlotIx) (t : Option Term) : (s.setTerm i t).heads = s.heads := rfl
@[simp] theorem State.setTerm_trunk (i : SlotIx) (t : Option Term) : (s.setTerm i t).trunk = s.trunk := rfl
@[simp] theorem State.setTerm_cls (i : SlotIx) (t : Option Term) : (s.setTerm i t).cls = s.cls := rfl
@[simp] theorem State.setTerm_terms (i : SlotIx) (t : Option Term) : (s.setTerm i t).terms = put s.terms i t := rfl
@[simp] theorem State.setTerm_segs (i : SlotIx) (t : Option Term) : (s.setTerm i t).segs = s.segs := rfl
@[simp] theorem State.setTerm_ho (i : SlotIx) (t : Option Term) : (s.setTerm i t).ho = s.ho := rfl
@[simp] theorem State.setTerm_crane (i : SlotIx) (t : Option Term) : (s.setTerm i t).crane = s.crane := rfl
@[simp] theorem State.setTerm_cov (i : SlotIx) (t : Option Term) : (s.setTerm i t).cov = s.cov := rfl
@[simp] theorem State.setTerm_loops (i : SlotIx) (t : Option Term) : (s.setTerm i t).loops = s.loops := rfl
@[simp] theorem State.setTerm_reef (i : SlotIx) (t : Option Term) : (s.setTerm i t).reef = s.reef := rfl
@[simp] theorem State.setTerm_exp (i : SlotIx) (t : Option Term) : (s.setTerm i t).exp = s.exp := rfl

@[simp] theorem State.modTrunk_pending (f : Trunk → Trunk) : (s.modTrunk f).pending = s.pending := rfl
@[simp] theorem State.modTrunk_choice (f : Trunk → Trunk) : (s.modTrunk f).choice = s.choice := rfl
@[simp] theorem State.modTrunk_inReset (f : Trunk → Trunk) : (s.modTrunk f).inReset = s.inReset := rfl
@[simp] theorem State.modTrunk_uptime (f : Trunk → Trunk) : (s.modTrunk f).uptime = s.uptime := rfl
@[simp] theorem State.modTrunk_node (f : Trunk → Trunk) : (s.modTrunk f).node = s.node := rfl
@[simp] theorem State.modTrunk_part (f : Trunk → Trunk) : (s.modTrunk f).part = s.part := rfl
@[simp] theorem State.modTrunk_mgmt (f : Trunk → Trunk) : (s.modTrunk f).mgmt = s.mgmt := rfl
@[simp] theorem State.modTrunk_heads (f : Trunk → Trunk) : (s.modTrunk f).heads = s.heads := rfl
@[simp] theorem State.modTrunk_trunk (f : Trunk → Trunk) : (s.modTrunk f).trunk = f s.trunk := rfl
@[simp] theorem State.modTrunk_cls (f : Trunk → Trunk) : (s.modTrunk f).cls = s.cls := rfl
@[simp] theorem State.modTrunk_terms (f : Trunk → Trunk) : (s.modTrunk f).terms = s.terms := rfl
@[simp] theorem State.modTrunk_segs (f : Trunk → Trunk) : (s.modTrunk f).segs = s.segs := rfl
@[simp] theorem State.modTrunk_ho (f : Trunk → Trunk) : (s.modTrunk f).ho = s.ho := rfl
@[simp] theorem State.modTrunk_crane (f : Trunk → Trunk) : (s.modTrunk f).crane = s.crane := rfl
@[simp] theorem State.modTrunk_cov (f : Trunk → Trunk) : (s.modTrunk f).cov = s.cov := rfl
@[simp] theorem State.modTrunk_loops (f : Trunk → Trunk) : (s.modTrunk f).loops = s.loops := rfl
@[simp] theorem State.modTrunk_reef (f : Trunk → Trunk) : (s.modTrunk f).reef = s.reef := rfl
@[simp] theorem State.modTrunk_exp (f : Trunk → Trunk) : (s.modTrunk f).exp = s.exp := rfl

@[simp] theorem State.modMgmt_pending (f : Mgmt → Mgmt) : (s.modMgmt f).pending = s.pending := rfl
@[simp] theorem State.modMgmt_choice (f : Mgmt → Mgmt) : (s.modMgmt f).choice = s.choice := rfl
@[simp] theorem State.modMgmt_inReset (f : Mgmt → Mgmt) : (s.modMgmt f).inReset = s.inReset := rfl
@[simp] theorem State.modMgmt_uptime (f : Mgmt → Mgmt) : (s.modMgmt f).uptime = s.uptime := rfl
@[simp] theorem State.modMgmt_node (f : Mgmt → Mgmt) : (s.modMgmt f).node = s.node := rfl
@[simp] theorem State.modMgmt_part (f : Mgmt → Mgmt) : (s.modMgmt f).part = s.part := rfl
@[simp] theorem State.modMgmt_mgmt (f : Mgmt → Mgmt) : (s.modMgmt f).mgmt = f s.mgmt := rfl
@[simp] theorem State.modMgmt_heads (f : Mgmt → Mgmt) : (s.modMgmt f).heads = s.heads := rfl
@[simp] theorem State.modMgmt_trunk (f : Mgmt → Mgmt) : (s.modMgmt f).trunk = s.trunk := rfl
@[simp] theorem State.modMgmt_cls (f : Mgmt → Mgmt) : (s.modMgmt f).cls = s.cls := rfl
@[simp] theorem State.modMgmt_terms (f : Mgmt → Mgmt) : (s.modMgmt f).terms = s.terms := rfl
@[simp] theorem State.modMgmt_segs (f : Mgmt → Mgmt) : (s.modMgmt f).segs = s.segs := rfl
@[simp] theorem State.modMgmt_ho (f : Mgmt → Mgmt) : (s.modMgmt f).ho = s.ho := rfl
@[simp] theorem State.modMgmt_crane (f : Mgmt → Mgmt) : (s.modMgmt f).crane = s.crane := rfl
@[simp] theorem State.modMgmt_cov (f : Mgmt → Mgmt) : (s.modMgmt f).cov = s.cov := rfl
@[simp] theorem State.modMgmt_loops (f : Mgmt → Mgmt) : (s.modMgmt f).loops = s.loops := rfl
@[simp] theorem State.modMgmt_reef (f : Mgmt → Mgmt) : (s.modMgmt f).reef = s.reef := rfl
@[simp] theorem State.modMgmt_exp (f : Mgmt → Mgmt) : (s.modMgmt f).exp = s.exp := rfl

@[simp] theorem State.modCls_pending (f : ClassifierCounters → ClassifierCounters) : (s.modCls f).pending = s.pending := rfl
@[simp] theorem State.modCls_choice (f : ClassifierCounters → ClassifierCounters) : (s.modCls f).choice = s.choice := rfl
@[simp] theorem State.modCls_inReset (f : ClassifierCounters → ClassifierCounters) : (s.modCls f).inReset = s.inReset := rfl
@[simp] theorem State.modCls_uptime (f : ClassifierCounters → ClassifierCounters) : (s.modCls f).uptime = s.uptime := rfl
@[simp] theorem State.modCls_node (f : ClassifierCounters → ClassifierCounters) : (s.modCls f).node = s.node := rfl
@[simp] theorem State.modCls_part (f : ClassifierCounters → ClassifierCounters) : (s.modCls f).part = s.part := rfl
@[simp] theorem State.modCls_mgmt (f : ClassifierCounters → ClassifierCounters) : (s.modCls f).mgmt = s.mgmt := rfl
@[simp] theorem State.modCls_heads (f : ClassifierCounters → ClassifierCounters) : (s.modCls f).heads = s.heads := rfl
@[simp] theorem State.modCls_trunk (f : ClassifierCounters → ClassifierCounters) : (s.modCls f).trunk = s.trunk := rfl
@[simp] theorem State.modCls_cls (f : ClassifierCounters → ClassifierCounters) : (s.modCls f).cls = f s.cls := rfl
@[simp] theorem State.modCls_terms (f : ClassifierCounters → ClassifierCounters) : (s.modCls f).terms = s.terms := rfl
@[simp] theorem State.modCls_segs (f : ClassifierCounters → ClassifierCounters) : (s.modCls f).segs = s.segs := rfl
@[simp] theorem State.modCls_ho (f : ClassifierCounters → ClassifierCounters) : (s.modCls f).ho = s.ho := rfl
@[simp] theorem State.modCls_crane (f : ClassifierCounters → ClassifierCounters) : (s.modCls f).crane = s.crane := rfl
@[simp] theorem State.modCls_cov (f : ClassifierCounters → ClassifierCounters) : (s.modCls f).cov = s.cov := rfl
@[simp] theorem State.modCls_loops (f : ClassifierCounters → ClassifierCounters) : (s.modCls f).loops = s.loops := rfl
@[simp] theorem State.modCls_reef (f : ClassifierCounters → ClassifierCounters) : (s.modCls f).reef = s.reef := rfl
@[simp] theorem State.modCls_exp (f : ClassifierCounters → ClassifierCounters) : (s.modCls f).exp = s.exp := rfl

@[simp] theorem State.modHo_pending (f : HandoverCounters → HandoverCounters) : (s.modHo f).pending = s.pending := rfl
@[simp] theorem State.modHo_choice (f : HandoverCounters → HandoverCounters) : (s.modHo f).choice = s.choice := rfl
@[simp] theorem State.modHo_inReset (f : HandoverCounters → HandoverCounters) : (s.modHo f).inReset = s.inReset := rfl
@[simp] theorem State.modHo_uptime (f : HandoverCounters → HandoverCounters) : (s.modHo f).uptime = s.uptime := rfl
@[simp] theorem State.modHo_node (f : HandoverCounters → HandoverCounters) : (s.modHo f).node = s.node := rfl
@[simp] theorem State.modHo_part (f : HandoverCounters → HandoverCounters) : (s.modHo f).part = s.part := rfl
@[simp] theorem State.modHo_mgmt (f : HandoverCounters → HandoverCounters) : (s.modHo f).mgmt = s.mgmt := rfl
@[simp] theorem State.modHo_heads (f : HandoverCounters → HandoverCounters) : (s.modHo f).heads = s.heads := rfl
@[simp] theorem State.modHo_trunk (f : HandoverCounters → HandoverCounters) : (s.modHo f).trunk = s.trunk := rfl
@[simp] theorem State.modHo_cls (f : HandoverCounters → HandoverCounters) : (s.modHo f).cls = s.cls := rfl
@[simp] theorem State.modHo_terms (f : HandoverCounters → HandoverCounters) : (s.modHo f).terms = s.terms := rfl
@[simp] theorem State.modHo_segs (f : HandoverCounters → HandoverCounters) : (s.modHo f).segs = s.segs := rfl
@[simp] theorem State.modHo_ho (f : HandoverCounters → HandoverCounters) : (s.modHo f).ho = f s.ho := rfl
@[simp] theorem State.modHo_crane (f : HandoverCounters → HandoverCounters) : (s.modHo f).crane = s.crane := rfl
@[simp] theorem State.modHo_cov (f : HandoverCounters → HandoverCounters) : (s.modHo f).cov = s.cov := rfl
@[simp] theorem State.modHo_loops (f : HandoverCounters → HandoverCounters) : (s.modHo f).loops = s.loops := rfl
@[simp] theorem State.modHo_reef (f : HandoverCounters → HandoverCounters) : (s.modHo f).reef = s.reef := rfl
@[simp] theorem State.modHo_exp (f : HandoverCounters → HandoverCounters) : (s.modHo f).exp = s.exp := rfl

@[simp] theorem State.modCrane_pending (f : CraneCounters → CraneCounters) : (s.modCrane f).pending = s.pending := rfl
@[simp] theorem State.modCrane_choice (f : CraneCounters → CraneCounters) : (s.modCrane f).choice = s.choice := rfl
@[simp] theorem State.modCrane_inReset (f : CraneCounters → CraneCounters) : (s.modCrane f).inReset = s.inReset := rfl
@[simp] theorem State.modCrane_uptime (f : CraneCounters → CraneCounters) : (s.modCrane f).uptime = s.uptime := rfl
@[simp] theorem State.modCrane_node (f : CraneCounters → CraneCounters) : (s.modCrane f).node = s.node := rfl
@[simp] theorem State.modCrane_part (f : CraneCounters → CraneCounters) : (s.modCrane f).part = s.part := rfl
@[simp] theorem State.modCrane_mgmt (f : CraneCounters → CraneCounters) : (s.modCrane f).mgmt = s.mgmt := rfl
@[simp] theorem State.modCrane_heads (f : CraneCounters → CraneCounters) : (s.modCrane f).heads = s.heads := rfl
@[simp] theorem State.modCrane_trunk (f : CraneCounters → CraneCounters) : (s.modCrane f).trunk = s.trunk := rfl
@[simp] theorem State.modCrane_cls (f : CraneCounters → CraneCounters) : (s.modCrane f).cls = s.cls := rfl
@[simp] theorem State.modCrane_terms (f : CraneCounters → CraneCounters) : (s.modCrane f).terms = s.terms := rfl
@[simp] theorem State.modCrane_segs (f : CraneCounters → CraneCounters) : (s.modCrane f).segs = s.segs := rfl
@[simp] theorem State.modCrane_ho (f : CraneCounters → CraneCounters) : (s.modCrane f).ho = s.ho := rfl
@[simp] theorem State.modCrane_crane (f : CraneCounters → CraneCounters) : (s.modCrane f).crane = f s.crane := rfl
@[simp] theorem State.modCrane_cov (f : CraneCounters → CraneCounters) : (s.modCrane f).cov = s.cov := rfl
@[simp] theorem State.modCrane_loops (f : CraneCounters → CraneCounters) : (s.modCrane f).loops = s.loops := rfl
@[simp] theorem State.modCrane_reef (f : CraneCounters → CraneCounters) : (s.modCrane f).reef = s.reef := rfl
@[simp] theorem State.modCrane_exp (f : CraneCounters → CraneCounters) : (s.modCrane f).exp = s.exp := rfl

@[simp] theorem State.modCov_pending (f : Coverage → Coverage) : (s.modCov f).pending = s.pending := rfl
@[simp] theorem State.modCov_choice (f : Coverage → Coverage) : (s.modCov f).choice = s.choice := rfl
@[simp] theorem State.modCov_inReset (f : Coverage → Coverage) : (s.modCov f).inReset = s.inReset := rfl
@[simp] theorem State.modCov_uptime (f : Coverage → Coverage) : (s.modCov f).uptime = s.uptime := rfl
@[simp] theorem State.modCov_node (f : Coverage → Coverage) : (s.modCov f).node = s.node := rfl
@[simp] theorem State.modCov_part (f : Coverage → Coverage) : (s.modCov f).part = s.part := rfl
@[simp] theorem State.modCov_mgmt (f : Coverage → Coverage) : (s.modCov f).mgmt = s.mgmt := rfl
@[simp] theorem State.modCov_heads (f : Coverage → Coverage) : (s.modCov f).heads = s.heads := rfl
@[simp] theorem State.modCov_trunk (f : Coverage → Coverage) : (s.modCov f).trunk = s.trunk := rfl
@[simp] theorem State.modCov_cls (f : Coverage → Coverage) : (s.modCov f).cls = s.cls := rfl
@[simp] theorem State.modCov_terms (f : Coverage → Coverage) : (s.modCov f).terms = s.terms := rfl
@[simp] theorem State.modCov_segs (f : Coverage → Coverage) : (s.modCov f).segs = s.segs := rfl
@[simp] theorem State.modCov_ho (f : Coverage → Coverage) : (s.modCov f).ho = s.ho := rfl
@[simp] theorem State.modCov_crane (f : Coverage → Coverage) : (s.modCov f).crane = s.crane := rfl
@[simp] theorem State.modCov_cov (f : Coverage → Coverage) : (s.modCov f).cov = f s.cov := rfl
@[simp] theorem State.modCov_loops (f : Coverage → Coverage) : (s.modCov f).loops = s.loops := rfl
@[simp] theorem State.modCov_reef (f : Coverage → Coverage) : (s.modCov f).reef = s.reef := rfl
@[simp] theorem State.modCov_exp (f : Coverage → Coverage) : (s.modCov f).exp = s.exp := rfl

@[simp] theorem State.modReef_pending (f : Reefers → Reefers) : (s.modReef f).pending = s.pending := rfl
@[simp] theorem State.modReef_choice (f : Reefers → Reefers) : (s.modReef f).choice = s.choice := rfl
@[simp] theorem State.modReef_inReset (f : Reefers → Reefers) : (s.modReef f).inReset = s.inReset := rfl
@[simp] theorem State.modReef_uptime (f : Reefers → Reefers) : (s.modReef f).uptime = s.uptime := rfl
@[simp] theorem State.modReef_node (f : Reefers → Reefers) : (s.modReef f).node = s.node := rfl
@[simp] theorem State.modReef_part (f : Reefers → Reefers) : (s.modReef f).part = s.part := rfl
@[simp] theorem State.modReef_mgmt (f : Reefers → Reefers) : (s.modReef f).mgmt = s.mgmt := rfl
@[simp] theorem State.modReef_heads (f : Reefers → Reefers) : (s.modReef f).heads = s.heads := rfl
@[simp] theorem State.modReef_trunk (f : Reefers → Reefers) : (s.modReef f).trunk = s.trunk := rfl
@[simp] theorem State.modReef_cls (f : Reefers → Reefers) : (s.modReef f).cls = s.cls := rfl
@[simp] theorem State.modReef_terms (f : Reefers → Reefers) : (s.modReef f).terms = s.terms := rfl
@[simp] theorem State.modReef_segs (f : Reefers → Reefers) : (s.modReef f).segs = s.segs := rfl
@[simp] theorem State.modReef_ho (f : Reefers → Reefers) : (s.modReef f).ho = s.ho := rfl
@[simp] theorem State.modReef_crane (f : Reefers → Reefers) : (s.modReef f).crane = s.crane := rfl
@[simp] theorem State.modReef_cov (f : Reefers → Reefers) : (s.modReef f).cov = s.cov := rfl
@[simp] theorem State.modReef_loops (f : Reefers → Reefers) : (s.modReef f).loops = s.loops := rfl
@[simp] theorem State.modReef_reef (f : Reefers → Reefers) : (s.modReef f).reef = f s.reef := rfl
@[simp] theorem State.modReef_exp (f : Reefers → Reefers) : (s.modReef f).exp = s.exp := rfl

@[simp] theorem State.modExp_pending (f : ExportUnit → ExportUnit) : (s.modExp f).pending = s.pending := rfl
@[simp] theorem State.modExp_choice (f : ExportUnit → ExportUnit) : (s.modExp f).choice = s.choice := rfl
@[simp] theorem State.modExp_inReset (f : ExportUnit → ExportUnit) : (s.modExp f).inReset = s.inReset := rfl
@[simp] theorem State.modExp_uptime (f : ExportUnit → ExportUnit) : (s.modExp f).uptime = s.uptime := rfl
@[simp] theorem State.modExp_node (f : ExportUnit → ExportUnit) : (s.modExp f).node = s.node := rfl
@[simp] theorem State.modExp_part (f : ExportUnit → ExportUnit) : (s.modExp f).part = s.part := rfl
@[simp] theorem State.modExp_mgmt (f : ExportUnit → ExportUnit) : (s.modExp f).mgmt = s.mgmt := rfl
@[simp] theorem State.modExp_heads (f : ExportUnit → ExportUnit) : (s.modExp f).heads = s.heads := rfl
@[simp] theorem State.modExp_trunk (f : ExportUnit → ExportUnit) : (s.modExp f).trunk = s.trunk := rfl
@[simp] theorem State.modExp_cls (f : ExportUnit → ExportUnit) : (s.modExp f).cls = s.cls := rfl
@[simp] theorem State.modExp_terms (f : ExportUnit → ExportUnit) : (s.modExp f).terms = s.terms := rfl
@[simp] theorem State.modExp_segs (f : ExportUnit → ExportUnit) : (s.modExp f).segs = s.segs := rfl
@[simp] theorem State.modExp_ho (f : ExportUnit → ExportUnit) : (s.modExp f).ho = s.ho := rfl
@[simp] theorem State.modExp_crane (f : ExportUnit → ExportUnit) : (s.modExp f).crane = s.crane := rfl
@[simp] theorem State.modExp_cov (f : ExportUnit → ExportUnit) : (s.modExp f).cov = s.cov := rfl
@[simp] theorem State.modExp_loops (f : ExportUnit → ExportUnit) : (s.modExp f).loops = s.loops := rfl
@[simp] theorem State.modExp_reef (f : ExportUnit → ExportUnit) : (s.modExp f).reef = s.reef := rfl
@[simp] theorem State.modExp_exp (f : ExportUnit → ExportUnit) : (s.modExp f).exp = f s.exp := rfl

@[simp] theorem State.countHead_pending (h : HeadIx) (f : HeadCounters → HeadCounters) : (s.countHead h f).pending = s.pending := rfl
@[simp] theorem State.countHead_choice (h : HeadIx) (f : HeadCounters → HeadCounters) : (s.countHead h f).choice = s.choice := rfl
@[simp] theorem State.countHead_inReset (h : HeadIx) (f : HeadCounters → HeadCounters) : (s.countHead h f).inReset = s.inReset := rfl
@[simp] theorem State.countHead_uptime (h : HeadIx) (f : HeadCounters → HeadCounters) : (s.countHead h f).uptime = s.uptime := rfl
@[simp] theorem State.countHead_node (h : HeadIx) (f : HeadCounters → HeadCounters) : (s.countHead h f).node = s.node := rfl
@[simp] theorem State.countHead_part (h : HeadIx) (f : HeadCounters → HeadCounters) : (s.countHead h f).part = s.part := rfl
@[simp] theorem State.countHead_mgmt (h : HeadIx) (f : HeadCounters → HeadCounters) : (s.countHead h f).mgmt = s.mgmt := rfl
@[simp] theorem State.countHead_heads (h : HeadIx) (f : HeadCounters → HeadCounters) : (s.countHead h f).heads = put s.heads h { look s.heads h with cnt := f (look s.heads h).cnt } := rfl
@[simp] theorem State.countHead_trunk (h : HeadIx) (f : HeadCounters → HeadCounters) : (s.countHead h f).trunk = s.trunk := rfl
@[simp] theorem State.countHead_cls (h : HeadIx) (f : HeadCounters → HeadCounters) : (s.countHead h f).cls = s.cls := rfl
@[simp] theorem State.countHead_terms (h : HeadIx) (f : HeadCounters → HeadCounters) : (s.countHead h f).terms = s.terms := rfl
@[simp] theorem State.countHead_segs (h : HeadIx) (f : HeadCounters → HeadCounters) : (s.countHead h f).segs = s.segs := rfl
@[simp] theorem State.countHead_ho (h : HeadIx) (f : HeadCounters → HeadCounters) : (s.countHead h f).ho = s.ho := rfl
@[simp] theorem State.countHead_crane (h : HeadIx) (f : HeadCounters → HeadCounters) : (s.countHead h f).crane = s.crane := rfl
@[simp] theorem State.countHead_cov (h : HeadIx) (f : HeadCounters → HeadCounters) : (s.countHead h f).cov = s.cov := rfl
@[simp] theorem State.countHead_loops (h : HeadIx) (f : HeadCounters → HeadCounters) : (s.countHead h f).loops = s.loops := rfl
@[simp] theorem State.countHead_reef (h : HeadIx) (f : HeadCounters → HeadCounters) : (s.countHead h f).reef = s.reef := rfl
@[simp] theorem State.countHead_exp (h : HeadIx) (f : HeadCounters → HeadCounters) : (s.countHead h f).exp = s.exp := rfl

@[simp] theorem State.countTrunk_pending (f : TrunkCounters → TrunkCounters) : (s.countTrunk f).pending = s.pending := rfl
@[simp] theorem State.countTrunk_choice (f : TrunkCounters → TrunkCounters) : (s.countTrunk f).choice = s.choice := rfl
@[simp] theorem State.countTrunk_inReset (f : TrunkCounters → TrunkCounters) : (s.countTrunk f).inReset = s.inReset := rfl
@[simp] theorem State.countTrunk_uptime (f : TrunkCounters → TrunkCounters) : (s.countTrunk f).uptime = s.uptime := rfl
@[simp] theorem State.countTrunk_node (f : TrunkCounters → TrunkCounters) : (s.countTrunk f).node = s.node := rfl
@[simp] theorem State.countTrunk_part (f : TrunkCounters → TrunkCounters) : (s.countTrunk f).part = s.part := rfl
@[simp] theorem State.countTrunk_mgmt (f : TrunkCounters → TrunkCounters) : (s.countTrunk f).mgmt = s.mgmt := rfl
@[simp] theorem State.countTrunk_heads (f : TrunkCounters → TrunkCounters) : (s.countTrunk f).heads = s.heads := rfl
@[simp] theorem State.countTrunk_trunk (f : TrunkCounters → TrunkCounters) : (s.countTrunk f).trunk = { s.trunk with cnt := f s.trunk.cnt } := rfl
@[simp] theorem State.countTrunk_cls (f : TrunkCounters → TrunkCounters) : (s.countTrunk f).cls = s.cls := rfl
@[simp] theorem State.countTrunk_terms (f : TrunkCounters → TrunkCounters) : (s.countTrunk f).terms = s.terms := rfl
@[simp] theorem State.countTrunk_segs (f : TrunkCounters → TrunkCounters) : (s.countTrunk f).segs = s.segs := rfl
@[simp] theorem State.countTrunk_ho (f : TrunkCounters → TrunkCounters) : (s.countTrunk f).ho = s.ho := rfl
@[simp] theorem State.countTrunk_crane (f : TrunkCounters → TrunkCounters) : (s.countTrunk f).crane = s.crane := rfl
@[simp] theorem State.countTrunk_cov (f : TrunkCounters → TrunkCounters) : (s.countTrunk f).cov = s.cov := rfl
@[simp] theorem State.countTrunk_loops (f : TrunkCounters → TrunkCounters) : (s.countTrunk f).loops = s.loops := rfl
@[simp] theorem State.countTrunk_reef (f : TrunkCounters → TrunkCounters) : (s.countTrunk f).reef = s.reef := rfl
@[simp] theorem State.countTrunk_exp (f : TrunkCounters → TrunkCounters) : (s.countTrunk f).exp = s.exp := rfl

@[simp] theorem State.countMgmt_pending (f : MgmtCounters → MgmtCounters) : (s.countMgmt f).pending = s.pending := rfl
@[simp] theorem State.countMgmt_choice (f : MgmtCounters → MgmtCounters) : (s.countMgmt f).choice = s.choice := rfl
@[simp] theorem State.countMgmt_inReset (f : MgmtCounters → MgmtCounters) : (s.countMgmt f).inReset = s.inReset := rfl
@[simp] theorem State.countMgmt_uptime (f : MgmtCounters → MgmtCounters) : (s.countMgmt f).uptime = s.uptime := rfl
@[simp] theorem State.countMgmt_node (f : MgmtCounters → MgmtCounters) : (s.countMgmt f).node = s.node := rfl
@[simp] theorem State.countMgmt_part (f : MgmtCounters → MgmtCounters) : (s.countMgmt f).part = s.part := rfl
@[simp] theorem State.countMgmt_mgmt (f : MgmtCounters → MgmtCounters) : (s.countMgmt f).mgmt = { s.mgmt with cnt := f s.mgmt.cnt } := rfl
@[simp] theorem State.countMgmt_heads (f : MgmtCounters → MgmtCounters) : (s.countMgmt f).heads = s.heads := rfl
@[simp] theorem State.countMgmt_trunk (f : MgmtCounters → MgmtCounters) : (s.countMgmt f).trunk = s.trunk := rfl
@[simp] theorem State.countMgmt_cls (f : MgmtCounters → MgmtCounters) : (s.countMgmt f).cls = s.cls := rfl
@[simp] theorem State.countMgmt_terms (f : MgmtCounters → MgmtCounters) : (s.countMgmt f).terms = s.terms := rfl
@[simp] theorem State.countMgmt_segs (f : MgmtCounters → MgmtCounters) : (s.countMgmt f).segs = s.segs := rfl
@[simp] theorem State.countMgmt_ho (f : MgmtCounters → MgmtCounters) : (s.countMgmt f).ho = s.ho := rfl
@[simp] theorem State.countMgmt_crane (f : MgmtCounters → MgmtCounters) : (s.countMgmt f).crane = s.crane := rfl
@[simp] theorem State.countMgmt_cov (f : MgmtCounters → MgmtCounters) : (s.countMgmt f).cov = s.cov := rfl
@[simp] theorem State.countMgmt_loops (f : MgmtCounters → MgmtCounters) : (s.countMgmt f).loops = s.loops := rfl
@[simp] theorem State.countMgmt_reef (f : MgmtCounters → MgmtCounters) : (s.countMgmt f).reef = s.reef := rfl
@[simp] theorem State.countMgmt_exp (f : MgmtCounters → MgmtCounters) : (s.countMgmt f).exp = s.exp := rfl

@[simp] theorem State.countCov_pending (f : CoverageCounters → CoverageCounters) : (s.countCov f).pending = s.pending := rfl
@[simp] theorem State.countCov_choice (f : CoverageCounters → CoverageCounters) : (s.countCov f).choice = s.choice := rfl
@[simp] theorem State.countCov_inReset (f : CoverageCounters → CoverageCounters) : (s.countCov f).inReset = s.inReset := rfl
@[simp] theorem State.countCov_uptime (f : CoverageCounters → CoverageCounters) : (s.countCov f).uptime = s.uptime := rfl
@[simp] theorem State.countCov_node (f : CoverageCounters → CoverageCounters) : (s.countCov f).node = s.node := rfl
@[simp] theorem State.countCov_part (f : CoverageCounters → CoverageCounters) : (s.countCov f).part = s.part := rfl
@[simp] theorem State.countCov_mgmt (f : CoverageCounters → CoverageCounters) : (s.countCov f).mgmt = s.mgmt := rfl
@[simp] theorem State.countCov_heads (f : CoverageCounters → CoverageCounters) : (s.countCov f).heads = s.heads := rfl
@[simp] theorem State.countCov_trunk (f : CoverageCounters → CoverageCounters) : (s.countCov f).trunk = s.trunk := rfl
@[simp] theorem State.countCov_cls (f : CoverageCounters → CoverageCounters) : (s.countCov f).cls = s.cls := rfl
@[simp] theorem State.countCov_terms (f : CoverageCounters → CoverageCounters) : (s.countCov f).terms = s.terms := rfl
@[simp] theorem State.countCov_segs (f : CoverageCounters → CoverageCounters) : (s.countCov f).segs = s.segs := rfl
@[simp] theorem State.countCov_ho (f : CoverageCounters → CoverageCounters) : (s.countCov f).ho = s.ho := rfl
@[simp] theorem State.countCov_crane (f : CoverageCounters → CoverageCounters) : (s.countCov f).crane = s.crane := rfl
@[simp] theorem State.countCov_cov (f : CoverageCounters → CoverageCounters) : (s.countCov f).cov = { s.cov with cnt := f s.cov.cnt } := rfl
@[simp] theorem State.countCov_loops (f : CoverageCounters → CoverageCounters) : (s.countCov f).loops = s.loops := rfl
@[simp] theorem State.countCov_reef (f : CoverageCounters → CoverageCounters) : (s.countCov f).reef = s.reef := rfl
@[simp] theorem State.countCov_exp (f : CoverageCounters → CoverageCounters) : (s.countCov f).exp = s.exp := rfl

@[simp] theorem State.countReef_pending (f : ReeferCounters → ReeferCounters) : (s.countReef f).pending = s.pending := rfl
@[simp] theorem State.countReef_choice (f : ReeferCounters → ReeferCounters) : (s.countReef f).choice = s.choice := rfl
@[simp] theorem State.countReef_inReset (f : ReeferCounters → ReeferCounters) : (s.countReef f).inReset = s.inReset := rfl
@[simp] theorem State.countReef_uptime (f : ReeferCounters → ReeferCounters) : (s.countReef f).uptime = s.uptime := rfl
@[simp] theorem State.countReef_node (f : ReeferCounters → ReeferCounters) : (s.countReef f).node = s.node := rfl
@[simp] theorem State.countReef_part (f : ReeferCounters → ReeferCounters) : (s.countReef f).part = s.part := rfl
@[simp] theorem State.countReef_mgmt (f : ReeferCounters → ReeferCounters) : (s.countReef f).mgmt = s.mgmt := rfl
@[simp] theorem State.countReef_heads (f : ReeferCounters → ReeferCounters) : (s.countReef f).heads = s.heads := rfl
@[simp] theorem State.countReef_trunk (f : ReeferCounters → ReeferCounters) : (s.countReef f).trunk = s.trunk := rfl
@[simp] theorem State.countReef_cls (f : ReeferCounters → ReeferCounters) : (s.countReef f).cls = s.cls := rfl
@[simp] theorem State.countReef_terms (f : ReeferCounters → ReeferCounters) : (s.countReef f).terms = s.terms := rfl
@[simp] theorem State.countReef_segs (f : ReeferCounters → ReeferCounters) : (s.countReef f).segs = s.segs := rfl
@[simp] theorem State.countReef_ho (f : ReeferCounters → ReeferCounters) : (s.countReef f).ho = s.ho := rfl
@[simp] theorem State.countReef_crane (f : ReeferCounters → ReeferCounters) : (s.countReef f).crane = s.crane := rfl
@[simp] theorem State.countReef_cov (f : ReeferCounters → ReeferCounters) : (s.countReef f).cov = s.cov := rfl
@[simp] theorem State.countReef_loops (f : ReeferCounters → ReeferCounters) : (s.countReef f).loops = s.loops := rfl
@[simp] theorem State.countReef_reef (f : ReeferCounters → ReeferCounters) : (s.countReef f).reef = { s.reef with cnt := f s.reef.cnt } := rfl
@[simp] theorem State.countReef_exp (f : ReeferCounters → ReeferCounters) : (s.countReef f).exp = s.exp := rfl

@[simp] theorem State.countExp_pending (f : ExportCounters → ExportCounters) : (s.countExp f).pending = s.pending := rfl
@[simp] theorem State.countExp_choice (f : ExportCounters → ExportCounters) : (s.countExp f).choice = s.choice := rfl
@[simp] theorem State.countExp_inReset (f : ExportCounters → ExportCounters) : (s.countExp f).inReset = s.inReset := rfl
@[simp] theorem State.countExp_uptime (f : ExportCounters → ExportCounters) : (s.countExp f).uptime = s.uptime := rfl
@[simp] theorem State.countExp_node (f : ExportCounters → ExportCounters) : (s.countExp f).node = s.node := rfl
@[simp] theorem State.countExp_part (f : ExportCounters → ExportCounters) : (s.countExp f).part = s.part := rfl
@[simp] theorem State.countExp_mgmt (f : ExportCounters → ExportCounters) : (s.countExp f).mgmt = s.mgmt := rfl
@[simp] theorem State.countExp_heads (f : ExportCounters → ExportCounters) : (s.countExp f).heads = s.heads := rfl
@[simp] theorem State.countExp_trunk (f : ExportCounters → ExportCounters) : (s.countExp f).trunk = s.trunk := rfl
@[simp] theorem State.countExp_cls (f : ExportCounters → ExportCounters) : (s.countExp f).cls = s.cls := rfl
@[simp] theorem State.countExp_terms (f : ExportCounters → ExportCounters) : (s.countExp f).terms = s.terms := rfl
@[simp] theorem State.countExp_segs (f : ExportCounters → ExportCounters) : (s.countExp f).segs = s.segs := rfl
@[simp] theorem State.countExp_ho (f : ExportCounters → ExportCounters) : (s.countExp f).ho = s.ho := rfl
@[simp] theorem State.countExp_crane (f : ExportCounters → ExportCounters) : (s.countExp f).crane = s.crane := rfl
@[simp] theorem State.countExp_cov (f : ExportCounters → ExportCounters) : (s.countExp f).cov = s.cov := rfl
@[simp] theorem State.countExp_loops (f : ExportCounters → ExportCounters) : (s.countExp f).loops = s.loops := rfl
@[simp] theorem State.countExp_reef (f : ExportCounters → ExportCounters) : (s.countExp f).reef = s.reef := rfl
@[simp] theorem State.countExp_exp (f : ExportCounters → ExportCounters) : (s.countExp f).exp = { s.exp with cnt := f s.exp.cnt } := rfl

@[simp] theorem State.setReefer_pending (i : ReeferIx) (r : Option Reefer) : (s.setReefer i r).pending = s.pending := rfl
@[simp] theorem State.setReefer_choice (i : ReeferIx) (r : Option Reefer) : (s.setReefer i r).choice = s.choice := rfl
@[simp] theorem State.setReefer_inReset (i : ReeferIx) (r : Option Reefer) : (s.setReefer i r).inReset = s.inReset := rfl
@[simp] theorem State.setReefer_uptime (i : ReeferIx) (r : Option Reefer) : (s.setReefer i r).uptime = s.uptime := rfl
@[simp] theorem State.setReefer_node (i : ReeferIx) (r : Option Reefer) : (s.setReefer i r).node = s.node := rfl
@[simp] theorem State.setReefer_part (i : ReeferIx) (r : Option Reefer) : (s.setReefer i r).part = s.part := rfl
@[simp] theorem State.setReefer_mgmt (i : ReeferIx) (r : Option Reefer) : (s.setReefer i r).mgmt = s.mgmt := rfl
@[simp] theorem State.setReefer_heads (i : ReeferIx) (r : Option Reefer) : (s.setReefer i r).heads = s.heads := rfl
@[simp] theorem State.setReefer_trunk (i : ReeferIx) (r : Option Reefer) : (s.setReefer i r).trunk = s.trunk := rfl
@[simp] theorem State.setReefer_cls (i : ReeferIx) (r : Option Reefer) : (s.setReefer i r).cls = s.cls := rfl
@[simp] theorem State.setReefer_terms (i : ReeferIx) (r : Option Reefer) : (s.setReefer i r).terms = s.terms := rfl
@[simp] theorem State.setReefer_segs (i : ReeferIx) (r : Option Reefer) : (s.setReefer i r).segs = s.segs := rfl
@[simp] theorem State.setReefer_ho (i : ReeferIx) (r : Option Reefer) : (s.setReefer i r).ho = s.ho := rfl
@[simp] theorem State.setReefer_crane (i : ReeferIx) (r : Option Reefer) : (s.setReefer i r).crane = s.crane := rfl
@[simp] theorem State.setReefer_cov (i : ReeferIx) (r : Option Reefer) : (s.setReefer i r).cov = s.cov := rfl
@[simp] theorem State.setReefer_loops (i : ReeferIx) (r : Option Reefer) : (s.setReefer i r).loops = s.loops := rfl
@[simp] theorem State.setReefer_reef (i : ReeferIx) (r : Option Reefer) : (s.setReefer i r).reef = { s.reef with table := put s.reef.table i r } := rfl
@[simp] theorem State.setReefer_exp (i : ReeferIx) (r : Option Reefer) : (s.setReefer i r).exp = s.exp := rfl

/-! ## Accessors after updates -/

@[simp] theorem State.head_modHead_self (h : HeadIx) (f : Head → Head) : (s.modHead h f).head h = f (s.head h) := by
  simp [State.head]

theorem State.head_modHead_of_ne {h k : HeadIx} (f : Head → Head) (hk : k ≠ h) : (s.modHead h f).head k = s.head k := by
  simp [State.head, look_put_of_ne _ _ hk]

theorem State.head_modHead (h k : HeadIx) (f : Head → Head) :
    (s.modHead h f).head k = if k = h then f (s.head h) else s.head k := by
  simp [State.head, look_put]

@[simp] theorem State.loop_modLoop_self (h : HeadIx) (f : LoopState → LoopState) :
    (s.modLoop h f).loop h = f (s.loop h) := by
  simp [State.loop]

theorem State.loop_modLoop (h k : HeadIx) (f : LoopState → LoopState) :
    (s.modLoop h f).loop k = if k = h then f (s.loop h) else s.loop k := by
  simp [State.loop, look_put]

@[simp] theorem State.term_setTerm_self (i : SlotIx) (t : Option Term) : (s.setTerm i t).term i = t := by
  simp [State.term]

theorem State.term_setTerm (i j : SlotIx) (t : Option Term) :
    (s.setTerm i t).term j = if j = i then t else s.term j := by
  simp [State.term, look_put]

@[simp] theorem State.reefer_setReefer_self (i : ReeferIx) (r : Option Reefer) : (s.setReefer i r).reefer i = r := by
  simp [State.reefer]

theorem State.reefer_setReefer (i j : ReeferIx) (r : Option Reefer) :
    (s.setReefer i r).reefer j = if j = i then r else s.reefer j := by
  simp [State.reefer, look_put]

theorem State.cell_modCell (h k : HeadIx) (g e : SegIx) (f : Cell → Cell) :
    (s.modCell h g f).cell k e = if k = h ∧ e = g then f (s.cell h g) else s.cell k e := by
  unfold State.cell State.modCell
  simp only [State.modCov_cov, look_put]
  by_cases hk : k = h
  · subst hk; by_cases he : e = g <;> simp [he, look_put]
  · simp [hk]

/-! ## Accessors that read one field -/

theorem State.head_congr {s t : State} (e : t.heads = s.heads) (h : HeadIx) : t.head h = s.head h := by
  simp [State.head, e]

theorem State.loop_congr {s t : State} (e : t.loops = s.loops) (h : HeadIx) : t.loop h = s.loop h := by
  simp [State.loop, e]

theorem State.term_congr {s t : State} (e : t.terms = s.terms) (i : SlotIx) : t.term i = s.term i := by
  simp [State.term, e]

theorem State.reefer_congr {s t : State} (e : t.reef.table = s.reef.table) (i : ReeferIx) : t.reefer i = s.reefer i := by
  simp [State.reefer, e]

theorem State.running_iff : s.running = true ↔ s.part = .running := by simp [State.running]

theorem State.standby_iff : s.running = false ↔ s.part = .standby := by
  unfold State.running
  cases s.part <;> decide

end Sys2Proof.Machine
end

