-- ==== Sys2Proof/Laws/Frames.lean ====
section
/-! SUPPORT. What each shared operation leaves unchanged, field by field. -/

namespace Sys2Proof.Machine
open Sys2Proof

variable (s : State)

/-! ### Notices (R163, R56) -/

@[simp] theorem offerNotice_pending (n : Notice) : (offerNotice n s).pending = s.pending := by
  unfold offerNotice; (try dsimp only); (repeat' split) <;> simp
@[simp] theorem offerNotice_choice (n : Notice) : (offerNotice n s).choice = s.choice := by
  unfold offerNotice; (try dsimp only); (repeat' split) <;> simp
@[simp] theorem offerNotice_inReset (n : Notice) : (offerNotice n s).inReset = s.inReset := by
  unfold offerNotice; (try dsimp only); (repeat' split) <;> simp
@[simp] theorem offerNotice_uptime (n : Notice) : (offerNotice n s).uptime = s.uptime := by
  unfold offerNotice; (try dsimp only); (repeat' split) <;> simp
@[simp] theorem offerNotice_node (n : Notice) : (offerNotice n s).node = s.node := by
  unfold offerNotice; (try dsimp only); (repeat' split) <;> simp
@[simp] theorem offerNotice_part (n : Notice) : (offerNotice n s).part = s.part := by
  unfold offerNotice; (try dsimp only); (repeat' split) <;> simp
@[simp] theorem offerNotice_mgmt (n : Notice) : (offerNotice n s).mgmt = s.mgmt := by
  unfold offerNotice; (try dsimp only); (repeat' split) <;> simp
@[simp] theorem offerNotice_heads (n : Notice) : (offerNotice n s).heads = s.heads := by
  unfold offerNotice; (try dsimp only); (repeat' split) <;> simp
@[simp] theorem offerNotice_cls (n : Notice) : (offerNotice n s).cls = s.cls := by
  unfold offerNotice; (try dsimp only); (repeat' split) <;> simp
@[simp] theorem offerNotice_terms (n : Notice) : (offerNotice n s).terms = s.terms := by
  unfold offerNotice; (try dsimp only); (repeat' split) <;> simp
@[simp] theorem offerNotice_segs (n : Notice) : (offerNotice n s).segs = s.segs := by
  unfold offerNotice; (try dsimp only); (repeat' split) <;> simp
@[simp] theorem offerNotice_ho (n : Notice) : (offerNotice n s).ho = s.ho := by
  unfold offerNotice; (try dsimp only); (repeat' split) <;> simp
@[simp] theorem offerNotice_crane (n : Notice) : (offerNotice n s).crane = s.crane := by
  unfold offerNotice; (try dsimp only); (repeat' split) <;> simp
@[simp] theorem offerNotice_cov (n : Notice) : (offerNotice n s).cov = s.cov := by
  unfold offerNotice; (try dsimp only); (repeat' split) <;> simp
@[simp] theorem offerNotice_loops (n : Notice) : (offerNotice n s).loops = s.loops := by
  unfold offerNotice; (try dsimp only); (repeat' split) <;> simp
@[simp] theorem offerNotice_reef (n : Notice) : (offerNotice n s).reef = s.reef := by
  unfold offerNotice; (try dsimp only); (repeat' split) <;> simp
@[simp] theorem offerNotice_exp (n : Notice) : (offerNotice n s).exp = s.exp := by
  unfold offerNotice; (try dsimp only); (repeat' split) <;> simp

/-! ### A notice raised touches the management and trunk state alone -/

@[simp] theorem raise_pending (k : NoticeKind) (u : Nat) (d : BitVec 16) : (raise k u d s).pending = s.pending := by
  unfold raise; (try dsimp only); (repeat' split) <;> simp
@[simp] theorem raise_choice (k : NoticeKind) (u : Nat) (d : BitVec 16) : (raise k u d s).choice = s.choice := by
  unfold raise; (try dsimp only); (repeat' split) <;> simp
@[simp] theorem raise_inReset (k : NoticeKind) (u : Nat) (d : BitVec 16) : (raise k u d s).inReset = s.inReset := by
  unfold raise; (try dsimp only); (repeat' split) <;> simp
@[simp] theorem raise_uptime (k : NoticeKind) (u : Nat) (d : BitVec 16) : (raise k u d s).uptime = s.uptime := by
  unfold raise; (try dsimp only); (repeat' split) <;> simp
@[simp] theorem raise_node (k : NoticeKind) (u : Nat) (d : BitVec 16) : (raise k u d s).node = s.node := by
  unfold raise; (try dsimp only); (repeat' split) <;> simp
@[simp] theorem raise_part (k : NoticeKind) (u : Nat) (d : BitVec 16) : (raise k u d s).part = s.part := by
  unfold raise; (try dsimp only); (repeat' split) <;> simp
@[simp] theorem raise_heads (k : NoticeKind) (u : Nat) (d : BitVec 16) : (raise k u d s).heads = s.heads := by
  unfold raise; (try dsimp only); (repeat' split) <;> simp
@[simp] theorem raise_cls (k : NoticeKind) (u : Nat) (d : BitVec 16) : (raise k u d s).cls = s.cls := by
  unfold raise; (try dsimp only); (repeat' split) <;> simp
@[simp] theorem raise_terms (k : NoticeKind) (u : Nat) (d : BitVec 16) : (raise k u d s).terms = s.terms := by
  unfold raise; (try dsimp only); (repeat' split) <;> simp
@[simp] theorem raise_segs (k : NoticeKind) (u : Nat) (d : BitVec 16) : (raise k u d s).segs = s.segs := by
  unfold raise; (try dsimp only); (repeat' split) <;> simp
@[simp] theorem raise_ho (k : NoticeKind) (u : Nat) (d : BitVec 16) : (raise k u d s).ho = s.ho := by
  unfold raise; (try dsimp only); (repeat' split) <;> simp
@[simp] theorem raise_crane (k : NoticeKind) (u : Nat) (d : BitVec 16) : (raise k u d s).crane = s.crane := by
  unfold raise; (try dsimp only); (repeat' split) <;> simp
@[simp] theorem raise_cov (k : NoticeKind) (u : Nat) (d : BitVec 16) : (raise k u d s).cov = s.cov := by
  unfold raise; (try dsimp only); (repeat' split) <;> simp
@[simp] theorem raise_loops (k : NoticeKind) (u : Nat) (d : BitVec 16) : (raise k u d s).loops = s.loops := by
  unfold raise; (try dsimp only); (repeat' split) <;> simp
@[simp] theorem raise_reef (k : NoticeKind) (u : Nat) (d : BitVec 16) : (raise k u d s).reef = s.reef := by
  unfold raise; (try dsimp only); (repeat' split) <;> simp
@[simp] theorem raise_exp (k : NoticeKind) (u : Nat) (d : BitVec 16) : (raise k u d s).exp = s.exp := by
  unfold raise; (try dsimp only); (repeat' split) <;> simp

/-! ### Replies -/

@[simp] theorem answer_pending (a : Asker) (st : Status) (d : ReplyData) : (answer a st d s).pending = s.pending := by
  unfold answer; (try dsimp only); (repeat' split) <;> simp
@[simp] theorem answer_choice (a : Asker) (st : Status) (d : ReplyData) : (answer a st d s).choice = s.choice := by
  unfold answer; (try dsimp only); (repeat' split) <;> simp
@[simp] theorem answer_inReset (a : Asker) (st : Status) (d : ReplyData) : (answer a st d s).inReset = s.inReset := by
  unfold answer; (try dsimp only); (repeat' split) <;> simp
@[simp] theorem answer_uptime (a : Asker) (st : Status) (d : ReplyData) : (answer a st d s).uptime = s.uptime := by
  unfold answer; (try dsimp only); (repeat' split) <;> simp
@[simp] theorem answer_node (a : Asker) (st : Status) (d : ReplyData) : (answer a st d s).node = s.node := by
  unfold answer; (try dsimp only); (repeat' split) <;> simp
@[simp] theorem answer_part (a : Asker) (st : Status) (d : ReplyData) : (answer a st d s).part = s.part := by
  unfold answer; (try dsimp only); (repeat' split) <;> simp
@[simp] theorem answer_mgmt (a : Asker) (st : Status) (d : ReplyData) : (answer a st d s).mgmt = s.mgmt := by
  unfold answer; (try dsimp only); (repeat' split) <;> simp
@[simp] theorem answer_heads (a : Asker) (st : Status) (d : ReplyData) : (answer a st d s).heads = s.heads := by
  unfold answer; (try dsimp only); (repeat' split) <;> simp
@[simp] theorem answer_cls (a : Asker) (st : Status) (d : ReplyData) : (answer a st d s).cls = s.cls := by
  unfold answer; (try dsimp only); (repeat' split) <;> simp
@[simp] theorem answer_terms (a : Asker) (st : Status) (d : ReplyData) : (answer a st d s).terms = s.terms := by
  unfold answer; (try dsimp only); (repeat' split) <;> simp
@[simp] theorem answer_segs (a : Asker) (st : Status) (d : ReplyData) : (answer a st d s).segs = s.segs := by
  unfold answer; (try dsimp only); (repeat' split) <;> simp
@[simp] theorem answer_ho (a : Asker) (st : Status) (d : ReplyData) : (answer a st d s).ho = s.ho := by
  unfold answer; (try dsimp only); (repeat' split) <;> simp
@[simp] theorem answer_crane (a : Asker) (st : Status) (d : ReplyData) : (answer a st d s).crane = s.crane := by
  unfold answer; (try dsimp only); (repeat' split) <;> simp
@[simp] theorem answer_cov (a : Asker) (st : Status) (d : ReplyData) : (answer a st d s).cov = s.cov := by
  unfold answer; (try dsimp only); (repeat' split) <;> simp
@[simp] theorem answer_loops (a : Asker) (st : Status) (d : ReplyData) : (answer a st d s).loops = s.loops := by
  unfold answer; (try dsimp only); (repeat' split) <;> simp
@[simp] theorem answer_reef (a : Asker) (st : Status) (d : ReplyData) : (answer a st d s).reef = s.reef := by
  unfold answer; (try dsimp only); (repeat' split) <;> simp
@[simp] theorem answer_exp (a : Asker) (st : Status) (d : ReplyData) : (answer a st d s).exp = s.exp := by
  unfold answer; (try dsimp only); (repeat' split) <;> simp

/-! ### The control queue (Table 2-5) -/

@[simp] theorem offerCtl_pending (h : HeadIx) (f : CtlFrame) : (offerCtl h f s).pending = s.pending := by
  unfold offerCtl; (try dsimp only); (repeat' split) <;> simp
@[simp] theorem offerCtl_choice (h : HeadIx) (f : CtlFrame) : (offerCtl h f s).choice = s.choice := by
  unfold offerCtl; (try dsimp only); (repeat' split) <;> simp
@[simp] theorem offerCtl_inReset (h : HeadIx) (f : CtlFrame) : (offerCtl h f s).inReset = s.inReset := by
  unfold offerCtl; (try dsimp only); (repeat' split) <;> simp
@[simp] theorem offerCtl_uptime (h : HeadIx) (f : CtlFrame) : (offerCtl h f s).uptime = s.uptime := by
  unfold offerCtl; (try dsimp only); (repeat' split) <;> simp
@[simp] theorem offerCtl_node (h : HeadIx) (f : CtlFrame) : (offerCtl h f s).node = s.node := by
  unfold offerCtl; (try dsimp only); (repeat' split) <;> simp
@[simp] theorem offerCtl_part (h : HeadIx) (f : CtlFrame) : (offerCtl h f s).part = s.part := by
  unfold offerCtl; (try dsimp only); (repeat' split) <;> simp
@[simp] theorem offerCtl_mgmt (h : HeadIx) (f : CtlFrame) : (offerCtl h f s).mgmt = s.mgmt := by
  unfold offerCtl; (try dsimp only); (repeat' split) <;> simp
@[simp] theorem offerCtl_trunk (h : HeadIx) (f : CtlFrame) : (offerCtl h f s).trunk = s.trunk := by
  unfold offerCtl; (try dsimp only); (repeat' split) <;> simp
@[simp] theorem offerCtl_cls (h : HeadIx) (f : CtlFrame) : (offerCtl h f s).cls = s.cls := by
  unfold offerCtl; (try dsimp only); (repeat' split) <;> simp
@[simp] theorem offerCtl_terms (h : HeadIx) (f : CtlFrame) : (offerCtl h f s).terms = s.terms := by
  unfold offerCtl; (try dsimp only); (repeat' split) <;> simp
@[simp] theorem offerCtl_segs (h : HeadIx) (f : CtlFrame) : (offerCtl h f s).segs = s.segs := by
  unfold offerCtl; (try dsimp only); (repeat' split) <;> simp
@[simp] theorem offerCtl_ho (h : HeadIx) (f : CtlFrame) : (offerCtl h f s).ho = s.ho := by
  unfold offerCtl; (try dsimp only); (repeat' split) <;> simp
@[simp] theorem offerCtl_crane (h : HeadIx) (f : CtlFrame) : (offerCtl h f s).crane = s.crane := by
  unfold offerCtl; (try dsimp only); (repeat' split) <;> simp
@[simp] theorem offerCtl_cov (h : HeadIx) (f : CtlFrame) : (offerCtl h f s).cov = s.cov := by
  unfold offerCtl; (try dsimp only); (repeat' split) <;> simp
@[simp] theorem offerCtl_loops (h : HeadIx) (f : CtlFrame) : (offerCtl h f s).loops = s.loops := by
  unfold offerCtl; (try dsimp only); (repeat' split) <;> simp
@[simp] theorem offerCtl_reef (h : HeadIx) (f : CtlFrame) : (offerCtl h f s).reef = s.reef := by
  unfold offerCtl; (try dsimp only); (repeat' split) <;> simp
@[simp] theorem offerCtl_exp (h : HeadIx) (f : CtlFrame) : (offerCtl h f s).exp = s.exp := by
  unfold offerCtl; (try dsimp only); (repeat' split) <;> simp

/-! ### The head crane queue -/

@[simp] theorem offerHeadCrane_pending (h : HeadIx) (f : BerthFrame) : (offerHeadCrane h f s).pending = s.pending := by
  unfold offerHeadCrane; (try dsimp only); (repeat' split) <;> simp
@[simp] theorem offerHeadCrane_choice (h : HeadIx) (f : BerthFrame) : (offerHeadCrane h f s).choice = s.choice := by
  unfold offerHeadCrane; (try dsimp only); (repeat' split) <;> simp
@[simp] theorem offerHeadCrane_inReset (h : HeadIx) (f : BerthFrame) : (offerHeadCrane h f s).inReset = s.inReset := by
  unfold offerHeadCrane; (try dsimp only); (repeat' split) <;> simp
@[simp] theorem offerHeadCrane_uptime (h : HeadIx) (f : BerthFrame) : (offerHeadCrane h f s).uptime = s.uptime := by
  unfold offerHeadCrane; (try dsimp only); (repeat' split) <;> simp
@[simp] theorem offerHeadCrane_node (h : HeadIx) (f : BerthFrame) : (offerHeadCrane h f s).node = s.node := by
  unfold offerHeadCrane; (try dsimp only); (repeat' split) <;> simp
@[simp] theorem offerHeadCrane_part (h : HeadIx) (f : BerthFrame) : (offerHeadCrane h f s).part = s.part := by
  unfold offerHeadCrane; (try dsimp only); (repeat' split) <;> simp
@[simp] theorem offerHeadCrane_cls (h : HeadIx) (f : BerthFrame) : (offerHeadCrane h f s).cls = s.cls := by
  unfold offerHeadCrane; (try dsimp only); (repeat' split) <;> simp
@[simp] theorem offerHeadCrane_terms (h : HeadIx) (f : BerthFrame) : (offerHeadCrane h f s).terms = s.terms := by
  unfold offerHeadCrane; (try dsimp only); (repeat' split) <;> simp
@[simp] theorem offerHeadCrane_segs (h : HeadIx) (f : BerthFrame) : (offerHeadCrane h f s).segs = s.segs := by
  unfold offerHeadCrane; (try dsimp only); (repeat' split) <;> simp
@[simp] theorem offerHeadCrane_ho (h : HeadIx) (f : BerthFrame) : (offerHeadCrane h f s).ho = s.ho := by
  unfold offerHeadCrane; (try dsimp only); (repeat' split) <;> simp
@[simp] theorem offerHeadCrane_crane (h : HeadIx) (f : BerthFrame) : (offerHeadCrane h f s).crane = s.crane := by
  unfold offerHeadCrane; (try dsimp only); (repeat' split) <;> simp
@[simp] theorem offerHeadCrane_cov (h : HeadIx) (f : BerthFrame) : (offerHeadCrane h f s).cov = s.cov := by
  unfold offerHeadCrane; (try dsimp only); (repeat' split) <;> simp
@[simp] theorem offerHeadCrane_loops (h : HeadIx) (f : BerthFrame) : (offerHeadCrane h f s).loops = s.loops := by
  unfold offerHeadCrane; (try dsimp only); (repeat' split) <;> simp
@[simp] theorem offerHeadCrane_reef (h : HeadIx) (f : BerthFrame) : (offerHeadCrane h f s).reef = s.reef := by
  unfold offerHeadCrane; (try dsimp only); (repeat' split) <;> simp
@[simp] theorem offerHeadCrane_exp (h : HeadIx) (f : BerthFrame) : (offerHeadCrane h f s).exp = s.exp := by
  unfold offerHeadCrane; (try dsimp only); (repeat' split) <;> simp

/-! ### The head normal queue -/

@[simp] theorem offerHeadNormal_pending (h : HeadIx) (f : BerthFrame) : (offerHeadNormal h f s).pending = s.pending := by
  unfold offerHeadNormal; (try dsimp only); (repeat' split) <;> simp
@[simp] theorem offerHeadNormal_choice (h : HeadIx) (f : BerthFrame) : (offerHeadNormal h f s).choice = s.choice := by
  unfold offerHeadNormal; (try dsimp only); (repeat' split) <;> simp
@[simp] theorem offerHeadNormal_inReset (h : HeadIx) (f : BerthFrame) : (offerHeadNormal h f s).inReset = s.inReset := by
  unfold offerHeadNormal; (try dsimp only); (repeat' split) <;> simp
@[simp] theorem offerHeadNormal_uptime (h : HeadIx) (f : BerthFrame) : (offerHeadNormal h f s).uptime = s.uptime := by
  unfold offerHeadNormal; (try dsimp only); (repeat' split) <;> simp
@[simp] theorem offerHeadNormal_node (h : HeadIx) (f : BerthFrame) : (offerHeadNormal h f s).node = s.node := by
  unfold offerHeadNormal; (try dsimp only); (repeat' split) <;> simp
@[simp] theorem offerHeadNormal_part (h : HeadIx) (f : BerthFrame) : (offerHeadNormal h f s).part = s.part := by
  unfold offerHeadNormal; (try dsimp only); (repeat' split) <;> simp
@[simp] theorem offerHeadNormal_mgmt (h : HeadIx) (f : BerthFrame) : (offerHeadNormal h f s).mgmt = s.mgmt := by
  unfold offerHeadNormal; (try dsimp only); (repeat' split) <;> simp
@[simp] theorem offerHeadNormal_trunk (h : HeadIx) (f : BerthFrame) : (offerHeadNormal h f s).trunk = s.trunk := by
  unfold offerHeadNormal; (try dsimp only); (repeat' split) <;> simp
@[simp] theorem offerHeadNormal_cls (h : HeadIx) (f : BerthFrame) : (offerHeadNormal h f s).cls = s.cls := by
  unfold offerHeadNormal; (try dsimp only); (repeat' split) <;> simp
@[simp] theorem offerHeadNormal_terms (h : HeadIx) (f : BerthFrame) : (offerHeadNormal h f s).terms = s.terms := by
  unfold offerHeadNormal; (try dsimp only); (repeat' split) <;> simp
@[simp] theorem offerHeadNormal_segs (h : HeadIx) (f : BerthFrame) : (offerHeadNormal h f s).segs = s.segs := by
  unfold offerHeadNormal; (try dsimp only); (repeat' split) <;> simp
@[simp] theorem offerHeadNormal_ho (h : HeadIx) (f : BerthFrame) : (offerHeadNormal h f s).ho = s.ho := by
  unfold offerHeadNormal; (try dsimp only); (repeat' split) <;> simp
@[simp] theorem offerHeadNormal_crane (h : HeadIx) (f : BerthFrame) : (offerHeadNormal h f s).crane = s.crane := by
  unfold offerHeadNormal; (try dsimp only); (repeat' split) <;> simp
@[simp] theorem offerHeadNormal_cov (h : HeadIx) (f : BerthFrame) : (offerHeadNormal h f s).cov = s.cov := by
  unfold offerHeadNormal; (try dsimp only); (repeat' split) <;> simp
@[simp] theorem offerHeadNormal_loops (h : HeadIx) (f : BerthFrame) : (offerHeadNormal h f s).loops = s.loops := by
  unfold offerHeadNormal; (try dsimp only); (repeat' split) <;> simp
@[simp] theorem offerHeadNormal_reef (h : HeadIx) (f : BerthFrame) : (offerHeadNormal h f s).reef = s.reef := by
  unfold offerHeadNormal; (try dsimp only); (repeat' split) <;> simp
@[simp] theorem offerHeadNormal_exp (h : HeadIx) (f : BerthFrame) : (offerHeadNormal h f s).exp = s.exp := by
  unfold offerHeadNormal; (try dsimp only); (repeat' split) <;> simp

/-! ### A flush (R41) -/

@[simp] theorem flush_pending (h : HeadIx) : (flush h s).pending = s.pending := by
  unfold flush; (try dsimp only); (repeat' split) <;> simp
@[simp] theorem flush_choice (h : HeadIx) : (flush h s).choice = s.choice := by
  unfold flush; (try dsimp only); (repeat' split) <;> simp
@[simp] theorem flush_inReset (h : HeadIx) : (flush h s).inReset = s.inReset := by
  unfold flush; (try dsimp only); (repeat' split) <;> simp
@[simp] theorem flush_uptime (h : HeadIx) : (flush h s).uptime = s.uptime := by
  unfold flush; (try dsimp only); (repeat' split) <;> simp
@[simp] theorem flush_node (h : HeadIx) : (flush h s).node = s.node := by
  unfold flush; (try dsimp only); (repeat' split) <;> simp
@[simp] theorem flush_part (h : HeadIx) : (flush h s).part = s.part := by
  unfold flush; (try dsimp only); (repeat' split) <;> simp
@[simp] theorem flush_mgmt (h : HeadIx) : (flush h s).mgmt = s.mgmt := by
  unfold flush; (try dsimp only); (repeat' split) <;> simp
@[simp] theorem flush_trunk (h : HeadIx) : (flush h s).trunk = s.trunk := by
  unfold flush; (try dsimp only); (repeat' split) <;> simp
@[simp] theorem flush_cls (h : HeadIx) : (flush h s).cls = s.cls := by
  unfold flush; (try dsimp only); (repeat' split) <;> simp
@[simp] theorem flush_terms (h : HeadIx) : (flush h s).terms = s.terms := by
  unfold flush; (try dsimp only); (repeat' split) <;> simp
@[simp] theorem flush_segs (h : HeadIx) : (flush h s).segs = s.segs := by
  unfold flush; (try dsimp only); (repeat' split) <;> simp
@[simp] theorem flush_ho (h : HeadIx) : (flush h s).ho = s.ho := by
  unfold flush; (try dsimp only); (repeat' split) <;> simp
@[simp] theorem flush_crane (h : HeadIx) : (flush h s).crane = s.crane := by
  unfold flush; (try dsimp only); (repeat' split) <;> simp
@[simp] theorem flush_cov (h : HeadIx) : (flush h s).cov = s.cov := by
  unfold flush; (try dsimp only); (repeat' split) <;> simp
@[simp] theorem flush_reef (h : HeadIx) : (flush h s).reef = s.reef := by
  unfold flush; (try dsimp only); (repeat' split) <;> simp
@[simp] theorem flush_exp (h : HeadIx) : (flush h s).exp = s.exp := by
  unfold flush; (try dsimp only); (repeat' split) <;> simp

/-! ### The trunk crane uplink queue -/

@[simp] theorem offerTrunkCrane_pending (f : BerthFrame) : (offerTrunkCrane f s).pending = s.pending := by
  unfold offerTrunkCrane; (try dsimp only); (repeat' split) <;> simp
@[simp] theorem offerTrunkCrane_choice (f : BerthFrame) : (offerTrunkCrane f s).choice = s.choice := by
  unfold offerTrunkCrane; (try dsimp only); (repeat' split) <;> simp
@[simp] theorem offerTrunkCrane_inReset (f : BerthFrame) : (offerTrunkCrane f s).inReset = s.inReset := by
  unfold offerTrunkCrane; (try dsimp only); (repeat' split) <;> simp
@[simp] theorem offerTrunkCrane_uptime (f : BerthFrame) : (offerTrunkCrane f s).uptime = s.uptime := by
  unfold offerTrunkCrane; (try dsimp only); (repeat' split) <;> simp
@[simp] theorem offerTrunkCrane_node (f : BerthFrame) : (offerTrunkCrane f s).node = s.node := by
  unfold offerTrunkCrane; (try dsimp only); (repeat' split) <;> simp
@[simp] theorem offerTrunkCrane_part (f : BerthFrame) : (offerTrunkCrane f s).part = s.part := by
  unfold offerTrunkCrane; (try dsimp only); (repeat' split) <;> simp
@[simp] theorem offerTrunkCrane_heads (f : BerthFrame) : (offerTrunkCrane f s).heads = s.heads := by
  unfold offerTrunkCrane; (try dsimp only); (repeat' split) <;> simp
@[simp] theorem offerTrunkCrane_cls (f : BerthFrame) : (offerTrunkCrane f s).cls = s.cls := by
  unfold offerTrunkCrane; (try dsimp only); (repeat' split) <;> simp
@[simp] theorem offerTrunkCrane_terms (f : BerthFrame) : (offerTrunkCrane f s).terms = s.terms := by
  unfold offerTrunkCrane; (try dsimp only); (repeat' split) <;> simp
@[simp] theorem offerTrunkCrane_segs (f : BerthFrame) : (offerTrunkCrane f s).segs = s.segs := by
  unfold offerTrunkCrane; (try dsimp only); (repeat' split) <;> simp
@[simp] theorem offerTrunkCrane_ho (f : BerthFrame) : (offerTrunkCrane f s).ho = s.ho := by
  unfold offerTrunkCrane; (try dsimp only); (repeat' split) <;> simp
@[simp] theorem offerTrunkCrane_crane (f : BerthFrame) : (offerTrunkCrane f s).crane = s.crane := by
  unfold offerTrunkCrane; (try dsimp only); (repeat' split) <;> simp
@[simp] theorem offerTrunkCrane_cov (f : BerthFrame) : (offerTrunkCrane f s).cov = s.cov := by
  unfold offerTrunkCrane; (try dsimp only); (repeat' split) <;> simp
@[simp] theorem offerTrunkCrane_loops (f : BerthFrame) : (offerTrunkCrane f s).loops = s.loops := by
  unfold offerTrunkCrane; (try dsimp only); (repeat' split) <;> simp
@[simp] theorem offerTrunkCrane_reef (f : BerthFrame) : (offerTrunkCrane f s).reef = s.reef := by
  unfold offerTrunkCrane; (try dsimp only); (repeat' split) <;> simp
@[simp] theorem offerTrunkCrane_exp (f : BerthFrame) : (offerTrunkCrane f s).exp = s.exp := by
  unfold offerTrunkCrane; (try dsimp only); (repeat' split) <;> simp

/-! ### The trunk normal uplink queue -/

@[simp] theorem offerTrunkNormal_pending (f : BerthFrame) : (offerTrunkNormal f s).pending = s.pending := by
  unfold offerTrunkNormal; (try dsimp only); (repeat' split) <;> simp
@[simp] theorem offerTrunkNormal_choice (f : BerthFrame) : (offerTrunkNormal f s).choice = s.choice := by
  unfold offerTrunkNormal; (try dsimp only); (repeat' split) <;> simp
@[simp] theorem offerTrunkNormal_inReset (f : BerthFrame) : (offerTrunkNormal f s).inReset = s.inReset := by
  unfold offerTrunkNormal; (try dsimp only); (repeat' split) <;> simp
@[simp] theorem offerTrunkNormal_uptime (f : BerthFrame) : (offerTrunkNormal f s).uptime = s.uptime := by
  unfold offerTrunkNormal; (try dsimp only); (repeat' split) <;> simp
@[simp] theorem offerTrunkNormal_node (f : BerthFrame) : (offerTrunkNormal f s).node = s.node := by
  unfold offerTrunkNormal; (try dsimp only); (repeat' split) <;> simp
@[simp] theorem offerTrunkNormal_part (f : BerthFrame) : (offerTrunkNormal f s).part = s.part := by
  unfold offerTrunkNormal; (try dsimp only); (repeat' split) <;> simp
@[simp] theorem offerTrunkNormal_mgmt (f : BerthFrame) : (offerTrunkNormal f s).mgmt = s.mgmt := by
  unfold offerTrunkNormal; (try dsimp only); (repeat' split) <;> simp
@[simp] theorem offerTrunkNormal_heads (f : BerthFrame) : (offerTrunkNormal f s).heads = s.heads := by
  unfold offerTrunkNormal; (try dsimp only); (repeat' split) <;> simp
@[simp] theorem offerTrunkNormal_cls (f : BerthFrame) : (offerTrunkNormal f s).cls = s.cls := by
  unfold offerTrunkNormal; (try dsimp only); (repeat' split) <;> simp
@[simp] theorem offerTrunkNormal_terms (f : BerthFrame) : (offerTrunkNormal f s).terms = s.terms := by
  unfold offerTrunkNormal; (try dsimp only); (repeat' split) <;> simp
@[simp] theorem offerTrunkNormal_segs (f : BerthFrame) : (offerTrunkNormal f s).segs = s.segs := by
  unfold offerTrunkNormal; (try dsimp only); (repeat' split) <;> simp
@[simp] theorem offerTrunkNormal_ho (f : BerthFrame) : (offerTrunkNormal f s).ho = s.ho := by
  unfold offerTrunkNormal; (try dsimp only); (repeat' split) <;> simp
@[simp] theorem offerTrunkNormal_crane (f : BerthFrame) : (offerTrunkNormal f s).crane = s.crane := by
  unfold offerTrunkNormal; (try dsimp only); (repeat' split) <;> simp
@[simp] theorem offerTrunkNormal_cov (f : BerthFrame) : (offerTrunkNormal f s).cov = s.cov := by
  unfold offerTrunkNormal; (try dsimp only); (repeat' split) <;> simp
@[simp] theorem offerTrunkNormal_loops (f : BerthFrame) : (offerTrunkNormal f s).loops = s.loops := by
  unfold offerTrunkNormal; (try dsimp only); (repeat' split) <;> simp
@[simp] theorem offerTrunkNormal_reef (f : BerthFrame) : (offerTrunkNormal f s).reef = s.reef := by
  unfold offerTrunkNormal; (try dsimp only); (repeat' split) <;> simp
@[simp] theorem offerTrunkNormal_exp (f : BerthFrame) : (offerTrunkNormal f s).exp = s.exp := by
  unfold offerTrunkNormal; (try dsimp only); (repeat' split) <;> simp

/-! ### Segments -/

@[simp] theorem moveSeg_pending (p : ClassPart) (o n : Option SegIx) : (moveSeg p o n s).pending = s.pending := by
  unfold moveSeg; (try dsimp only); (repeat' split) <;> simp
@[simp] theorem moveSeg_choice (p : ClassPart) (o n : Option SegIx) : (moveSeg p o n s).choice = s.choice := by
  unfold moveSeg; (try dsimp only); (repeat' split) <;> simp
@[simp] theorem moveSeg_inReset (p : ClassPart) (o n : Option SegIx) : (moveSeg p o n s).inReset = s.inReset := by
  unfold moveSeg; (try dsimp only); (repeat' split) <;> simp
@[simp] theorem moveSeg_uptime (p : ClassPart) (o n : Option SegIx) : (moveSeg p o n s).uptime = s.uptime := by
  unfold moveSeg; (try dsimp only); (repeat' split) <;> simp
@[simp] theorem moveSeg_node (p : ClassPart) (o n : Option SegIx) : (moveSeg p o n s).node = s.node := by
  unfold moveSeg; (try dsimp only); (repeat' split) <;> simp
@[simp] theorem moveSeg_part (p : ClassPart) (o n : Option SegIx) : (moveSeg p o n s).part = s.part := by
  unfold moveSeg; (try dsimp only); (repeat' split) <;> simp
@[simp] theorem moveSeg_mgmt (p : ClassPart) (o n : Option SegIx) : (moveSeg p o n s).mgmt = s.mgmt := by
  unfold moveSeg; (try dsimp only); (repeat' split) <;> simp
@[simp] theorem moveSeg_heads (p : ClassPart) (o n : Option SegIx) : (moveSeg p o n s).heads = s.heads := by
  unfold moveSeg; (try dsimp only); (repeat' split) <;> simp
@[simp] theorem moveSeg_trunk (p : ClassPart) (o n : Option SegIx) : (moveSeg p o n s).trunk = s.trunk := by
  unfold moveSeg; (try dsimp only); (repeat' split) <;> simp
@[simp] theorem moveSeg_cls (p : ClassPart) (o n : Option SegIx) : (moveSeg p o n s).cls = s.cls := by
  unfold moveSeg; (try dsimp only); (repeat' split) <;> simp
@[simp] theorem moveSeg_terms (p : ClassPart) (o n : Option SegIx) : (moveSeg p o n s).terms = s.terms := by
  unfold moveSeg; (try dsimp only); (repeat' split) <;> simp
@[simp] theorem moveSeg_ho (p : ClassPart) (o n : Option SegIx) : (moveSeg p o n s).ho = s.ho := by
  unfold moveSeg; (try dsimp only); (repeat' split) <;> simp
@[simp] theorem moveSeg_crane (p : ClassPart) (o n : Option SegIx) : (moveSeg p o n s).crane = s.crane := by
  unfold moveSeg; (try dsimp only); (repeat' split) <;> simp
@[simp] theorem moveSeg_cov (p : ClassPart) (o n : Option SegIx) : (moveSeg p o n s).cov = s.cov := by
  unfold moveSeg; (try dsimp only); (repeat' split) <;> simp
@[simp] theorem moveSeg_loops (p : ClassPart) (o n : Option SegIx) : (moveSeg p o n s).loops = s.loops := by
  unfold moveSeg; (try dsimp only); (repeat' split) <;> simp
@[simp] theorem moveSeg_reef (p : ClassPart) (o n : Option SegIx) : (moveSeg p o n s).reef = s.reef := by
  unfold moveSeg; (try dsimp only); (repeat' split) <;> simp
@[simp] theorem moveSeg_exp (p : ClassPart) (o n : Option SegIx) : (moveSeg p o n s).exp = s.exp := by
  unfold moveSeg; (try dsimp only); (repeat' split) <;> simp

/-! ### A report's segment -/

@[simp] theorem recordSegment_pending (i : SlotIx) (b : Byte) : (recordSegment i b s).pending = s.pending := by
  unfold recordSegment; (try dsimp only); (repeat' split) <;> simp
@[simp] theorem recordSegment_choice (i : SlotIx) (b : Byte) : (recordSegment i b s).choice = s.choice := by
  unfold recordSegment; (try dsimp only); (repeat' split) <;> simp
@[simp] theorem recordSegment_inReset (i : SlotIx) (b : Byte) : (recordSegment i b s).inReset = s.inReset := by
  unfold recordSegment; (try dsimp only); (repeat' split) <;> simp
@[simp] theorem recordSegment_uptime (i : SlotIx) (b : Byte) : (recordSegment i b s).uptime = s.uptime := by
  unfold recordSegment; (try dsimp only); (repeat' split) <;> simp
@[simp] theorem recordSegment_node (i : SlotIx) (b : Byte) : (recordSegment i b s).node = s.node := by
  unfold recordSegment; (try dsimp only); (repeat' split) <;> simp
@[simp] theorem recordSegment_part (i : SlotIx) (b : Byte) : (recordSegment i b s).part = s.part := by
  unfold recordSegment; (try dsimp only); (repeat' split) <;> simp
@[simp] theorem recordSegment_mgmt (i : SlotIx) (b : Byte) : (recordSegment i b s).mgmt = s.mgmt := by
  unfold recordSegment; (try dsimp only); (repeat' split) <;> simp
@[simp] theorem recordSegment_heads (i : SlotIx) (b : Byte) : (recordSegment i b s).heads = s.heads := by
  unfold recordSegment; (try dsimp only); (repeat' split) <;> simp
@[simp] theorem recordSegment_trunk (i : SlotIx) (b : Byte) : (recordSegment i b s).trunk = s.trunk := by
  unfold recordSegment; (try dsimp only); (repeat' split) <;> simp
@[simp] theorem recordSegment_cls (i : SlotIx) (b : Byte) : (recordSegment i b s).cls = s.cls := by
  unfold recordSegment; (try dsimp only); (repeat' split) <;> simp
@[simp] theorem recordSegment_crane (i : SlotIx) (b : Byte) : (recordSegment i b s).crane = s.crane := by
  unfold recordSegment; (try dsimp only); (repeat' split) <;> simp
@[simp] theorem recordSegment_cov (i : SlotIx) (b : Byte) : (recordSegment i b s).cov = s.cov := by
  unfold recordSegment; (try dsimp only); (repeat' split) <;> simp
@[simp] theorem recordSegment_loops (i : SlotIx) (b : Byte) : (recordSegment i b s).loops = s.loops := by
  unfold recordSegment; (try dsimp only); (repeat' split) <;> simp
@[simp] theorem recordSegment_reef (i : SlotIx) (b : Byte) : (recordSegment i b s).reef = s.reef := by
  unfold recordSegment; (try dsimp only); (repeat' split) <;> simp
@[simp] theorem recordSegment_exp (i : SlotIx) (b : Byte) : (recordSegment i b s).exp = s.exp := by
  unfold recordSegment; (try dsimp only); (repeat' split) <;> simp

/-! ### Orphaning -/

@[simp] theorem orphanEntry_pending (i : SlotIx) (t : Term) : (orphanEntry i t s).pending = s.pending := by
  unfold orphanEntry; (try dsimp only); (repeat' split) <;> simp
@[simp] theorem orphanEntry_choice (i : SlotIx) (t : Term) : (orphanEntry i t s).choice = s.choice := by
  unfold orphanEntry; (try dsimp only); (repeat' split) <;> simp
@[simp] theorem orphanEntry_inReset (i : SlotIx) (t : Term) : (orphanEntry i t s).inReset = s.inReset := by
  unfold orphanEntry; (try dsimp only); (repeat' split) <;> simp
@[simp] theorem orphanEntry_uptime (i : SlotIx) (t : Term) : (orphanEntry i t s).uptime = s.uptime := by
  unfold orphanEntry; (try dsimp only); (repeat' split) <;> simp
@[simp] theorem orphanEntry_node (i : SlotIx) (t : Term) : (orphanEntry i t s).node = s.node := by
  unfold orphanEntry; (try dsimp only); (repeat' split) <;> simp
@[simp] theorem orphanEntry_part (i : SlotIx) (t : Term) : (orphanEntry i t s).part = s.part := by
  unfold orphanEntry; (try dsimp only); (repeat' split) <;> simp
@[simp] theorem orphanEntry_mgmt (i : SlotIx) (t : Term) : (orphanEntry i t s).mgmt = s.mgmt := by
  unfold orphanEntry; (try dsimp only); (repeat' split) <;> simp
@[simp] theorem orphanEntry_heads (i : SlotIx) (t : Term) : (orphanEntry i t s).heads = s.heads := by
  unfold orphanEntry; (try dsimp only); (repeat' split) <;> simp
@[simp] theorem orphanEntry_trunk (i : SlotIx) (t : Term) : (orphanEntry i t s).trunk = s.trunk := by
  unfold orphanEntry; (try dsimp only); (repeat' split) <;> simp
@[simp] theorem orphanEntry_cls (i : SlotIx) (t : Term) : (orphanEntry i t s).cls = s.cls := by
  unfold orphanEntry; (try dsimp only); (repeat' split) <;> simp
@[simp] theorem orphanEntry_segs (i : SlotIx) (t : Term) : (orphanEntry i t s).segs = s.segs := by
  unfold orphanEntry; (try dsimp only); (repeat' split) <;> simp
@[simp] theorem orphanEntry_crane (i : SlotIx) (t : Term) : (orphanEntry i t s).crane = s.crane := by
  unfold orphanEntry; (try dsimp only); (repeat' split) <;> simp
@[simp] theorem orphanEntry_cov (i : SlotIx) (t : Term) : (orphanEntry i t s).cov = s.cov := by
  unfold orphanEntry; (try dsimp only); (repeat' split) <;> simp
@[simp] theorem orphanEntry_loops (i : SlotIx) (t : Term) : (orphanEntry i t s).loops = s.loops := by
  unfold orphanEntry; (try dsimp only); (repeat' split) <;> simp
@[simp] theorem orphanEntry_reef (i : SlotIx) (t : Term) : (orphanEntry i t s).reef = s.reef := by
  unfold orphanEntry; (try dsimp only); (repeat' split) <;> simp
@[simp] theorem orphanEntry_exp (i : SlotIx) (t : Term) : (orphanEntry i t s).exp = s.exp := by
  unfold orphanEntry; (try dsimp only); (repeat' split) <;> simp

/-! ### A forced bicast -/

@[simp] theorem forceBicast_pending (i : SlotIx) (t : Term) (a b : HeadIx) : (forceBicast i t a b s).pending = s.pending := by
  unfold forceBicast; (try dsimp only); (repeat' split) <;> simp
@[simp] theorem forceBicast_choice (i : SlotIx) (t : Term) (a b : HeadIx) : (forceBicast i t a b s).choice = s.choice := by
  unfold forceBicast; (try dsimp only); (repeat' split) <;> simp
@[simp] theorem forceBicast_inReset (i : SlotIx) (t : Term) (a b : HeadIx) : (forceBicast i t a b s).inReset = s.inReset := by
  unfold forceBicast; (try dsimp only); (repeat' split) <;> simp
@[simp] theorem forceBicast_uptime (i : SlotIx) (t : Term) (a b : HeadIx) : (forceBicast i t a b s).uptime = s.uptime := by
  unfold forceBicast; (try dsimp only); (repeat' split) <;> simp
@[simp] theorem forceBicast_node (i : SlotIx) (t : Term) (a b : HeadIx) : (forceBicast i t a b s).node = s.node := by
  unfold forceBicast; (try dsimp only); (repeat' split) <;> simp
@[simp] theorem forceBicast_part (i : SlotIx) (t : Term) (a b : HeadIx) : (forceBicast i t a b s).part = s.part := by
  unfold forceBicast; (try dsimp only); (repeat' split) <;> simp
@[simp] theorem forceBicast_heads (i : SlotIx) (t : Term) (a b : HeadIx) : (forceBicast i t a b s).heads = s.heads := by
  unfold forceBicast; (try dsimp only); (repeat' split) <;> simp
@[simp] theorem forceBicast_cls (i : SlotIx) (t : Term) (a b : HeadIx) : (forceBicast i t a b s).cls = s.cls := by
  unfold forceBicast; (try dsimp only); (repeat' split) <;> simp
@[simp] theorem forceBicast_segs (i : SlotIx) (t : Term) (a b : HeadIx) : (forceBicast i t a b s).segs = s.segs := by
  unfold forceBicast; (try dsimp only); (repeat' split) <;> simp
@[simp] theorem forceBicast_crane (i : SlotIx) (t : Term) (a b : HeadIx) : (forceBicast i t a b s).crane = s.crane := by
  unfold forceBicast; (try dsimp only); (repeat' split) <;> simp
@[simp] theorem forceBicast_cov (i : SlotIx) (t : Term) (a b : HeadIx) : (forceBicast i t a b s).cov = s.cov := by
  unfold forceBicast; (try dsimp only); (repeat' split) <;> simp
@[simp] theorem forceBicast_loops (i : SlotIx) (t : Term) (a b : HeadIx) : (forceBicast i t a b s).loops = s.loops := by
  unfold forceBicast; (try dsimp only); (repeat' split) <;> simp
@[simp] theorem forceBicast_reef (i : SlotIx) (t : Term) (a b : HeadIx) : (forceBicast i t a b s).reef = s.reef := by
  unfold forceBicast; (try dsimp only); (repeat' split) <;> simp
@[simp] theorem forceBicast_exp (i : SlotIx) (t : Term) (a b : HeadIx) : (forceBicast i t a b s).exp = s.exp := by
  unfold forceBicast; (try dsimp only); (repeat' split) <;> simp

/-! ### A lost candidate -/

@[simp] theorem loseCandidate_pending (i : SlotIx) (t : Term) (a b : HeadIx) : (loseCandidate i t a b s).pending = s.pending := by
  unfold loseCandidate; (try dsimp only); (repeat' split) <;> simp
@[simp] theorem loseCandidate_choice (i : SlotIx) (t : Term) (a b : HeadIx) : (loseCandidate i t a b s).choice = s.choice := by
  unfold loseCandidate; (try dsimp only); (repeat' split) <;> simp
@[simp] theorem loseCandidate_inReset (i : SlotIx) (t : Term) (a b : HeadIx) : (loseCandidate i t a b s).inReset = s.inReset := by
  unfold loseCandidate; (try dsimp only); (repeat' split) <;> simp
@[simp] theorem loseCandidate_uptime (i : SlotIx) (t : Term) (a b : HeadIx) : (loseCandidate i t a b s).uptime = s.uptime := by
  unfold loseCandidate; (try dsimp only); (repeat' split) <;> simp
@[simp] theorem loseCandidate_node (i : SlotIx) (t : Term) (a b : HeadIx) : (loseCandidate i t a b s).node = s.node := by
  unfold loseCandidate; (try dsimp only); (repeat' split) <;> simp
@[simp] theorem loseCandidate_part (i : SlotIx) (t : Term) (a b : HeadIx) : (loseCandidate i t a b s).part = s.part := by
  unfold loseCandidate; (try dsimp only); (repeat' split) <;> simp
@[simp] theorem loseCandidate_heads (i : SlotIx) (t : Term) (a b : HeadIx) : (loseCandidate i t a b s).heads = s.heads := by
  unfold loseCandidate; (try dsimp only); (repeat' split) <;> simp
@[simp] theorem loseCandidate_cls (i : SlotIx) (t : Term) (a b : HeadIx) : (loseCandidate i t a b s).cls = s.cls := by
  unfold loseCandidate; (try dsimp only); (repeat' split) <;> simp
@[simp] theorem loseCandidate_segs (i : SlotIx) (t : Term) (a b : HeadIx) : (loseCandidate i t a b s).segs = s.segs := by
  unfold loseCandidate; (try dsimp only); (repeat' split) <;> simp
@[simp] theorem loseCandidate_crane (i : SlotIx) (t : Term) (a b : HeadIx) : (loseCandidate i t a b s).crane = s.crane := by
  unfold loseCandidate; (try dsimp only); (repeat' split) <;> simp
@[simp] theorem loseCandidate_cov (i : SlotIx) (t : Term) (a b : HeadIx) : (loseCandidate i t a b s).cov = s.cov := by
  unfold loseCandidate; (try dsimp only); (repeat' split) <;> simp
@[simp] theorem loseCandidate_loops (i : SlotIx) (t : Term) (a b : HeadIx) : (loseCandidate i t a b s).loops = s.loops := by
  unfold loseCandidate; (try dsimp only); (repeat' split) <;> simp
@[simp] theorem loseCandidate_reef (i : SlotIx) (t : Term) (a b : HeadIx) : (loseCandidate i t a b s).reef = s.reef := by
  unfold loseCandidate; (try dsimp only); (repeat' split) <;> simp
@[simp] theorem loseCandidate_exp (i : SlotIx) (t : Term) (a b : HeadIx) : (loseCandidate i t a b s).exp = s.exp := by
  unfold loseCandidate; (try dsimp only); (repeat' split) <;> simp

/-! ### One entry at a departure -/

@[simp] theorem departEntry_pending (d : HeadIx) (w : Bool) (i : SlotIx) : (departEntry d w s i).pending = s.pending := by
  unfold departEntry; (try dsimp only); (repeat' split) <;> simp
@[simp] theorem departEntry_choice (d : HeadIx) (w : Bool) (i : SlotIx) : (departEntry d w s i).choice = s.choice := by
  unfold departEntry; (try dsimp only); (repeat' split) <;> simp
@[simp] theorem departEntry_inReset (d : HeadIx) (w : Bool) (i : SlotIx) : (departEntry d w s i).inReset = s.inReset := by
  unfold departEntry; (try dsimp only); (repeat' split) <;> simp
@[simp] theorem departEntry_uptime (d : HeadIx) (w : Bool) (i : SlotIx) : (departEntry d w s i).uptime = s.uptime := by
  unfold departEntry; (try dsimp only); (repeat' split) <;> simp
@[simp] theorem departEntry_node (d : HeadIx) (w : Bool) (i : SlotIx) : (departEntry d w s i).node = s.node := by
  unfold departEntry; (try dsimp only); (repeat' split) <;> simp
@[simp] theorem departEntry_part (d : HeadIx) (w : Bool) (i : SlotIx) : (departEntry d w s i).part = s.part := by
  unfold departEntry; (try dsimp only); (repeat' split) <;> simp
@[simp] theorem departEntry_heads (d : HeadIx) (w : Bool) (i : SlotIx) : (departEntry d w s i).heads = s.heads := by
  unfold departEntry; (try dsimp only); (repeat' split) <;> simp
@[simp] theorem departEntry_cls (d : HeadIx) (w : Bool) (i : SlotIx) : (departEntry d w s i).cls = s.cls := by
  unfold departEntry; (try dsimp only); (repeat' split) <;> simp
@[simp] theorem departEntry_segs (d : HeadIx) (w : Bool) (i : SlotIx) : (departEntry d w s i).segs = s.segs := by
  unfold departEntry; (try dsimp only); (repeat' split) <;> simp
@[simp] theorem departEntry_crane (d : HeadIx) (w : Bool) (i : SlotIx) : (departEntry d w s i).crane = s.crane := by
  unfold departEntry; (try dsimp only); (repeat' split) <;> simp
@[simp] theorem departEntry_cov (d : HeadIx) (w : Bool) (i : SlotIx) : (departEntry d w s i).cov = s.cov := by
  unfold departEntry; (try dsimp only); (repeat' split) <;> simp
@[simp] theorem departEntry_loops (d : HeadIx) (w : Bool) (i : SlotIx) : (departEntry d w s i).loops = s.loops := by
  unfold departEntry; (try dsimp only); (repeat' split) <;> simp
@[simp] theorem departEntry_reef (d : HeadIx) (w : Bool) (i : SlotIx) : (departEntry d w s i).reef = s.reef := by
  unfold departEntry; (try dsimp only); (repeat' split) <;> simp
@[simp] theorem departEntry_exp (d : HeadIx) (w : Bool) (i : SlotIx) : (departEntry d w s i).exp = s.exp := by
  unfold departEntry; (try dsimp only); (repeat' split) <;> simp

/-- A fold keeps what every step keeps. -/
theorem foldl_keeps {α β : Type} (g : State → β) (f : State → α → State) (hf : ∀ s a, g (f s a) = g s) (l : List α)
    (s : State) : g (l.foldl f s) = g s := by
  induction l generalizing s with
  | nil => rfl
  | cons a l ih => rw [List.foldl_cons, ih, hf]

/-! ### A departure (R80) touches terminals, handover counters and notices alone -/

@[simp] theorem departure_pending (d : HeadIx) (w : Bool) : (departure d w s).pending = s.pending :=
  foldl_keeps State.pending _ (fun s i => departEntry_pending s d w i) _ s
@[simp] theorem departure_choice (d : HeadIx) (w : Bool) : (departure d w s).choice = s.choice :=
  foldl_keeps State.choice _ (fun s i => departEntry_choice s d w i) _ s
@[simp] theorem departure_inReset (d : HeadIx) (w : Bool) : (departure d w s).inReset = s.inReset :=
  foldl_keeps State.inReset _ (fun s i => departEntry_inReset s d w i) _ s
@[simp] theorem departure_uptime (d : HeadIx) (w : Bool) : (departure d w s).uptime = s.uptime :=
  foldl_keeps State.uptime _ (fun s i => departEntry_uptime s d w i) _ s
@[simp] theorem departure_node (d : HeadIx) (w : Bool) : (departure d w s).node = s.node :=
  foldl_keeps State.node _ (fun s i => departEntry_node s d w i) _ s
@[simp] theorem departure_part (d : HeadIx) (w : Bool) : (departure d w s).part = s.part :=
  foldl_keeps State.part _ (fun s i => departEntry_part s d w i) _ s
@[simp] theorem departure_heads (d : HeadIx) (w : Bool) : (departure d w s).heads = s.heads :=
  foldl_keeps State.heads _ (fun s i => departEntry_heads s d w i) _ s
@[simp] theorem departure_cls (d : HeadIx) (w : Bool) : (departure d w s).cls = s.cls :=
  foldl_keeps State.cls _ (fun s i => departEntry_cls s d w i) _ s
@[simp] theorem departure_segs (d : HeadIx) (w : Bool) : (departure d w s).segs = s.segs :=
  foldl_keeps State.segs _ (fun s i => departEntry_segs s d w i) _ s
@[simp] theorem departure_crane (d : HeadIx) (w : Bool) : (departure d w s).crane = s.crane :=
  foldl_keeps State.crane _ (fun s i => departEntry_crane s d w i) _ s
@[simp] theorem departure_cov (d : HeadIx) (w : Bool) : (departure d w s).cov = s.cov :=
  foldl_keeps State.cov _ (fun s i => departEntry_cov s d w i) _ s
@[simp] theorem departure_loops (d : HeadIx) (w : Bool) : (departure d w s).loops = s.loops :=
  foldl_keeps State.loops _ (fun s i => departEntry_loops s d w i) _ s
@[simp] theorem departure_reef (d : HeadIx) (w : Bool) : (departure d w s).reef = s.reef :=
  foldl_keeps State.reef _ (fun s i => departEntry_reef s d w i) _ s
@[simp] theorem departure_exp (d : HeadIx) (w : Bool) : (departure d w s).exp = s.exp :=
  foldl_keeps State.exp _ (fun s i => departEntry_exp s d w i) _ s

/-! ### Frames through heads -/

@[simp] theorem reanchor_pending (i : SlotIx) (t : Term) (g old : HeadIx) : (reanchor i t g old s).pending = s.pending := by
  unfold reanchor; (try dsimp only); (repeat' split) <;> simp
@[simp] theorem reanchor_choice (i : SlotIx) (t : Term) (g old : HeadIx) : (reanchor i t g old s).choice = s.choice := by
  unfold reanchor; (try dsimp only); (repeat' split) <;> simp
@[simp] theorem reanchor_inReset (i : SlotIx) (t : Term) (g old : HeadIx) : (reanchor i t g old s).inReset = s.inReset := by
  unfold reanchor; (try dsimp only); (repeat' split) <;> simp
@[simp] theorem reanchor_uptime (i : SlotIx) (t : Term) (g old : HeadIx) : (reanchor i t g old s).uptime = s.uptime := by
  unfold reanchor; (try dsimp only); (repeat' split) <;> simp
@[simp] theorem reanchor_node (i : SlotIx) (t : Term) (g old : HeadIx) : (reanchor i t g old s).node = s.node := by
  unfold reanchor; (try dsimp only); (repeat' split) <;> simp
@[simp] theorem reanchor_part (i : SlotIx) (t : Term) (g old : HeadIx) : (reanchor i t g old s).part = s.part := by
  unfold reanchor; (try dsimp only); (repeat' split) <;> simp
@[simp] theorem reanchor_heads (i : SlotIx) (t : Term) (g old : HeadIx) : (reanchor i t g old s).heads = s.heads := by
  unfold reanchor; (try dsimp only); (repeat' split) <;> simp
@[simp] theorem reanchor_cls (i : SlotIx) (t : Term) (g old : HeadIx) : (reanchor i t g old s).cls = s.cls := by
  unfold reanchor; (try dsimp only); (repeat' split) <;> simp
@[simp] theorem reanchor_segs (i : SlotIx) (t : Term) (g old : HeadIx) : (reanchor i t g old s).segs = s.segs := by
  unfold reanchor; (try dsimp only); (repeat' split) <;> simp
@[simp] theorem reanchor_crane (i : SlotIx) (t : Term) (g old : HeadIx) : (reanchor i t g old s).crane = s.crane := by
  unfold reanchor; (try dsimp only); (repeat' split) <;> simp
@[simp] theorem reanchor_cov (i : SlotIx) (t : Term) (g old : HeadIx) : (reanchor i t g old s).cov = s.cov := by
  unfold reanchor; (try dsimp only); (repeat' split) <;> simp
@[simp] theorem reanchor_loops (i : SlotIx) (t : Term) (g old : HeadIx) : (reanchor i t g old s).loops = s.loops := by
  unfold reanchor; (try dsimp only); (repeat' split) <;> simp
@[simp] theorem reanchor_reef (i : SlotIx) (t : Term) (g old : HeadIx) : (reanchor i t g old s).reef = s.reef := by
  unfold reanchor; (try dsimp only); (repeat' split) <;> simp
@[simp] theorem reanchor_exp (i : SlotIx) (t : Term) (g old : HeadIx) : (reanchor i t g old s).exp = s.exp := by
  unfold reanchor; (try dsimp only); (repeat' split) <;> simp

/-! ### Stray frames -/

@[simp] theorem strayFrame_pending (i : SlotIx) (t : Term) (g old : HeadIx) : (strayFrame i t g old s).pending = s.pending := by
  unfold strayFrame; (try dsimp only); (repeat' split) <;> simp
@[simp] theorem strayFrame_choice (i : SlotIx) (t : Term) (g old : HeadIx) : (strayFrame i t g old s).choice = s.choice := by
  unfold strayFrame; (try dsimp only); (repeat' split) <;> simp
@[simp] theorem strayFrame_inReset (i : SlotIx) (t : Term) (g old : HeadIx) : (strayFrame i t g old s).inReset = s.inReset := by
  unfold strayFrame; (try dsimp only); (repeat' split) <;> simp
@[simp] theorem strayFrame_uptime (i : SlotIx) (t : Term) (g old : HeadIx) : (strayFrame i t g old s).uptime = s.uptime := by
  unfold strayFrame; (try dsimp only); (repeat' split) <;> simp
@[simp] theorem strayFrame_node (i : SlotIx) (t : Term) (g old : HeadIx) : (strayFrame i t g old s).node = s.node := by
  unfold strayFrame; (try dsimp only); (repeat' split) <;> simp
@[simp] theorem strayFrame_part (i : SlotIx) (t : Term) (g old : HeadIx) : (strayFrame i t g old s).part = s.part := by
  unfold strayFrame; (try dsimp only); (repeat' split) <;> simp
@[simp] theorem strayFrame_heads (i : SlotIx) (t : Term) (g old : HeadIx) : (strayFrame i t g old s).heads = s.heads := by
  unfold strayFrame; (try dsimp only); (repeat' split) <;> simp
@[simp] theorem strayFrame_cls (i : SlotIx) (t : Term) (g old : HeadIx) : (strayFrame i t g old s).cls = s.cls := by
  unfold strayFrame; (try dsimp only); (repeat' split) <;> simp
@[simp] theorem strayFrame_segs (i : SlotIx) (t : Term) (g old : HeadIx) : (strayFrame i t g old s).segs = s.segs := by
  unfold strayFrame; (try dsimp only); (repeat' split) <;> simp
@[simp] theorem strayFrame_crane (i : SlotIx) (t : Term) (g old : HeadIx) : (strayFrame i t g old s).crane = s.crane := by
  unfold strayFrame; (try dsimp only); (repeat' split) <;> simp
@[simp] theorem strayFrame_cov (i : SlotIx) (t : Term) (g old : HeadIx) : (strayFrame i t g old s).cov = s.cov := by
  unfold strayFrame; (try dsimp only); (repeat' split) <;> simp
@[simp] theorem strayFrame_loops (i : SlotIx) (t : Term) (g old : HeadIx) : (strayFrame i t g old s).loops = s.loops := by
  unfold strayFrame; (try dsimp only); (repeat' split) <;> simp
@[simp] theorem strayFrame_reef (i : SlotIx) (t : Term) (g old : HeadIx) : (strayFrame i t g old s).reef = s.reef := by
  unfold strayFrame; (try dsimp only); (repeat' split) <;> simp
@[simp] theorem strayFrame_exp (i : SlotIx) (t : Term) (g old : HeadIx) : (strayFrame i t g old s).exp = s.exp := by
  unfold strayFrame; (try dsimp only); (repeat' split) <;> simp

/-! ### Step 2 of R76 -/

@[simp] theorem judgeHead_pending (i : SlotIx) (h : HeadIx) : (judgeHead i h s).pending = s.pending := by
  unfold judgeHead; (try dsimp only); (repeat' split) <;> simp
@[simp] theorem judgeHead_choice (i : SlotIx) (h : HeadIx) : (judgeHead i h s).choice = s.choice := by
  unfold judgeHead; (try dsimp only); (repeat' split) <;> simp
@[simp] theorem judgeHead_inReset (i : SlotIx) (h : HeadIx) : (judgeHead i h s).inReset = s.inReset := by
  unfold judgeHead; (try dsimp only); (repeat' split) <;> simp
@[simp] theorem judgeHead_uptime (i : SlotIx) (h : HeadIx) : (judgeHead i h s).uptime = s.uptime := by
  unfold judgeHead; (try dsimp only); (repeat' split) <;> simp
@[simp] theorem judgeHead_node (i : SlotIx) (h : HeadIx) : (judgeHead i h s).node = s.node := by
  unfold judgeHead; (try dsimp only); (repeat' split) <;> simp
@[simp] theorem judgeHead_part (i : SlotIx) (h : HeadIx) : (judgeHead i h s).part = s.part := by
  unfold judgeHead; (try dsimp only); (repeat' split) <;> simp
@[simp] theorem judgeHead_heads (i : SlotIx) (h : HeadIx) : (judgeHead i h s).heads = s.heads := by
  unfold judgeHead; (try dsimp only); (repeat' split) <;> simp
@[simp] theorem judgeHead_cls (i : SlotIx) (h : HeadIx) : (judgeHead i h s).cls = s.cls := by
  unfold judgeHead; (try dsimp only); (repeat' split) <;> simp
@[simp] theorem judgeHead_segs (i : SlotIx) (h : HeadIx) : (judgeHead i h s).segs = s.segs := by
  unfold judgeHead; (try dsimp only); (repeat' split) <;> simp
@[simp] theorem judgeHead_crane (i : SlotIx) (h : HeadIx) : (judgeHead i h s).crane = s.crane := by
  unfold judgeHead; (try dsimp only); (repeat' split) <;> simp
@[simp] theorem judgeHead_cov (i : SlotIx) (h : HeadIx) : (judgeHead i h s).cov = s.cov := by
  unfold judgeHead; (try dsimp only); (repeat' split) <;> simp
@[simp] theorem judgeHead_loops (i : SlotIx) (h : HeadIx) : (judgeHead i h s).loops = s.loops := by
  unfold judgeHead; (try dsimp only); (repeat' split) <;> simp
@[simp] theorem judgeHead_reef (i : SlotIx) (h : HeadIx) : (judgeHead i h s).reef = s.reef := by
  unfold judgeHead; (try dsimp only); (repeat' split) <;> simp
@[simp] theorem judgeHead_exp (i : SlotIx) (h : HeadIx) : (judgeHead i h s).exp = s.exp := by
  unfold judgeHead; (try dsimp only); (repeat' split) <;> simp

/-! ### The last serving quality -/

@[simp] theorem storeLsq_pending (i : SlotIx) (u : List (HeadIx × Int)) : (storeLsq i u s).pending = s.pending := by
  unfold storeLsq; (try dsimp only); (repeat' split) <;> simp
@[simp] theorem storeLsq_choice (i : SlotIx) (u : List (HeadIx × Int)) : (storeLsq i u s).choice = s.choice := by
  unfold storeLsq; (try dsimp only); (repeat' split) <;> simp
@[simp] theorem storeLsq_inReset (i : SlotIx) (u : List (HeadIx × Int)) : (storeLsq i u s).inReset = s.inReset := by
  unfold storeLsq; (try dsimp only); (repeat' split) <;> simp
@[simp] theorem storeLsq_uptime (i : SlotIx) (u : List (HeadIx × Int)) : (storeLsq i u s).uptime = s.uptime := by
  unfold storeLsq; (try dsimp only); (repeat' split) <;> simp
@[simp] theorem storeLsq_node (i : SlotIx) (u : List (HeadIx × Int)) : (storeLsq i u s).node = s.node := by
  unfold storeLsq; (try dsimp only); (repeat' split) <;> simp
@[simp] theorem storeLsq_part (i : SlotIx) (u : List (HeadIx × Int)) : (storeLsq i u s).part = s.part := by
  unfold storeLsq; (try dsimp only); (repeat' split) <;> simp
@[simp] theorem storeLsq_mgmt (i : SlotIx) (u : List (HeadIx × Int)) : (storeLsq i u s).mgmt = s.mgmt := by
  unfold storeLsq; (try dsimp only); (repeat' split) <;> simp
@[simp] theorem storeLsq_heads (i : SlotIx) (u : List (HeadIx × Int)) : (storeLsq i u s).heads = s.heads := by
  unfold storeLsq; (try dsimp only); (repeat' split) <;> simp
@[simp] theorem storeLsq_trunk (i : SlotIx) (u : List (HeadIx × Int)) : (storeLsq i u s).trunk = s.trunk := by
  unfold storeLsq; (try dsimp only); (repeat' split) <;> simp
@[simp] theorem storeLsq_cls (i : SlotIx) (u : List (HeadIx × Int)) : (storeLsq i u s).cls = s.cls := by
  unfold storeLsq; (try dsimp only); (repeat' split) <;> simp
@[simp] theorem storeLsq_segs (i : SlotIx) (u : List (HeadIx × Int)) : (storeLsq i u s).segs = s.segs := by
  unfold storeLsq; (try dsimp only); (repeat' split) <;> simp
@[simp] theorem storeLsq_ho (i : SlotIx) (u : List (HeadIx × Int)) : (storeLsq i u s).ho = s.ho := by
  unfold storeLsq; (try dsimp only); (repeat' split) <;> simp
@[simp] theorem storeLsq_crane (i : SlotIx) (u : List (HeadIx × Int)) : (storeLsq i u s).crane = s.crane := by
  unfold storeLsq; (try dsimp only); (repeat' split) <;> simp
@[simp] theorem storeLsq_cov (i : SlotIx) (u : List (HeadIx × Int)) : (storeLsq i u s).cov = s.cov := by
  unfold storeLsq; (try dsimp only); (repeat' split) <;> simp
@[simp] theorem storeLsq_loops (i : SlotIx) (u : List (HeadIx × Int)) : (storeLsq i u s).loops = s.loops := by
  unfold storeLsq; (try dsimp only); (repeat' split) <;> simp
@[simp] theorem storeLsq_reef (i : SlotIx) (u : List (HeadIx × Int)) : (storeLsq i u s).reef = s.reef := by
  unfold storeLsq; (try dsimp only); (repeat' split) <;> simp
@[simp] theorem storeLsq_exp (i : SlotIx) (u : List (HeadIx × Int)) : (storeLsq i u s).exp = s.exp := by
  unfold storeLsq; (try dsimp only); (repeat' split) <;> simp

/-! ### Handovers -/

@[simp] theorem executeHandover_pending (i : SlotIx) (t : Term) (v g : HeadIx) (u : List (HeadIx × Int)) : (executeHandover i t v g u s).pending = s.pending := by
  unfold executeHandover; (try dsimp only); (repeat' split) <;> simp
@[simp] theorem executeHandover_choice (i : SlotIx) (t : Term) (v g : HeadIx) (u : List (HeadIx × Int)) : (executeHandover i t v g u s).choice = s.choice := by
  unfold executeHandover; (try dsimp only); (repeat' split) <;> simp
@[simp] theorem executeHandover_inReset (i : SlotIx) (t : Term) (v g : HeadIx) (u : List (HeadIx × Int)) : (executeHandover i t v g u s).inReset = s.inReset := by
  unfold executeHandover; (try dsimp only); (repeat' split) <;> simp
@[simp] theorem executeHandover_uptime (i : SlotIx) (t : Term) (v g : HeadIx) (u : List (HeadIx × Int)) : (executeHandover i t v g u s).uptime = s.uptime := by
  unfold executeHandover; (try dsimp only); (repeat' split) <;> simp
@[simp] theorem executeHandover_node (i : SlotIx) (t : Term) (v g : HeadIx) (u : List (HeadIx × Int)) : (executeHandover i t v g u s).node = s.node := by
  unfold executeHandover; (try dsimp only); (repeat' split) <;> simp
@[simp] theorem executeHandover_part (i : SlotIx) (t : Term) (v g : HeadIx) (u : List (HeadIx × Int)) : (executeHandover i t v g u s).part = s.part := by
  unfold executeHandover; (try dsimp only); (repeat' split) <;> simp
@[simp] theorem executeHandover_mgmt (i : SlotIx) (t : Term) (v g : HeadIx) (u : List (HeadIx × Int)) : (executeHandover i t v g u s).mgmt = s.mgmt := by
  unfold executeHandover; (try dsimp only); (repeat' split) <;> simp
@[simp] theorem executeHandover_trunk (i : SlotIx) (t : Term) (v g : HeadIx) (u : List (HeadIx × Int)) : (executeHandover i t v g u s).trunk = s.trunk := by
  unfold executeHandover; (try dsimp only); (repeat' split) <;> simp
@[simp] theorem executeHandover_cls (i : SlotIx) (t : Term) (v g : HeadIx) (u : List (HeadIx × Int)) : (executeHandover i t v g u s).cls = s.cls := by
  unfold executeHandover; (try dsimp only); (repeat' split) <;> simp
@[simp] theorem executeHandover_segs (i : SlotIx) (t : Term) (v g : HeadIx) (u : List (HeadIx × Int)) : (executeHandover i t v g u s).segs = s.segs := by
  unfold executeHandover; (try dsimp only); (repeat' split) <;> simp
@[simp] theorem executeHandover_crane (i : SlotIx) (t : Term) (v g : HeadIx) (u : List (HeadIx × Int)) : (executeHandover i t v g u s).crane = s.crane := by
  unfold executeHandover; (try dsimp only); (repeat' split) <;> simp
@[simp] theorem executeHandover_cov (i : SlotIx) (t : Term) (v g : HeadIx) (u : List (HeadIx × Int)) : (executeHandover i t v g u s).cov = s.cov := by
  unfold executeHandover; (try dsimp only); (repeat' split) <;> simp
@[simp] theorem executeHandover_loops (i : SlotIx) (t : Term) (v g : HeadIx) (u : List (HeadIx × Int)) : (executeHandover i t v g u s).loops = s.loops := by
  unfold executeHandover; (try dsimp only); (repeat' split) <;> simp
@[simp] theorem executeHandover_reef (i : SlotIx) (t : Term) (v g : HeadIx) (u : List (HeadIx × Int)) : (executeHandover i t v g u s).reef = s.reef := by
  unfold executeHandover; (try dsimp only); (repeat' split) <;> simp
@[simp] theorem executeHandover_exp (i : SlotIx) (t : Term) (v g : HeadIx) (u : List (HeadIx × Int)) : (executeHandover i t v g u s).exp = s.exp := by
  unfold executeHandover; (try dsimp only); (repeat' split) <;> simp

/-! ### The quality trigger -/

@[simp] theorem qualityTrigger_pending (i : SlotIx) (t : Term) (v : HeadIx) (u : List (HeadIx × Int)) : (qualityTrigger i t v u s).pending = s.pending := by
  unfold qualityTrigger; (try dsimp only); (repeat' split) <;> simp
@[simp] theorem qualityTrigger_choice (i : SlotIx) (t : Term) (v : HeadIx) (u : List (HeadIx × Int)) : (qualityTrigger i t v u s).choice = s.choice := by
  unfold qualityTrigger; (try dsimp only); (repeat' split) <;> simp
@[simp] theorem qualityTrigger_inReset (i : SlotIx) (t : Term) (v : HeadIx) (u : List (HeadIx × Int)) : (qualityTrigger i t v u s).inReset = s.inReset := by
  unfold qualityTrigger; (try dsimp only); (repeat' split) <;> simp
@[simp] theorem qualityTrigger_uptime (i : SlotIx) (t : Term) (v : HeadIx) (u : List (HeadIx × Int)) : (qualityTrigger i t v u s).uptime = s.uptime := by
  unfold qualityTrigger; (try dsimp only); (repeat' split) <;> simp
@[simp] theorem qualityTrigger_node (i : SlotIx) (t : Term) (v : HeadIx) (u : List (HeadIx × Int)) : (qualityTrigger i t v u s).node = s.node := by
  unfold qualityTrigger; (try dsimp only); (repeat' split) <;> simp
@[simp] theorem qualityTrigger_part (i : SlotIx) (t : Term) (v : HeadIx) (u : List (HeadIx × Int)) : (qualityTrigger i t v u s).part = s.part := by
  unfold qualityTrigger; (try dsimp only); (repeat' split) <;> simp
@[simp] theorem qualityTrigger_mgmt (i : SlotIx) (t : Term) (v : HeadIx) (u : List (HeadIx × Int)) : (qualityTrigger i t v u s).mgmt = s.mgmt := by
  unfold qualityTrigger; (try dsimp only); (repeat' split) <;> simp
@[simp] theorem qualityTrigger_trunk (i : SlotIx) (t : Term) (v : HeadIx) (u : List (HeadIx × Int)) : (qualityTrigger i t v u s).trunk = s.trunk := by
  unfold qualityTrigger; (try dsimp only); (repeat' split) <;> simp
@[simp] theorem qualityTrigger_cls (i : SlotIx) (t : Term) (v : HeadIx) (u : List (HeadIx × Int)) : (qualityTrigger i t v u s).cls = s.cls := by
  unfold qualityTrigger; (try dsimp only); (repeat' split) <;> simp
@[simp] theorem qualityTrigger_segs (i : SlotIx) (t : Term) (v : HeadIx) (u : List (HeadIx × Int)) : (qualityTrigger i t v u s).segs = s.segs := by
  unfold qualityTrigger; (try dsimp only); (repeat' split) <;> simp
@[simp] theorem qualityTrigger_crane (i : SlotIx) (t : Term) (v : HeadIx) (u : List (HeadIx × Int)) : (qualityTrigger i t v u s).crane = s.crane := by
  unfold qualityTrigger; (try dsimp only); (repeat' split) <;> simp
@[simp] theorem qualityTrigger_cov (i : SlotIx) (t : Term) (v : HeadIx) (u : List (HeadIx × Int)) : (qualityTrigger i t v u s).cov = s.cov := by
  unfold qualityTrigger; (try dsimp only); (repeat' split) <;> simp
@[simp] theorem qualityTrigger_loops (i : SlotIx) (t : Term) (v : HeadIx) (u : List (HeadIx × Int)) : (qualityTrigger i t v u s).loops = s.loops := by
  unfold qualityTrigger; (try dsimp only); (repeat' split) <;> simp
@[simp] theorem qualityTrigger_reef (i : SlotIx) (t : Term) (v : HeadIx) (u : List (HeadIx × Int)) : (qualityTrigger i t v u s).reef = s.reef := by
  unfold qualityTrigger; (try dsimp only); (repeat' split) <;> simp
@[simp] theorem qualityTrigger_exp (i : SlotIx) (t : Term) (v : HeadIx) (u : List (HeadIx × Int)) : (qualityTrigger i t v u s).exp = s.exp := by
  unfold qualityTrigger; (try dsimp only); (repeat' split) <;> simp

/-! ### The position trigger -/

@[simp] theorem positionTrigger_pending (i : SlotIx) (t : Term) (v : HeadIx) (g : SegIx) (u : List (HeadIx × Int)) : (positionTrigger i t v g u s).pending = s.pending := by
  unfold positionTrigger; (try dsimp only); (repeat' split) <;> simp
@[simp] theorem positionTrigger_choice (i : SlotIx) (t : Term) (v : HeadIx) (g : SegIx) (u : List (HeadIx × Int)) : (positionTrigger i t v g u s).choice = s.choice := by
  unfold positionTrigger; (try dsimp only); (repeat' split) <;> simp
@[simp] theorem positionTrigger_inReset (i : SlotIx) (t : Term) (v : HeadIx) (g : SegIx) (u : List (HeadIx × Int)) : (positionTrigger i t v g u s).inReset = s.inReset := by
  unfold positionTrigger; (try dsimp only); (repeat' split) <;> simp
@[simp] theorem positionTrigger_uptime (i : SlotIx) (t : Term) (v : HeadIx) (g : SegIx) (u : List (HeadIx × Int)) : (positionTrigger i t v g u s).uptime = s.uptime := by
  unfold positionTrigger; (try dsimp only); (repeat' split) <;> simp
@[simp] theorem positionTrigger_node (i : SlotIx) (t : Term) (v : HeadIx) (g : SegIx) (u : List (HeadIx × Int)) : (positionTrigger i t v g u s).node = s.node := by
  unfold positionTrigger; (try dsimp only); (repeat' split) <;> simp
@[simp] theorem positionTrigger_part (i : SlotIx) (t : Term) (v : HeadIx) (g : SegIx) (u : List (HeadIx × Int)) : (positionTrigger i t v g u s).part = s.part := by
  unfold positionTrigger; (try dsimp only); (repeat' split) <;> simp
@[simp] theorem positionTrigger_mgmt (i : SlotIx) (t : Term) (v : HeadIx) (g : SegIx) (u : List (HeadIx × Int)) : (positionTrigger i t v g u s).mgmt = s.mgmt := by
  unfold positionTrigger; (try dsimp only); (repeat' split) <;> simp
@[simp] theorem positionTrigger_trunk (i : SlotIx) (t : Term) (v : HeadIx) (g : SegIx) (u : List (HeadIx × Int)) : (positionTrigger i t v g u s).trunk = s.trunk := by
  unfold positionTrigger; (try dsimp only); (repeat' split) <;> simp
@[simp] theorem positionTrigger_cls (i : SlotIx) (t : Term) (v : HeadIx) (g : SegIx) (u : List (HeadIx × Int)) : (positionTrigger i t v g u s).cls = s.cls := by
  unfold positionTrigger; (try dsimp only); (repeat' split) <;> simp
@[simp] theorem positionTrigger_segs (i : SlotIx) (t : Term) (v : HeadIx) (g : SegIx) (u : List (HeadIx × Int)) : (positionTrigger i t v g u s).segs = s.segs := by
  unfold positionTrigger; (try dsimp only); (repeat' split) <;> simp
@[simp] theorem positionTrigger_crane (i : SlotIx) (t : Term) (v : HeadIx) (g : SegIx) (u : List (HeadIx × Int)) : (positionTrigger i t v g u s).crane = s.crane := by
  unfold positionTrigger; (try dsimp only); (repeat' split) <;> simp
@[simp] theorem positionTrigger_cov (i : SlotIx) (t : Term) (v : HeadIx) (g : SegIx) (u : List (HeadIx × Int)) : (positionTrigger i t v g u s).cov = s.cov := by
  unfold positionTrigger; (try dsimp only); (repeat' split) <;> simp
@[simp] theorem positionTrigger_loops (i : SlotIx) (t : Term) (v : HeadIx) (g : SegIx) (u : List (HeadIx × Int)) : (positionTrigger i t v g u s).loops = s.loops := by
  unfold positionTrigger; (try dsimp only); (repeat' split) <;> simp
@[simp] theorem positionTrigger_reef (i : SlotIx) (t : Term) (v : HeadIx) (g : SegIx) (u : List (HeadIx × Int)) : (positionTrigger i t v g u s).reef = s.reef := by
  unfold positionTrigger; (try dsimp only); (repeat' split) <;> simp
@[simp] theorem positionTrigger_exp (i : SlotIx) (t : Term) (v : HeadIx) (g : SegIx) (u : List (HeadIx × Int)) : (positionTrigger i t v g u s).exp = s.exp := by
  unfold positionTrigger; (try dsimp only); (repeat' split) <;> simp

/-! ### An evaluation -/

@[simp] theorem evaluateServed_pending (i : SlotIx) (t : Term) (v : HeadIx) (u : List (HeadIx × Int)) : (evaluateServed i t v u s).pending = s.pending := by
  unfold evaluateServed; (try dsimp only); (repeat' split) <;> simp
@[simp] theorem evaluateServed_choice (i : SlotIx) (t : Term) (v : HeadIx) (u : List (HeadIx × Int)) : (evaluateServed i t v u s).choice = s.choice := by
  unfold evaluateServed; (try dsimp only); (repeat' split) <;> simp
@[simp] theorem evaluateServed_inReset (i : SlotIx) (t : Term) (v : HeadIx) (u : List (HeadIx × Int)) : (evaluateServed i t v u s).inReset = s.inReset := by
  unfold evaluateServed; (try dsimp only); (repeat' split) <;> simp
@[simp] theorem evaluateServed_uptime (i : SlotIx) (t : Term) (v : HeadIx) (u : List (HeadIx × Int)) : (evaluateServed i t v u s).uptime = s.uptime := by
  unfold evaluateServed; (try dsimp only); (repeat' split) <;> simp
@[simp] theorem evaluateServed_node (i : SlotIx) (t : Term) (v : HeadIx) (u : List (HeadIx × Int)) : (evaluateServed i t v u s).node = s.node := by
  unfold evaluateServed; (try dsimp only); (repeat' split) <;> simp
@[simp] theorem evaluateServed_part (i : SlotIx) (t : Term) (v : HeadIx) (u : List (HeadIx × Int)) : (evaluateServed i t v u s).part = s.part := by
  unfold evaluateServed; (try dsimp only); (repeat' split) <;> simp
@[simp] theorem evaluateServed_mgmt (i : SlotIx) (t : Term) (v : HeadIx) (u : List (HeadIx × Int)) : (evaluateServed i t v u s).mgmt = s.mgmt := by
  unfold evaluateServed; (try dsimp only); (repeat' split) <;> simp
@[simp] theorem evaluateServed_trunk (i : SlotIx) (t : Term) (v : HeadIx) (u : List (HeadIx × Int)) : (evaluateServed i t v u s).trunk = s.trunk := by
  unfold evaluateServed; (try dsimp only); (repeat' split) <;> simp
@[simp] theorem evaluateServed_cls (i : SlotIx) (t : Term) (v : HeadIx) (u : List (HeadIx × Int)) : (evaluateServed i t v u s).cls = s.cls := by
  unfold evaluateServed; (try dsimp only); (repeat' split) <;> simp
@[simp] theorem evaluateServed_segs (i : SlotIx) (t : Term) (v : HeadIx) (u : List (HeadIx × Int)) : (evaluateServed i t v u s).segs = s.segs := by
  unfold evaluateServed; (try dsimp only); (repeat' split) <;> simp
@[simp] theorem evaluateServed_crane (i : SlotIx) (t : Term) (v : HeadIx) (u : List (HeadIx × Int)) : (evaluateServed i t v u s).crane = s.crane := by
  unfold evaluateServed; (try dsimp only); (repeat' split) <;> simp
@[simp] theorem evaluateServed_cov (i : SlotIx) (t : Term) (v : HeadIx) (u : List (HeadIx × Int)) : (evaluateServed i t v u s).cov = s.cov := by
  unfold evaluateServed; (try dsimp only); (repeat' split) <;> simp
@[simp] theorem evaluateServed_loops (i : SlotIx) (t : Term) (v : HeadIx) (u : List (HeadIx × Int)) : (evaluateServed i t v u s).loops = s.loops := by
  unfold evaluateServed; (try dsimp only); (repeat' split) <;> simp
@[simp] theorem evaluateServed_reef (i : SlotIx) (t : Term) (v : HeadIx) (u : List (HeadIx × Int)) : (evaluateServed i t v u s).reef = s.reef := by
  unfold evaluateServed; (try dsimp only); (repeat' split) <;> simp
@[simp] theorem evaluateServed_exp (i : SlotIx) (t : Term) (v : HeadIx) (u : List (HeadIx × Int)) : (evaluateServed i t v u s).exp = s.exp := by
  unfold evaluateServed; (try dsimp only); (repeat' split) <;> simp

/-! ### An evaluation -/

@[simp] theorem evaluate_pending (i : SlotIx) (u : List (HeadIx × Int)) : (evaluate i u s).pending = s.pending := by
  unfold evaluate; (try dsimp only); (repeat' split) <;> simp
@[simp] theorem evaluate_choice (i : SlotIx) (u : List (HeadIx × Int)) : (evaluate i u s).choice = s.choice := by
  unfold evaluate; (try dsimp only); (repeat' split) <;> simp
@[simp] theorem evaluate_inReset (i : SlotIx) (u : List (HeadIx × Int)) : (evaluate i u s).inReset = s.inReset := by
  unfold evaluate; (try dsimp only); (repeat' split) <;> simp
@[simp] theorem evaluate_uptime (i : SlotIx) (u : List (HeadIx × Int)) : (evaluate i u s).uptime = s.uptime := by
  unfold evaluate; (try dsimp only); (repeat' split) <;> simp
@[simp] theorem evaluate_node (i : SlotIx) (u : List (HeadIx × Int)) : (evaluate i u s).node = s.node := by
  unfold evaluate; (try dsimp only); (repeat' split) <;> simp
@[simp] theorem evaluate_part (i : SlotIx) (u : List (HeadIx × Int)) : (evaluate i u s).part = s.part := by
  unfold evaluate; (try dsimp only); (repeat' split) <;> simp
@[simp] theorem evaluate_mgmt (i : SlotIx) (u : List (HeadIx × Int)) : (evaluate i u s).mgmt = s.mgmt := by
  unfold evaluate; (try dsimp only); (repeat' split) <;> simp
@[simp] theorem evaluate_trunk (i : SlotIx) (u : List (HeadIx × Int)) : (evaluate i u s).trunk = s.trunk := by
  unfold evaluate; (try dsimp only); (repeat' split) <;> simp
@[simp] theorem evaluate_cls (i : SlotIx) (u : List (HeadIx × Int)) : (evaluate i u s).cls = s.cls := by
  unfold evaluate; (try dsimp only); (repeat' split) <;> simp
@[simp] theorem evaluate_segs (i : SlotIx) (u : List (HeadIx × Int)) : (evaluate i u s).segs = s.segs := by
  unfold evaluate; (try dsimp only); (repeat' split) <;> simp
@[simp] theorem evaluate_crane (i : SlotIx) (u : List (HeadIx × Int)) : (evaluate i u s).crane = s.crane := by
  unfold evaluate; (try dsimp only); (repeat' split) <;> simp
@[simp] theorem evaluate_cov (i : SlotIx) (u : List (HeadIx × Int)) : (evaluate i u s).cov = s.cov := by
  unfold evaluate; (try dsimp only); (repeat' split) <;> simp
@[simp] theorem evaluate_loops (i : SlotIx) (u : List (HeadIx × Int)) : (evaluate i u s).loops = s.loops := by
  unfold evaluate; (try dsimp only); (repeat' split) <;> simp
@[simp] theorem evaluate_reef (i : SlotIx) (u : List (HeadIx × Int)) : (evaluate i u s).reef = s.reef := by
  unfold evaluate; (try dsimp only); (repeat' split) <;> simp
@[simp] theorem evaluate_exp (i : SlotIx) (u : List (HeadIx × Int)) : (evaluate i u s).exp = s.exp := by
  unfold evaluate; (try dsimp only); (repeat' split) <;> simp

/-! ### The engine on a report -/

@[simp] theorem engineReport_pending (i : SlotIx) (r : Sorted) : (engineReport i r s).pending = s.pending := by
  unfold engineReport; simp
@[simp] theorem engineReport_choice (i : SlotIx) (r : Sorted) : (engineReport i r s).choice = s.choice := by
  unfold engineReport; simp
@[simp] theorem engineReport_inReset (i : SlotIx) (r : Sorted) : (engineReport i r s).inReset = s.inReset := by
  unfold engineReport; simp
@[simp] theorem engineReport_uptime (i : SlotIx) (r : Sorted) : (engineReport i r s).uptime = s.uptime := by
  unfold engineReport; simp
@[simp] theorem engineReport_node (i : SlotIx) (r : Sorted) : (engineReport i r s).node = s.node := by
  unfold engineReport; simp
@[simp] theorem engineReport_part (i : SlotIx) (r : Sorted) : (engineReport i r s).part = s.part := by
  unfold engineReport; simp
@[simp] theorem engineReport_mgmt (i : SlotIx) (r : Sorted) : (engineReport i r s).mgmt = s.mgmt := by
  unfold engineReport; simp
@[simp] theorem engineReport_trunk (i : SlotIx) (r : Sorted) : (engineReport i r s).trunk = s.trunk := by
  unfold engineReport; simp
@[simp] theorem engineReport_cls (i : SlotIx) (r : Sorted) : (engineReport i r s).cls = s.cls := by
  unfold engineReport; simp
@[simp] theorem engineReport_segs (i : SlotIx) (r : Sorted) : (engineReport i r s).segs = s.segs := by
  unfold engineReport; simp
@[simp] theorem engineReport_crane (i : SlotIx) (r : Sorted) : (engineReport i r s).crane = s.crane := by
  unfold engineReport; simp
@[simp] theorem engineReport_cov (i : SlotIx) (r : Sorted) : (engineReport i r s).cov = s.cov := by
  unfold engineReport; simp
@[simp] theorem engineReport_loops (i : SlotIx) (r : Sorted) : (engineReport i r s).loops = s.loops := by
  unfold engineReport; simp
@[simp] theorem engineReport_reef (i : SlotIx) (r : Sorted) : (engineReport i r s).reef = s.reef := by
  unfold engineReport; simp
@[simp] theorem engineReport_exp (i : SlotIx) (r : Sorted) : (engineReport i r s).exp = s.exp := by
  unfold engineReport; simp

/-! ### Setpoints (R116) -/

@[simp] theorem offerSetpoint_pending (h : HeadIx) (v : Nat) : (offerSetpoint h v s).pending = s.pending := by
  unfold offerSetpoint; simp
@[simp] theorem offerSetpoint_choice (h : HeadIx) (v : Nat) : (offerSetpoint h v s).choice = s.choice := by
  unfold offerSetpoint; simp
@[simp] theorem offerSetpoint_inReset (h : HeadIx) (v : Nat) : (offerSetpoint h v s).inReset = s.inReset := by
  unfold offerSetpoint; simp
@[simp] theorem offerSetpoint_uptime (h : HeadIx) (v : Nat) : (offerSetpoint h v s).uptime = s.uptime := by
  unfold offerSetpoint; simp
@[simp] theorem offerSetpoint_node (h : HeadIx) (v : Nat) : (offerSetpoint h v s).node = s.node := by
  unfold offerSetpoint; simp
@[simp] theorem offerSetpoint_part (h : HeadIx) (v : Nat) : (offerSetpoint h v s).part = s.part := by
  unfold offerSetpoint; simp
@[simp] theorem offerSetpoint_mgmt (h : HeadIx) (v : Nat) : (offerSetpoint h v s).mgmt = s.mgmt := by
  unfold offerSetpoint; simp
@[simp] theorem offerSetpoint_trunk (h : HeadIx) (v : Nat) : (offerSetpoint h v s).trunk = s.trunk := by
  unfold offerSetpoint; simp
@[simp] theorem offerSetpoint_cls (h : HeadIx) (v : Nat) : (offerSetpoint h v s).cls = s.cls := by
  unfold offerSetpoint; simp
@[simp] theorem offerSetpoint_terms (h : HeadIx) (v : Nat) : (offerSetpoint h v s).terms = s.terms := by
  unfold offerSetpoint; simp
@[simp] theorem offerSetpoint_segs (h : HeadIx) (v : Nat) : (offerSetpoint h v s).segs = s.segs := by
  unfold offerSetpoint; simp
@[simp] theorem offerSetpoint_ho (h : HeadIx) (v : Nat) : (offerSetpoint h v s).ho = s.ho := by
  unfold offerSetpoint; simp
@[simp] theorem offerSetpoint_crane (h : HeadIx) (v : Nat) : (offerSetpoint h v s).crane = s.crane := by
  unfold offerSetpoint; simp
@[simp] theorem offerSetpoint_cov (h : HeadIx) (v : Nat) : (offerSetpoint h v s).cov = s.cov := by
  unfold offerSetpoint; simp
@[simp] theorem offerSetpoint_reef (h : HeadIx) (v : Nat) : (offerSetpoint h v s).reef = s.reef := by
  unfold offerSetpoint; simp
@[simp] theorem offerSetpoint_exp (h : HeadIx) (v : Nat) : (offerSetpoint h v s).exp = s.exp := by
  unfold offerSetpoint; simp

/-! ### The output offered -/

@[simp] theorem offerOutput_pending (h : HeadIx) : (offerOutput h s).pending = s.pending := by
  unfold offerOutput; simp
@[simp] theorem offerOutput_choice (h : HeadIx) : (offerOutput h s).choice = s.choice := by
  unfold offerOutput; simp
@[simp] theorem offerOutput_inReset (h : HeadIx) : (offerOutput h s).inReset = s.inReset := by
  unfold offerOutput; simp
@[simp] theorem offerOutput_uptime (h : HeadIx) : (offerOutput h s).uptime = s.uptime := by
  unfold offerOutput; simp
@[simp] theorem offerOutput_node (h : HeadIx) : (offerOutput h s).node = s.node := by
  unfold offerOutput; simp
@[simp] theorem offerOutput_part (h : HeadIx) : (offerOutput h s).part = s.part := by
  unfold offerOutput; simp
@[simp] theorem offerOutput_mgmt (h : HeadIx) : (offerOutput h s).mgmt = s.mgmt := by
  unfold offerOutput; simp
@[simp] theorem offerOutput_trunk (h : HeadIx) : (offerOutput h s).trunk = s.trunk := by
  unfold offerOutput; simp
@[simp] theorem offerOutput_cls (h : HeadIx) : (offerOutput h s).cls = s.cls := by
  unfold offerOutput; simp
@[simp] theorem offerOutput_terms (h : HeadIx) : (offerOutput h s).terms = s.terms := by
  unfold offerOutput; simp
@[simp] theorem offerOutput_segs (h : HeadIx) : (offerOutput h s).segs = s.segs := by
  unfold offerOutput; simp
@[simp] theorem offerOutput_ho (h : HeadIx) : (offerOutput h s).ho = s.ho := by
  unfold offerOutput; simp
@[simp] theorem offerOutput_crane (h : HeadIx) : (offerOutput h s).crane = s.crane := by
  unfold offerOutput; simp
@[simp] theorem offerOutput_cov (h : HeadIx) : (offerOutput h s).cov = s.cov := by
  unfold offerOutput; simp
@[simp] theorem offerOutput_reef (h : HeadIx) : (offerOutput h s).reef = s.reef := by
  unfold offerOutput; simp
@[simp] theorem offerOutput_exp (h : HeadIx) : (offerOutput h s).exp = s.exp := by
  unfold offerOutput; simp

/-! ### Guard entry (R118) -/

@[simp] theorem enterGuarded_pending (h : HeadIx) (n : Byte) : (enterGuarded h n s).pending = s.pending := by
  unfold enterGuarded; simp
@[simp] theorem enterGuarded_choice (h : HeadIx) (n : Byte) : (enterGuarded h n s).choice = s.choice := by
  unfold enterGuarded; simp
@[simp] theorem enterGuarded_inReset (h : HeadIx) (n : Byte) : (enterGuarded h n s).inReset = s.inReset := by
  unfold enterGuarded; simp
@[simp] theorem enterGuarded_uptime (h : HeadIx) (n : Byte) : (enterGuarded h n s).uptime = s.uptime := by
  unfold enterGuarded; simp
@[simp] theorem enterGuarded_node (h : HeadIx) (n : Byte) : (enterGuarded h n s).node = s.node := by
  unfold enterGuarded; simp
@[simp] theorem enterGuarded_part (h : HeadIx) (n : Byte) : (enterGuarded h n s).part = s.part := by
  unfold enterGuarded; simp
@[simp] theorem enterGuarded_cls (h : HeadIx) (n : Byte) : (enterGuarded h n s).cls = s.cls := by
  unfold enterGuarded; simp
@[simp] theorem enterGuarded_terms (h : HeadIx) (n : Byte) : (enterGuarded h n s).terms = s.terms := by
  unfold enterGuarded; simp
@[simp] theorem enterGuarded_segs (h : HeadIx) (n : Byte) : (enterGuarded h n s).segs = s.segs := by
  unfold enterGuarded; simp
@[simp] theorem enterGuarded_ho (h : HeadIx) (n : Byte) : (enterGuarded h n s).ho = s.ho := by
  unfold enterGuarded; simp
@[simp] theorem enterGuarded_crane (h : HeadIx) (n : Byte) : (enterGuarded h n s).crane = s.crane := by
  unfold enterGuarded; simp
@[simp] theorem enterGuarded_cov (h : HeadIx) (n : Byte) : (enterGuarded h n s).cov = s.cov := by
  unfold enterGuarded; simp
@[simp] theorem enterGuarded_reef (h : HeadIx) (n : Byte) : (enterGuarded h n s).reef = s.reef := by
  unfold enterGuarded; simp
@[simp] theorem enterGuarded_exp (h : HeadIx) (n : Byte) : (enterGuarded h n s).exp = s.exp := by
  unfold enterGuarded; simp

/-! ### Guard exit (R119) -/

@[simp] theorem leaveGuarded_pending (h : HeadIx) (c : Nat) : (leaveGuarded h c s).pending = s.pending := by
  unfold leaveGuarded; simp
@[simp] theorem leaveGuarded_choice (h : HeadIx) (c : Nat) : (leaveGuarded h c s).choice = s.choice := by
  unfold leaveGuarded; simp
@[simp] theorem leaveGuarded_inReset (h : HeadIx) (c : Nat) : (leaveGuarded h c s).inReset = s.inReset := by
  unfold leaveGuarded; simp
@[simp] theorem leaveGuarded_uptime (h : HeadIx) (c : Nat) : (leaveGuarded h c s).uptime = s.uptime := by
  unfold leaveGuarded; simp
@[simp] theorem leaveGuarded_node (h : HeadIx) (c : Nat) : (leaveGuarded h c s).node = s.node := by
  unfold leaveGuarded; simp
@[simp] theorem leaveGuarded_part (h : HeadIx) (c : Nat) : (leaveGuarded h c s).part = s.part := by
  unfold leaveGuarded; simp
@[simp] theorem leaveGuarded_cls (h : HeadIx) (c : Nat) : (leaveGuarded h c s).cls = s.cls := by
  unfold leaveGuarded; simp
@[simp] theorem leaveGuarded_terms (h : HeadIx) (c : Nat) : (leaveGuarded h c s).terms = s.terms := by
  unfold leaveGuarded; simp
@[simp] theorem leaveGuarded_segs (h : HeadIx) (c : Nat) : (leaveGuarded h c s).segs = s.segs := by
  unfold leaveGuarded; simp
@[simp] theorem leaveGuarded_ho (h : HeadIx) (c : Nat) : (leaveGuarded h c s).ho = s.ho := by
  unfold leaveGuarded; simp
@[simp] theorem leaveGuarded_crane (h : HeadIx) (c : Nat) : (leaveGuarded h c s).crane = s.crane := by
  unfold leaveGuarded; simp
@[simp] theorem leaveGuarded_cov (h : HeadIx) (c : Nat) : (leaveGuarded h c s).cov = s.cov := by
  unfold leaveGuarded; simp
@[simp] theorem leaveGuarded_reef (h : HeadIx) (c : Nat) : (leaveGuarded h c s).reef = s.reef := by
  unfold leaveGuarded; simp
@[simp] theorem leaveGuarded_exp (h : HeadIx) (c : Nat) : (leaveGuarded h c s).exp = s.exp := by
  unfold leaveGuarded; simp

/-! ### The guard -/

@[simp] theorem guardEval_pending (h : HeadIx) (n : Byte) : (guardEval h n s).pending = s.pending := by
  unfold guardEval setRun; dsimp only; (repeat' split) <;> simp
@[simp] theorem guardEval_choice (h : HeadIx) (n : Byte) : (guardEval h n s).choice = s.choice := by
  unfold guardEval setRun; dsimp only; (repeat' split) <;> simp
@[simp] theorem guardEval_inReset (h : HeadIx) (n : Byte) : (guardEval h n s).inReset = s.inReset := by
  unfold guardEval setRun; dsimp only; (repeat' split) <;> simp
@[simp] theorem guardEval_uptime (h : HeadIx) (n : Byte) : (guardEval h n s).uptime = s.uptime := by
  unfold guardEval setRun; dsimp only; (repeat' split) <;> simp
@[simp] theorem guardEval_node (h : HeadIx) (n : Byte) : (guardEval h n s).node = s.node := by
  unfold guardEval setRun; dsimp only; (repeat' split) <;> simp
@[simp] theorem guardEval_part (h : HeadIx) (n : Byte) : (guardEval h n s).part = s.part := by
  unfold guardEval setRun; dsimp only; (repeat' split) <;> simp
@[simp] theorem guardEval_cls (h : HeadIx) (n : Byte) : (guardEval h n s).cls = s.cls := by
  unfold guardEval setRun; dsimp only; (repeat' split) <;> simp
@[simp] theorem guardEval_terms (h : HeadIx) (n : Byte) : (guardEval h n s).terms = s.terms := by
  unfold guardEval setRun; dsimp only; (repeat' split) <;> simp
@[simp] theorem guardEval_segs (h : HeadIx) (n : Byte) : (guardEval h n s).segs = s.segs := by
  unfold guardEval setRun; dsimp only; (repeat' split) <;> simp
@[simp] theorem guardEval_ho (h : HeadIx) (n : Byte) : (guardEval h n s).ho = s.ho := by
  unfold guardEval setRun; dsimp only; (repeat' split) <;> simp
@[simp] theorem guardEval_crane (h : HeadIx) (n : Byte) : (guardEval h n s).crane = s.crane := by
  unfold guardEval setRun; dsimp only; (repeat' split) <;> simp
@[simp] theorem guardEval_cov (h : HeadIx) (n : Byte) : (guardEval h n s).cov = s.cov := by
  unfold guardEval setRun; dsimp only; (repeat' split) <;> simp
@[simp] theorem guardEval_reef (h : HeadIx) (n : Byte) : (guardEval h n s).reef = s.reef := by
  unfold guardEval setRun; dsimp only; (repeat' split) <;> simp
@[simp] theorem guardEval_exp (h : HeadIx) (n : Byte) : (guardEval h n s).exp = s.exp := by
  unfold guardEval setRun; dsimp only; (repeat' split) <;> simp

end Sys2Proof.Machine
end

