-- ==== Sys2Proof/Laws/BlockFrames.lean ====
section
/-! SUPPORT. What the operations of each block leave unchanged, field by field. -/

namespace Sys2Proof.Machine
open Sys2Proof

variable (s : State)

/-! ### Crane activity (R68) -/

@[simp] theorem craneActivity_pending (i : SlotIx) (h : HeadIx) : (craneActivity i h s).pending = s.pending := by
  unfold craneActivity; (try dsimp only); (repeat' split) <;> simp
@[simp] theorem craneActivity_choice (i : SlotIx) (h : HeadIx) : (craneActivity i h s).choice = s.choice := by
  unfold craneActivity; (try dsimp only); (repeat' split) <;> simp
@[simp] theorem craneActivity_inReset (i : SlotIx) (h : HeadIx) : (craneActivity i h s).inReset = s.inReset := by
  unfold craneActivity; (try dsimp only); (repeat' split) <;> simp
@[simp] theorem craneActivity_uptime (i : SlotIx) (h : HeadIx) : (craneActivity i h s).uptime = s.uptime := by
  unfold craneActivity; (try dsimp only); (repeat' split) <;> simp
@[simp] theorem craneActivity_node (i : SlotIx) (h : HeadIx) : (craneActivity i h s).node = s.node := by
  unfold craneActivity; (try dsimp only); (repeat' split) <;> simp
@[simp] theorem craneActivity_part (i : SlotIx) (h : HeadIx) : (craneActivity i h s).part = s.part := by
  unfold craneActivity; (try dsimp only); (repeat' split) <;> simp
@[simp] theorem craneActivity_heads (i : SlotIx) (h : HeadIx) : (craneActivity i h s).heads = s.heads := by
  unfold craneActivity; (try dsimp only); (repeat' split) <;> simp
@[simp] theorem craneActivity_cls (i : SlotIx) (h : HeadIx) : (craneActivity i h s).cls = s.cls := by
  unfold craneActivity; (try dsimp only); (repeat' split) <;> simp
@[simp] theorem craneActivity_segs (i : SlotIx) (h : HeadIx) : (craneActivity i h s).segs = s.segs := by
  unfold craneActivity; (try dsimp only); (repeat' split) <;> simp
@[simp] theorem craneActivity_ho (i : SlotIx) (h : HeadIx) : (craneActivity i h s).ho = s.ho := by
  unfold craneActivity; (try dsimp only); (repeat' split) <;> simp
@[simp] theorem craneActivity_cov (i : SlotIx) (h : HeadIx) : (craneActivity i h s).cov = s.cov := by
  unfold craneActivity; (try dsimp only); (repeat' split) <;> simp
@[simp] theorem craneActivity_loops (i : SlotIx) (h : HeadIx) : (craneActivity i h s).loops = s.loops := by
  unfold craneActivity; (try dsimp only); (repeat' split) <;> simp
@[simp] theorem craneActivity_reef (i : SlotIx) (h : HeadIx) : (craneActivity i h s).reef = s.reef := by
  unfold craneActivity; (try dsimp only); (repeat' split) <;> simp
@[simp] theorem craneActivity_exp (i : SlotIx) (h : HeadIx) : (craneActivity i h s).exp = s.exp := by
  unfold craneActivity; (try dsimp only); (repeat' split) <;> simp

/-! ### A crane lost (R69) -/

@[simp] theorem craneLost_pending (i : SlotIx) (t : Term) (c : CranePart) : (craneLost i t c s).pending = s.pending := by
  unfold craneLost; (try dsimp only); (repeat' split) <;> simp
@[simp] theorem craneLost_choice (i : SlotIx) (t : Term) (c : CranePart) : (craneLost i t c s).choice = s.choice := by
  unfold craneLost; (try dsimp only); (repeat' split) <;> simp
@[simp] theorem craneLost_inReset (i : SlotIx) (t : Term) (c : CranePart) : (craneLost i t c s).inReset = s.inReset := by
  unfold craneLost; (try dsimp only); (repeat' split) <;> simp
@[simp] theorem craneLost_uptime (i : SlotIx) (t : Term) (c : CranePart) : (craneLost i t c s).uptime = s.uptime := by
  unfold craneLost; (try dsimp only); (repeat' split) <;> simp
@[simp] theorem craneLost_node (i : SlotIx) (t : Term) (c : CranePart) : (craneLost i t c s).node = s.node := by
  unfold craneLost; (try dsimp only); (repeat' split) <;> simp
@[simp] theorem craneLost_part (i : SlotIx) (t : Term) (c : CranePart) : (craneLost i t c s).part = s.part := by
  unfold craneLost; (try dsimp only); (repeat' split) <;> simp
@[simp] theorem craneLost_cls (i : SlotIx) (t : Term) (c : CranePart) : (craneLost i t c s).cls = s.cls := by
  unfold craneLost; (try dsimp only); (repeat' split) <;> simp
@[simp] theorem craneLost_segs (i : SlotIx) (t : Term) (c : CranePart) : (craneLost i t c s).segs = s.segs := by
  unfold craneLost; (try dsimp only); (repeat' split) <;> simp
@[simp] theorem craneLost_ho (i : SlotIx) (t : Term) (c : CranePart) : (craneLost i t c s).ho = s.ho := by
  unfold craneLost; (try dsimp only); (repeat' split) <;> simp
@[simp] theorem craneLost_cov (i : SlotIx) (t : Term) (c : CranePart) : (craneLost i t c s).cov = s.cov := by
  unfold craneLost; (try dsimp only); (repeat' split) <;> simp
@[simp] theorem craneLost_loops (i : SlotIx) (t : Term) (c : CranePart) : (craneLost i t c s).loops = s.loops := by
  unfold craneLost; (try dsimp only); (repeat' split) <;> simp
@[simp] theorem craneLost_reef (i : SlotIx) (t : Term) (c : CranePart) : (craneLost i t c s).reef = s.reef := by
  unfold craneLost; (try dsimp only); (repeat' split) <;> simp
@[simp] theorem craneLost_exp (i : SlotIx) (t : Term) (c : CranePart) : (craneLost i t c s).exp = s.exp := by
  unfold craneLost; (try dsimp only); (repeat' split) <;> simp

/-! ### The window's decision counted -/

@[simp] theorem countDecision_pending (d : WindowDecision) : (countDecision d s).pending = s.pending := by
  unfold countDecision; simp
@[simp] theorem countDecision_choice (d : WindowDecision) : (countDecision d s).choice = s.choice := by
  unfold countDecision; simp
@[simp] theorem countDecision_inReset (d : WindowDecision) : (countDecision d s).inReset = s.inReset := by
  unfold countDecision; simp
@[simp] theorem countDecision_uptime (d : WindowDecision) : (countDecision d s).uptime = s.uptime := by
  unfold countDecision; simp
@[simp] theorem countDecision_node (d : WindowDecision) : (countDecision d s).node = s.node := by
  unfold countDecision; simp
@[simp] theorem countDecision_part (d : WindowDecision) : (countDecision d s).part = s.part := by
  unfold countDecision; simp
@[simp] theorem countDecision_mgmt (d : WindowDecision) : (countDecision d s).mgmt = s.mgmt := by
  unfold countDecision; simp
@[simp] theorem countDecision_heads (d : WindowDecision) : (countDecision d s).heads = s.heads := by
  unfold countDecision; simp
@[simp] theorem countDecision_trunk (d : WindowDecision) : (countDecision d s).trunk = s.trunk := by
  unfold countDecision; simp
@[simp] theorem countDecision_cls (d : WindowDecision) : (countDecision d s).cls = s.cls := by
  unfold countDecision; simp
@[simp] theorem countDecision_terms (d : WindowDecision) : (countDecision d s).terms = s.terms := by
  unfold countDecision; simp
@[simp] theorem countDecision_segs (d : WindowDecision) : (countDecision d s).segs = s.segs := by
  unfold countDecision; simp
@[simp] theorem countDecision_ho (d : WindowDecision) : (countDecision d s).ho = s.ho := by
  unfold countDecision; simp
@[simp] theorem countDecision_cov (d : WindowDecision) : (countDecision d s).cov = s.cov := by
  unfold countDecision; simp
@[simp] theorem countDecision_loops (d : WindowDecision) : (countDecision d s).loops = s.loops := by
  unfold countDecision; simp
@[simp] theorem countDecision_reef (d : WindowDecision) : (countDecision d s).reef = s.reef := by
  unfold countDecision; simp
@[simp] theorem countDecision_exp (d : WindowDecision) : (countDecision d s).exp = s.exp := by
  unfold countDecision; simp

/-! ### The flush deadline armed (R147) -/

@[simp] theorem armFlush_pending  : (armFlush s).pending = s.pending := by
  unfold armFlush; (try dsimp only); (repeat' split) <;> simp
@[simp] theorem armFlush_choice  : (armFlush s).choice = s.choice := by
  unfold armFlush; (try dsimp only); (repeat' split) <;> simp
@[simp] theorem armFlush_inReset  : (armFlush s).inReset = s.inReset := by
  unfold armFlush; (try dsimp only); (repeat' split) <;> simp
@[simp] theorem armFlush_uptime  : (armFlush s).uptime = s.uptime := by
  unfold armFlush; (try dsimp only); (repeat' split) <;> simp
@[simp] theorem armFlush_node  : (armFlush s).node = s.node := by
  unfold armFlush; (try dsimp only); (repeat' split) <;> simp
@[simp] theorem armFlush_part  : (armFlush s).part = s.part := by
  unfold armFlush; (try dsimp only); (repeat' split) <;> simp
@[simp] theorem armFlush_mgmt  : (armFlush s).mgmt = s.mgmt := by
  unfold armFlush; (try dsimp only); (repeat' split) <;> simp
@[simp] theorem armFlush_heads  : (armFlush s).heads = s.heads := by
  unfold armFlush; (try dsimp only); (repeat' split) <;> simp
@[simp] theorem armFlush_trunk  : (armFlush s).trunk = s.trunk := by
  unfold armFlush; (try dsimp only); (repeat' split) <;> simp
@[simp] theorem armFlush_cls  : (armFlush s).cls = s.cls := by
  unfold armFlush; (try dsimp only); (repeat' split) <;> simp
@[simp] theorem armFlush_terms  : (armFlush s).terms = s.terms := by
  unfold armFlush; (try dsimp only); (repeat' split) <;> simp
@[simp] theorem armFlush_segs  : (armFlush s).segs = s.segs := by
  unfold armFlush; (try dsimp only); (repeat' split) <;> simp
@[simp] theorem armFlush_ho  : (armFlush s).ho = s.ho := by
  unfold armFlush; (try dsimp only); (repeat' split) <;> simp
@[simp] theorem armFlush_crane  : (armFlush s).crane = s.crane := by
  unfold armFlush; (try dsimp only); (repeat' split) <;> simp
@[simp] theorem armFlush_cov  : (armFlush s).cov = s.cov := by
  unfold armFlush; (try dsimp only); (repeat' split) <;> simp
@[simp] theorem armFlush_loops  : (armFlush s).loops = s.loops := by
  unfold armFlush; (try dsimp only); (repeat' split) <;> simp
@[simp] theorem armFlush_reef  : (armFlush s).reef = s.reef := by
  unfold armFlush; (try dsimp only); (repeat' split) <;> simp

/-! ### The export request judged (R148) -/

@[simp] theorem judgeRequest_pending  : (judgeRequest s).pending = s.pending := by
  unfold judgeRequest; (try dsimp only); (repeat' split) <;> simp
@[simp] theorem judgeRequest_choice  : (judgeRequest s).choice = s.choice := by
  unfold judgeRequest; (try dsimp only); (repeat' split) <;> simp
@[simp] theorem judgeRequest_inReset  : (judgeRequest s).inReset = s.inReset := by
  unfold judgeRequest; (try dsimp only); (repeat' split) <;> simp
@[simp] theorem judgeRequest_uptime  : (judgeRequest s).uptime = s.uptime := by
  unfold judgeRequest; (try dsimp only); (repeat' split) <;> simp
@[simp] theorem judgeRequest_node  : (judgeRequest s).node = s.node := by
  unfold judgeRequest; (try dsimp only); (repeat' split) <;> simp
@[simp] theorem judgeRequest_part  : (judgeRequest s).part = s.part := by
  unfold judgeRequest; (try dsimp only); (repeat' split) <;> simp
@[simp] theorem judgeRequest_mgmt  : (judgeRequest s).mgmt = s.mgmt := by
  unfold judgeRequest; (try dsimp only); (repeat' split) <;> simp
@[simp] theorem judgeRequest_heads  : (judgeRequest s).heads = s.heads := by
  unfold judgeRequest; (try dsimp only); (repeat' split) <;> simp
@[simp] theorem judgeRequest_cls  : (judgeRequest s).cls = s.cls := by
  unfold judgeRequest; (try dsimp only); (repeat' split) <;> simp
@[simp] theorem judgeRequest_terms  : (judgeRequest s).terms = s.terms := by
  unfold judgeRequest; (try dsimp only); (repeat' split) <;> simp
@[simp] theorem judgeRequest_segs  : (judgeRequest s).segs = s.segs := by
  unfold judgeRequest; (try dsimp only); (repeat' split) <;> simp
@[simp] theorem judgeRequest_ho  : (judgeRequest s).ho = s.ho := by
  unfold judgeRequest; (try dsimp only); (repeat' split) <;> simp
@[simp] theorem judgeRequest_crane  : (judgeRequest s).crane = s.crane := by
  unfold judgeRequest; (try dsimp only); (repeat' split) <;> simp
@[simp] theorem judgeRequest_cov  : (judgeRequest s).cov = s.cov := by
  unfold judgeRequest; (try dsimp only); (repeat' split) <;> simp
@[simp] theorem judgeRequest_loops  : (judgeRequest s).loops = s.loops := by
  unfold judgeRequest; (try dsimp only); (repeat' split) <;> simp
@[simp] theorem judgeRequest_reef  : (judgeRequest s).reef = s.reef := by
  unfold judgeRequest; (try dsimp only); (repeat' split) <;> simp

/-! ### A qualifying offer (R146) -/

@[simp] theorem joinList_pending (i : ReeferIx) (r : Reefer) (y : Reason) : (joinList i r y s).pending = s.pending := by
  unfold joinList; (try dsimp only); (repeat' split) <;> simp
@[simp] theorem joinList_choice (i : ReeferIx) (r : Reefer) (y : Reason) : (joinList i r y s).choice = s.choice := by
  unfold joinList; (try dsimp only); (repeat' split) <;> simp
@[simp] theorem joinList_inReset (i : ReeferIx) (r : Reefer) (y : Reason) : (joinList i r y s).inReset = s.inReset := by
  unfold joinList; (try dsimp only); (repeat' split) <;> simp
@[simp] theorem joinList_uptime (i : ReeferIx) (r : Reefer) (y : Reason) : (joinList i r y s).uptime = s.uptime := by
  unfold joinList; (try dsimp only); (repeat' split) <;> simp
@[simp] theorem joinList_node (i : ReeferIx) (r : Reefer) (y : Reason) : (joinList i r y s).node = s.node := by
  unfold joinList; (try dsimp only); (repeat' split) <;> simp
@[simp] theorem joinList_part (i : ReeferIx) (r : Reefer) (y : Reason) : (joinList i r y s).part = s.part := by
  unfold joinList; (try dsimp only); (repeat' split) <;> simp
@[simp] theorem joinList_mgmt (i : ReeferIx) (r : Reefer) (y : Reason) : (joinList i r y s).mgmt = s.mgmt := by
  unfold joinList; (try dsimp only); (repeat' split) <;> simp
@[simp] theorem joinList_heads (i : ReeferIx) (r : Reefer) (y : Reason) : (joinList i r y s).heads = s.heads := by
  unfold joinList; (try dsimp only); (repeat' split) <;> simp
@[simp] theorem joinList_cls (i : ReeferIx) (r : Reefer) (y : Reason) : (joinList i r y s).cls = s.cls := by
  unfold joinList; (try dsimp only); (repeat' split) <;> simp
@[simp] theorem joinList_terms (i : ReeferIx) (r : Reefer) (y : Reason) : (joinList i r y s).terms = s.terms := by
  unfold joinList; (try dsimp only); (repeat' split) <;> simp
@[simp] theorem joinList_segs (i : ReeferIx) (r : Reefer) (y : Reason) : (joinList i r y s).segs = s.segs := by
  unfold joinList; (try dsimp only); (repeat' split) <;> simp
@[simp] theorem joinList_ho (i : ReeferIx) (r : Reefer) (y : Reason) : (joinList i r y s).ho = s.ho := by
  unfold joinList; (try dsimp only); (repeat' split) <;> simp
@[simp] theorem joinList_crane (i : ReeferIx) (r : Reefer) (y : Reason) : (joinList i r y s).crane = s.crane := by
  unfold joinList; (try dsimp only); (repeat' split) <;> simp
@[simp] theorem joinList_cov (i : ReeferIx) (r : Reefer) (y : Reason) : (joinList i r y s).cov = s.cov := by
  unfold joinList; (try dsimp only); (repeat' split) <;> simp
@[simp] theorem joinList_loops (i : ReeferIx) (r : Reefer) (y : Reason) : (joinList i r y s).loops = s.loops := by
  unfold joinList; (try dsimp only); (repeat' split) <;> simp

/-! ### An offer (R145) -/

@[simp] theorem offerExport_pending (i : ReeferIx) (b : ReeferState) : (offerExport i b s).pending = s.pending := by
  unfold offerExport; (try dsimp only); (repeat' split) <;> simp
@[simp] theorem offerExport_choice (i : ReeferIx) (b : ReeferState) : (offerExport i b s).choice = s.choice := by
  unfold offerExport; (try dsimp only); (repeat' split) <;> simp
@[simp] theorem offerExport_inReset (i : ReeferIx) (b : ReeferState) : (offerExport i b s).inReset = s.inReset := by
  unfold offerExport; (try dsimp only); (repeat' split) <;> simp
@[simp] theorem offerExport_uptime (i : ReeferIx) (b : ReeferState) : (offerExport i b s).uptime = s.uptime := by
  unfold offerExport; (try dsimp only); (repeat' split) <;> simp
@[simp] theorem offerExport_node (i : ReeferIx) (b : ReeferState) : (offerExport i b s).node = s.node := by
  unfold offerExport; (try dsimp only); (repeat' split) <;> simp
@[simp] theorem offerExport_part (i : ReeferIx) (b : ReeferState) : (offerExport i b s).part = s.part := by
  unfold offerExport; (try dsimp only); (repeat' split) <;> simp
@[simp] theorem offerExport_mgmt (i : ReeferIx) (b : ReeferState) : (offerExport i b s).mgmt = s.mgmt := by
  unfold offerExport; (try dsimp only); (repeat' split) <;> simp
@[simp] theorem offerExport_heads (i : ReeferIx) (b : ReeferState) : (offerExport i b s).heads = s.heads := by
  unfold offerExport; (try dsimp only); (repeat' split) <;> simp
@[simp] theorem offerExport_cls (i : ReeferIx) (b : ReeferState) : (offerExport i b s).cls = s.cls := by
  unfold offerExport; (try dsimp only); (repeat' split) <;> simp
@[simp] theorem offerExport_terms (i : ReeferIx) (b : ReeferState) : (offerExport i b s).terms = s.terms := by
  unfold offerExport; (try dsimp only); (repeat' split) <;> simp
@[simp] theorem offerExport_segs (i : ReeferIx) (b : ReeferState) : (offerExport i b s).segs = s.segs := by
  unfold offerExport; (try dsimp only); (repeat' split) <;> simp
@[simp] theorem offerExport_ho (i : ReeferIx) (b : ReeferState) : (offerExport i b s).ho = s.ho := by
  unfold offerExport; (try dsimp only); (repeat' split) <;> simp
@[simp] theorem offerExport_crane (i : ReeferIx) (b : ReeferState) : (offerExport i b s).crane = s.crane := by
  unfold offerExport; (try dsimp only); (repeat' split) <;> simp
@[simp] theorem offerExport_cov (i : ReeferIx) (b : ReeferState) : (offerExport i b s).cov = s.cov := by
  unfold offerExport; (try dsimp only); (repeat' split) <;> simp
@[simp] theorem offerExport_loops (i : ReeferIx) (b : ReeferState) : (offerExport i b s).loops = s.loops := by
  unfold offerExport; (try dsimp only); (repeat' split) <;> simp

/-! ### A pending item removed (R151) -/

@[simp] theorem removePending_pending (i : ReeferIx) : (removePending i s).pending = s.pending := by
  unfold removePending; (try dsimp only); (repeat' split) <;> simp
@[simp] theorem removePending_choice (i : ReeferIx) : (removePending i s).choice = s.choice := by
  unfold removePending; (try dsimp only); (repeat' split) <;> simp
@[simp] theorem removePending_inReset (i : ReeferIx) : (removePending i s).inReset = s.inReset := by
  unfold removePending; (try dsimp only); (repeat' split) <;> simp
@[simp] theorem removePending_uptime (i : ReeferIx) : (removePending i s).uptime = s.uptime := by
  unfold removePending; (try dsimp only); (repeat' split) <;> simp
@[simp] theorem removePending_node (i : ReeferIx) : (removePending i s).node = s.node := by
  unfold removePending; (try dsimp only); (repeat' split) <;> simp
@[simp] theorem removePending_part (i : ReeferIx) : (removePending i s).part = s.part := by
  unfold removePending; (try dsimp only); (repeat' split) <;> simp
@[simp] theorem removePending_mgmt (i : ReeferIx) : (removePending i s).mgmt = s.mgmt := by
  unfold removePending; (try dsimp only); (repeat' split) <;> simp
@[simp] theorem removePending_heads (i : ReeferIx) : (removePending i s).heads = s.heads := by
  unfold removePending; (try dsimp only); (repeat' split) <;> simp
@[simp] theorem removePending_cls (i : ReeferIx) : (removePending i s).cls = s.cls := by
  unfold removePending; (try dsimp only); (repeat' split) <;> simp
@[simp] theorem removePending_terms (i : ReeferIx) : (removePending i s).terms = s.terms := by
  unfold removePending; (try dsimp only); (repeat' split) <;> simp
@[simp] theorem removePending_segs (i : ReeferIx) : (removePending i s).segs = s.segs := by
  unfold removePending; (try dsimp only); (repeat' split) <;> simp
@[simp] theorem removePending_ho (i : ReeferIx) : (removePending i s).ho = s.ho := by
  unfold removePending; (try dsimp only); (repeat' split) <;> simp
@[simp] theorem removePending_crane (i : ReeferIx) : (removePending i s).crane = s.crane := by
  unfold removePending; (try dsimp only); (repeat' split) <;> simp
@[simp] theorem removePending_cov (i : ReeferIx) : (removePending i s).cov = s.cov := by
  unfold removePending; (try dsimp only); (repeat' split) <;> simp
@[simp] theorem removePending_loops (i : ReeferIx) : (removePending i s).loops = s.loops := by
  unfold removePending; (try dsimp only); (repeat' split) <;> simp
@[simp] theorem removePending_reef (i : ReeferIx) : (removePending i s).reef = s.reef := by
  unfold removePending; (try dsimp only); (repeat' split) <;> simp

/-! ### An entry exported (R150) -/

@[simp] theorem markExported_pending (p : PendItem) : (markExported s p).pending = s.pending := by
  unfold markExported; (try dsimp only); (repeat' split) <;> simp
@[simp] theorem markExported_choice (p : PendItem) : (markExported s p).choice = s.choice := by
  unfold markExported; (try dsimp only); (repeat' split) <;> simp
@[simp] theorem markExported_inReset (p : PendItem) : (markExported s p).inReset = s.inReset := by
  unfold markExported; (try dsimp only); (repeat' split) <;> simp
@[simp] theorem markExported_uptime (p : PendItem) : (markExported s p).uptime = s.uptime := by
  unfold markExported; (try dsimp only); (repeat' split) <;> simp
@[simp] theorem markExported_node (p : PendItem) : (markExported s p).node = s.node := by
  unfold markExported; (try dsimp only); (repeat' split) <;> simp
@[simp] theorem markExported_part (p : PendItem) : (markExported s p).part = s.part := by
  unfold markExported; (try dsimp only); (repeat' split) <;> simp
@[simp] theorem markExported_mgmt (p : PendItem) : (markExported s p).mgmt = s.mgmt := by
  unfold markExported; (try dsimp only); (repeat' split) <;> simp
@[simp] theorem markExported_heads (p : PendItem) : (markExported s p).heads = s.heads := by
  unfold markExported; (try dsimp only); (repeat' split) <;> simp
@[simp] theorem markExported_trunk (p : PendItem) : (markExported s p).trunk = s.trunk := by
  unfold markExported; (try dsimp only); (repeat' split) <;> simp
@[simp] theorem markExported_cls (p : PendItem) : (markExported s p).cls = s.cls := by
  unfold markExported; (try dsimp only); (repeat' split) <;> simp
@[simp] theorem markExported_terms (p : PendItem) : (markExported s p).terms = s.terms := by
  unfold markExported; (try dsimp only); (repeat' split) <;> simp
@[simp] theorem markExported_segs (p : PendItem) : (markExported s p).segs = s.segs := by
  unfold markExported; (try dsimp only); (repeat' split) <;> simp
@[simp] theorem markExported_ho (p : PendItem) : (markExported s p).ho = s.ho := by
  unfold markExported; (try dsimp only); (repeat' split) <;> simp
@[simp] theorem markExported_crane (p : PendItem) : (markExported s p).crane = s.crane := by
  unfold markExported; (try dsimp only); (repeat' split) <;> simp
@[simp] theorem markExported_cov (p : PendItem) : (markExported s p).cov = s.cov := by
  unfold markExported; (try dsimp only); (repeat' split) <;> simp
@[simp] theorem markExported_loops (p : PendItem) : (markExported s p).loops = s.loops := by
  unfold markExported; (try dsimp only); (repeat' split) <;> simp
@[simp] theorem markExported_exp (p : PendItem) : (markExported s p).exp = s.exp := by
  unfold markExported; (try dsimp only); (repeat' split) <;> simp

/-! ### An export grant (R149, R150) -/

@[simp] theorem grantExport_pending  : (grantExport s).pending = s.pending := by
  unfold grantExport; simp [foldl_keeps State.pending markExported (fun s p => markExported_pending s p)]
@[simp] theorem grantExport_choice  : (grantExport s).choice = s.choice := by
  unfold grantExport; simp [foldl_keeps State.choice markExported (fun s p => markExported_choice s p)]
@[simp] theorem grantExport_inReset  : (grantExport s).inReset = s.inReset := by
  unfold grantExport; simp [foldl_keeps State.inReset markExported (fun s p => markExported_inReset s p)]
@[simp] theorem grantExport_uptime  : (grantExport s).uptime = s.uptime := by
  unfold grantExport; simp [foldl_keeps State.uptime markExported (fun s p => markExported_uptime s p)]
@[simp] theorem grantExport_node  : (grantExport s).node = s.node := by
  unfold grantExport; simp [foldl_keeps State.node markExported (fun s p => markExported_node s p)]
@[simp] theorem grantExport_part  : (grantExport s).part = s.part := by
  unfold grantExport; simp [foldl_keeps State.part markExported (fun s p => markExported_part s p)]
@[simp] theorem grantExport_mgmt  : (grantExport s).mgmt = s.mgmt := by
  unfold grantExport; simp [foldl_keeps State.mgmt markExported (fun s p => markExported_mgmt s p)]
@[simp] theorem grantExport_heads  : (grantExport s).heads = s.heads := by
  unfold grantExport; simp [foldl_keeps State.heads markExported (fun s p => markExported_heads s p)]
@[simp] theorem grantExport_cls  : (grantExport s).cls = s.cls := by
  unfold grantExport; simp [foldl_keeps State.cls markExported (fun s p => markExported_cls s p)]
@[simp] theorem grantExport_terms  : (grantExport s).terms = s.terms := by
  unfold grantExport; simp [foldl_keeps State.terms markExported (fun s p => markExported_terms s p)]
@[simp] theorem grantExport_segs  : (grantExport s).segs = s.segs := by
  unfold grantExport; simp [foldl_keeps State.segs markExported (fun s p => markExported_segs s p)]
@[simp] theorem grantExport_ho  : (grantExport s).ho = s.ho := by
  unfold grantExport; simp [foldl_keeps State.ho markExported (fun s p => markExported_ho s p)]
@[simp] theorem grantExport_crane  : (grantExport s).crane = s.crane := by
  unfold grantExport; simp [foldl_keeps State.crane markExported (fun s p => markExported_crane s p)]
@[simp] theorem grantExport_cov  : (grantExport s).cov = s.cov := by
  unfold grantExport; simp [foldl_keeps State.cov markExported (fun s p => markExported_cov s p)]
@[simp] theorem grantExport_loops  : (grantExport s).loops = s.loops := by
  unfold grantExport; simp [foldl_keeps State.loops markExported (fun s p => markExported_loops s p)]

/-! ### A reefer count changed (R132) -/

@[simp] theorem bumpReefers_pending (g : Option SlotIx) (f : Nat → Nat) : (bumpReefers g f s).pending = s.pending := by
  unfold bumpReefers; (try dsimp only); (repeat' split) <;> simp
@[simp] theorem bumpReefers_choice (g : Option SlotIx) (f : Nat → Nat) : (bumpReefers g f s).choice = s.choice := by
  unfold bumpReefers; (try dsimp only); (repeat' split) <;> simp
@[simp] theorem bumpReefers_inReset (g : Option SlotIx) (f : Nat → Nat) : (bumpReefers g f s).inReset = s.inReset := by
  unfold bumpReefers; (try dsimp only); (repeat' split) <;> simp
@[simp] theorem bumpReefers_uptime (g : Option SlotIx) (f : Nat → Nat) : (bumpReefers g f s).uptime = s.uptime := by
  unfold bumpReefers; (try dsimp only); (repeat' split) <;> simp
@[simp] theorem bumpReefers_node (g : Option SlotIx) (f : Nat → Nat) : (bumpReefers g f s).node = s.node := by
  unfold bumpReefers; (try dsimp only); (repeat' split) <;> simp
@[simp] theorem bumpReefers_part (g : Option SlotIx) (f : Nat → Nat) : (bumpReefers g f s).part = s.part := by
  unfold bumpReefers; (try dsimp only); (repeat' split) <;> simp
@[simp] theorem bumpReefers_mgmt (g : Option SlotIx) (f : Nat → Nat) : (bumpReefers g f s).mgmt = s.mgmt := by
  unfold bumpReefers; (try dsimp only); (repeat' split) <;> simp
@[simp] theorem bumpReefers_heads (g : Option SlotIx) (f : Nat → Nat) : (bumpReefers g f s).heads = s.heads := by
  unfold bumpReefers; (try dsimp only); (repeat' split) <;> simp
@[simp] theorem bumpReefers_trunk (g : Option SlotIx) (f : Nat → Nat) : (bumpReefers g f s).trunk = s.trunk := by
  unfold bumpReefers; (try dsimp only); (repeat' split) <;> simp
@[simp] theorem bumpReefers_cls (g : Option SlotIx) (f : Nat → Nat) : (bumpReefers g f s).cls = s.cls := by
  unfold bumpReefers; (try dsimp only); (repeat' split) <;> simp
@[simp] theorem bumpReefers_segs (g : Option SlotIx) (f : Nat → Nat) : (bumpReefers g f s).segs = s.segs := by
  unfold bumpReefers; (try dsimp only); (repeat' split) <;> simp
@[simp] theorem bumpReefers_ho (g : Option SlotIx) (f : Nat → Nat) : (bumpReefers g f s).ho = s.ho := by
  unfold bumpReefers; (try dsimp only); (repeat' split) <;> simp
@[simp] theorem bumpReefers_crane (g : Option SlotIx) (f : Nat → Nat) : (bumpReefers g f s).crane = s.crane := by
  unfold bumpReefers; (try dsimp only); (repeat' split) <;> simp
@[simp] theorem bumpReefers_cov (g : Option SlotIx) (f : Nat → Nat) : (bumpReefers g f s).cov = s.cov := by
  unfold bumpReefers; (try dsimp only); (repeat' split) <;> simp
@[simp] theorem bumpReefers_loops (g : Option SlotIx) (f : Nat → Nat) : (bumpReefers g f s).loops = s.loops := by
  unfold bumpReefers; (try dsimp only); (repeat' split) <;> simp
@[simp] theorem bumpReefers_reef (g : Option SlotIx) (f : Nat → Nat) : (bumpReefers g f s).reef = s.reef := by
  unfold bumpReefers; (try dsimp only); (repeat' split) <;> simp
@[simp] theorem bumpReefers_exp (g : Option SlotIx) (f : Nat → Nat) : (bumpReefers g f s).exp = s.exp := by
  unfold bumpReefers; (try dsimp only); (repeat' split) <;> simp

/-! ### Reefer counts moved (R132) -/

@[simp] theorem moveReefer_pending (o : Option SlotIx) (g : SlotIx) : (moveReefer o g s).pending = s.pending := by
  unfold moveReefer; (try dsimp only); (repeat' split) <;> simp
@[simp] theorem moveReefer_choice (o : Option SlotIx) (g : SlotIx) : (moveReefer o g s).choice = s.choice := by
  unfold moveReefer; (try dsimp only); (repeat' split) <;> simp
@[simp] theorem moveReefer_inReset (o : Option SlotIx) (g : SlotIx) : (moveReefer o g s).inReset = s.inReset := by
  unfold moveReefer; (try dsimp only); (repeat' split) <;> simp
@[simp] theorem moveReefer_uptime (o : Option SlotIx) (g : SlotIx) : (moveReefer o g s).uptime = s.uptime := by
  unfold moveReefer; (try dsimp only); (repeat' split) <;> simp
@[simp] theorem moveReefer_node (o : Option SlotIx) (g : SlotIx) : (moveReefer o g s).node = s.node := by
  unfold moveReefer; (try dsimp only); (repeat' split) <;> simp
@[simp] theorem moveReefer_part (o : Option SlotIx) (g : SlotIx) : (moveReefer o g s).part = s.part := by
  unfold moveReefer; (try dsimp only); (repeat' split) <;> simp
@[simp] theorem moveReefer_mgmt (o : Option SlotIx) (g : SlotIx) : (moveReefer o g s).mgmt = s.mgmt := by
  unfold moveReefer; (try dsimp only); (repeat' split) <;> simp
@[simp] theorem moveReefer_heads (o : Option SlotIx) (g : SlotIx) : (moveReefer o g s).heads = s.heads := by
  unfold moveReefer; (try dsimp only); (repeat' split) <;> simp
@[simp] theorem moveReefer_trunk (o : Option SlotIx) (g : SlotIx) : (moveReefer o g s).trunk = s.trunk := by
  unfold moveReefer; (try dsimp only); (repeat' split) <;> simp
@[simp] theorem moveReefer_cls (o : Option SlotIx) (g : SlotIx) : (moveReefer o g s).cls = s.cls := by
  unfold moveReefer; (try dsimp only); (repeat' split) <;> simp
@[simp] theorem moveReefer_segs (o : Option SlotIx) (g : SlotIx) : (moveReefer o g s).segs = s.segs := by
  unfold moveReefer; (try dsimp only); (repeat' split) <;> simp
@[simp] theorem moveReefer_ho (o : Option SlotIx) (g : SlotIx) : (moveReefer o g s).ho = s.ho := by
  unfold moveReefer; (try dsimp only); (repeat' split) <;> simp
@[simp] theorem moveReefer_crane (o : Option SlotIx) (g : SlotIx) : (moveReefer o g s).crane = s.crane := by
  unfold moveReefer; (try dsimp only); (repeat' split) <;> simp
@[simp] theorem moveReefer_cov (o : Option SlotIx) (g : SlotIx) : (moveReefer o g s).cov = s.cov := by
  unfold moveReefer; (try dsimp only); (repeat' split) <;> simp
@[simp] theorem moveReefer_loops (o : Option SlotIx) (g : SlotIx) : (moveReefer o g s).loops = s.loops := by
  unfold moveReefer; (try dsimp only); (repeat' split) <;> simp
@[simp] theorem moveReefer_reef (o : Option SlotIx) (g : SlotIx) : (moveReefer o g s).reef = s.reef := by
  unfold moveReefer; (try dsimp only); (repeat' split) <;> simp
@[simp] theorem moveReefer_exp (o : Option SlotIx) (g : SlotIx) : (moveReefer o g s).exp = s.exp := by
  unfold moveReefer; (try dsimp only); (repeat' split) <;> simp

/-! ### The notices of the band evaluation (R135) -/

@[simp] theorem bandNotice_pending (n : Nat) (a b : Reefer) : (bandNotice n a b s).pending = s.pending := by
  unfold bandNotice; (try dsimp only); (repeat' split) <;> simp
@[simp] theorem bandNotice_choice (n : Nat) (a b : Reefer) : (bandNotice n a b s).choice = s.choice := by
  unfold bandNotice; (try dsimp only); (repeat' split) <;> simp
@[simp] theorem bandNotice_inReset (n : Nat) (a b : Reefer) : (bandNotice n a b s).inReset = s.inReset := by
  unfold bandNotice; (try dsimp only); (repeat' split) <;> simp
@[simp] theorem bandNotice_uptime (n : Nat) (a b : Reefer) : (bandNotice n a b s).uptime = s.uptime := by
  unfold bandNotice; (try dsimp only); (repeat' split) <;> simp
@[simp] theorem bandNotice_node (n : Nat) (a b : Reefer) : (bandNotice n a b s).node = s.node := by
  unfold bandNotice; (try dsimp only); (repeat' split) <;> simp
@[simp] theorem bandNotice_part (n : Nat) (a b : Reefer) : (bandNotice n a b s).part = s.part := by
  unfold bandNotice; (try dsimp only); (repeat' split) <;> simp
@[simp] theorem bandNotice_heads (n : Nat) (a b : Reefer) : (bandNotice n a b s).heads = s.heads := by
  unfold bandNotice; (try dsimp only); (repeat' split) <;> simp
@[simp] theorem bandNotice_cls (n : Nat) (a b : Reefer) : (bandNotice n a b s).cls = s.cls := by
  unfold bandNotice; (try dsimp only); (repeat' split) <;> simp
@[simp] theorem bandNotice_terms (n : Nat) (a b : Reefer) : (bandNotice n a b s).terms = s.terms := by
  unfold bandNotice; (try dsimp only); (repeat' split) <;> simp
@[simp] theorem bandNotice_segs (n : Nat) (a b : Reefer) : (bandNotice n a b s).segs = s.segs := by
  unfold bandNotice; (try dsimp only); (repeat' split) <;> simp
@[simp] theorem bandNotice_ho (n : Nat) (a b : Reefer) : (bandNotice n a b s).ho = s.ho := by
  unfold bandNotice; (try dsimp only); (repeat' split) <;> simp
@[simp] theorem bandNotice_crane (n : Nat) (a b : Reefer) : (bandNotice n a b s).crane = s.crane := by
  unfold bandNotice; (try dsimp only); (repeat' split) <;> simp
@[simp] theorem bandNotice_cov (n : Nat) (a b : Reefer) : (bandNotice n a b s).cov = s.cov := by
  unfold bandNotice; (try dsimp only); (repeat' split) <;> simp
@[simp] theorem bandNotice_loops (n : Nat) (a b : Reefer) : (bandNotice n a b s).loops = s.loops := by
  unfold bandNotice; (try dsimp only); (repeat' split) <;> simp
@[simp] theorem bandNotice_exp (n : Nat) (a b : Reefer) : (bandNotice n a b s).exp = s.exp := by
  unfold bandNotice; (try dsimp only); (repeat' split) <;> simp

/-! ### A record processed (R132 to R136) -/

@[simp] theorem processRecord_pending (g : SlotIx) (n : TermNo) (o : Option SegIx) (i : ReeferIx) (r : Reefer) (b : RecordBody) : (processRecord g n o i r b s).pending = s.pending := by
  unfold processRecord; (try dsimp only); (repeat' split) <;> simp
@[simp] theorem processRecord_choice (g : SlotIx) (n : TermNo) (o : Option SegIx) (i : ReeferIx) (r : Reefer) (b : RecordBody) : (processRecord g n o i r b s).choice = s.choice := by
  unfold processRecord; (try dsimp only); (repeat' split) <;> simp
@[simp] theorem processRecord_inReset (g : SlotIx) (n : TermNo) (o : Option SegIx) (i : ReeferIx) (r : Reefer) (b : RecordBody) : (processRecord g n o i r b s).inReset = s.inReset := by
  unfold processRecord; (try dsimp only); (repeat' split) <;> simp
@[simp] theorem processRecord_uptime (g : SlotIx) (n : TermNo) (o : Option SegIx) (i : ReeferIx) (r : Reefer) (b : RecordBody) : (processRecord g n o i r b s).uptime = s.uptime := by
  unfold processRecord; (try dsimp only); (repeat' split) <;> simp
@[simp] theorem processRecord_node (g : SlotIx) (n : TermNo) (o : Option SegIx) (i : ReeferIx) (r : Reefer) (b : RecordBody) : (processRecord g n o i r b s).node = s.node := by
  unfold processRecord; (try dsimp only); (repeat' split) <;> simp
@[simp] theorem processRecord_part (g : SlotIx) (n : TermNo) (o : Option SegIx) (i : ReeferIx) (r : Reefer) (b : RecordBody) : (processRecord g n o i r b s).part = s.part := by
  unfold processRecord; (try dsimp only); (repeat' split) <;> simp
@[simp] theorem processRecord_heads (g : SlotIx) (n : TermNo) (o : Option SegIx) (i : ReeferIx) (r : Reefer) (b : RecordBody) : (processRecord g n o i r b s).heads = s.heads := by
  unfold processRecord; (try dsimp only); (repeat' split) <;> simp
@[simp] theorem processRecord_cls (g : SlotIx) (n : TermNo) (o : Option SegIx) (i : ReeferIx) (r : Reefer) (b : RecordBody) : (processRecord g n o i r b s).cls = s.cls := by
  unfold processRecord; (try dsimp only); (repeat' split) <;> simp
@[simp] theorem processRecord_segs (g : SlotIx) (n : TermNo) (o : Option SegIx) (i : ReeferIx) (r : Reefer) (b : RecordBody) : (processRecord g n o i r b s).segs = s.segs := by
  unfold processRecord; (try dsimp only); (repeat' split) <;> simp
@[simp] theorem processRecord_ho (g : SlotIx) (n : TermNo) (o : Option SegIx) (i : ReeferIx) (r : Reefer) (b : RecordBody) : (processRecord g n o i r b s).ho = s.ho := by
  unfold processRecord; (try dsimp only); (repeat' split) <;> simp
@[simp] theorem processRecord_crane (g : SlotIx) (n : TermNo) (o : Option SegIx) (i : ReeferIx) (r : Reefer) (b : RecordBody) : (processRecord g n o i r b s).crane = s.crane := by
  unfold processRecord; (try dsimp only); (repeat' split) <;> simp
@[simp] theorem processRecord_cov (g : SlotIx) (n : TermNo) (o : Option SegIx) (i : ReeferIx) (r : Reefer) (b : RecordBody) : (processRecord g n o i r b s).cov = s.cov := by
  unfold processRecord; (try dsimp only); (repeat' split) <;> simp
@[simp] theorem processRecord_loops (g : SlotIx) (n : TermNo) (o : Option SegIx) (i : ReeferIx) (r : Reefer) (b : RecordBody) : (processRecord g n o i r b s).loops = s.loops := by
  unfold processRecord; (try dsimp only); (repeat' split) <;> simp

/-! ### An unknown tag (R131) -/

@[simp] theorem unknownTag_pending (g : SlotIx) (n : TermNo) (o : Option SegIx) (c : BatchRecord) : (unknownTag g n o c s).pending = s.pending := by
  unfold unknownTag; (try dsimp only); (repeat' split) <;> simp
@[simp] theorem unknownTag_choice (g : SlotIx) (n : TermNo) (o : Option SegIx) (c : BatchRecord) : (unknownTag g n o c s).choice = s.choice := by
  unfold unknownTag; (try dsimp only); (repeat' split) <;> simp
@[simp] theorem unknownTag_inReset (g : SlotIx) (n : TermNo) (o : Option SegIx) (c : BatchRecord) : (unknownTag g n o c s).inReset = s.inReset := by
  unfold unknownTag; (try dsimp only); (repeat' split) <;> simp
@[simp] theorem unknownTag_uptime (g : SlotIx) (n : TermNo) (o : Option SegIx) (c : BatchRecord) : (unknownTag g n o c s).uptime = s.uptime := by
  unfold unknownTag; (try dsimp only); (repeat' split) <;> simp
@[simp] theorem unknownTag_node (g : SlotIx) (n : TermNo) (o : Option SegIx) (c : BatchRecord) : (unknownTag g n o c s).node = s.node := by
  unfold unknownTag; (try dsimp only); (repeat' split) <;> simp
@[simp] theorem unknownTag_part (g : SlotIx) (n : TermNo) (o : Option SegIx) (c : BatchRecord) : (unknownTag g n o c s).part = s.part := by
  unfold unknownTag; (try dsimp only); (repeat' split) <;> simp
@[simp] theorem unknownTag_heads (g : SlotIx) (n : TermNo) (o : Option SegIx) (c : BatchRecord) : (unknownTag g n o c s).heads = s.heads := by
  unfold unknownTag; (try dsimp only); (repeat' split) <;> simp
@[simp] theorem unknownTag_cls (g : SlotIx) (n : TermNo) (o : Option SegIx) (c : BatchRecord) : (unknownTag g n o c s).cls = s.cls := by
  unfold unknownTag; (try dsimp only); (repeat' split) <;> simp
@[simp] theorem unknownTag_segs (g : SlotIx) (n : TermNo) (o : Option SegIx) (c : BatchRecord) : (unknownTag g n o c s).segs = s.segs := by
  unfold unknownTag; (try dsimp only); (repeat' split) <;> simp
@[simp] theorem unknownTag_ho (g : SlotIx) (n : TermNo) (o : Option SegIx) (c : BatchRecord) : (unknownTag g n o c s).ho = s.ho := by
  unfold unknownTag; (try dsimp only); (repeat' split) <;> simp
@[simp] theorem unknownTag_crane (g : SlotIx) (n : TermNo) (o : Option SegIx) (c : BatchRecord) : (unknownTag g n o c s).crane = s.crane := by
  unfold unknownTag; (try dsimp only); (repeat' split) <;> simp
@[simp] theorem unknownTag_cov (g : SlotIx) (n : TermNo) (o : Option SegIx) (c : BatchRecord) : (unknownTag g n o c s).cov = s.cov := by
  unfold unknownTag; (try dsimp only); (repeat' split) <;> simp
@[simp] theorem unknownTag_loops (g : SlotIx) (n : TermNo) (o : Option SegIx) (c : BatchRecord) : (unknownTag g n o c s).loops = s.loops := by
  unfold unknownTag; (try dsimp only); (repeat' split) <;> simp

/-! ### One record of a batch (R128) -/

@[simp] theorem handleRecord_pending (g : SlotIx) (n : TermNo) (o : Option SegIx) (c : BatchRecord) : (handleRecord g n o s c).pending = s.pending := by
  unfold handleRecord; (try dsimp only); (repeat' split) <;> simp
@[simp] theorem handleRecord_choice (g : SlotIx) (n : TermNo) (o : Option SegIx) (c : BatchRecord) : (handleRecord g n o s c).choice = s.choice := by
  unfold handleRecord; (try dsimp only); (repeat' split) <;> simp
@[simp] theorem handleRecord_inReset (g : SlotIx) (n : TermNo) (o : Option SegIx) (c : BatchRecord) : (handleRecord g n o s c).inReset = s.inReset := by
  unfold handleRecord; (try dsimp only); (repeat' split) <;> simp
@[simp] theorem handleRecord_uptime (g : SlotIx) (n : TermNo) (o : Option SegIx) (c : BatchRecord) : (handleRecord g n o s c).uptime = s.uptime := by
  unfold handleRecord; (try dsimp only); (repeat' split) <;> simp
@[simp] theorem handleRecord_node (g : SlotIx) (n : TermNo) (o : Option SegIx) (c : BatchRecord) : (handleRecord g n o s c).node = s.node := by
  unfold handleRecord; (try dsimp only); (repeat' split) <;> simp
@[simp] theorem handleRecord_part (g : SlotIx) (n : TermNo) (o : Option SegIx) (c : BatchRecord) : (handleRecord g n o s c).part = s.part := by
  unfold handleRecord; (try dsimp only); (repeat' split) <;> simp
@[simp] theorem handleRecord_heads (g : SlotIx) (n : TermNo) (o : Option SegIx) (c : BatchRecord) : (handleRecord g n o s c).heads = s.heads := by
  unfold handleRecord; (try dsimp only); (repeat' split) <;> simp
@[simp] theorem handleRecord_cls (g : SlotIx) (n : TermNo) (o : Option SegIx) (c : BatchRecord) : (handleRecord g n o s c).cls = s.cls := by
  unfold handleRecord; (try dsimp only); (repeat' split) <;> simp
@[simp] theorem handleRecord_segs (g : SlotIx) (n : TermNo) (o : Option SegIx) (c : BatchRecord) : (handleRecord g n o s c).segs = s.segs := by
  unfold handleRecord; (try dsimp only); (repeat' split) <;> simp
@[simp] theorem handleRecord_ho (g : SlotIx) (n : TermNo) (o : Option SegIx) (c : BatchRecord) : (handleRecord g n o s c).ho = s.ho := by
  unfold handleRecord; (try dsimp only); (repeat' split) <;> simp
@[simp] theorem handleRecord_crane (g : SlotIx) (n : TermNo) (o : Option SegIx) (c : BatchRecord) : (handleRecord g n o s c).crane = s.crane := by
  unfold handleRecord; (try dsimp only); (repeat' split) <;> simp
@[simp] theorem handleRecord_cov (g : SlotIx) (n : TermNo) (o : Option SegIx) (c : BatchRecord) : (handleRecord g n o s c).cov = s.cov := by
  unfold handleRecord; (try dsimp only); (repeat' split) <;> simp
@[simp] theorem handleRecord_loops (g : SlotIx) (n : TermNo) (o : Option SegIx) (c : BatchRecord) : (handleRecord g n o s c).loops = s.loops := by
  unfold handleRecord; (try dsimp only); (repeat' split) <;> simp

/-! ### A gateway heard (R126) -/

@[simp] theorem gatewayHeard_pending (i : SlotIx) (t : Term) (g : GatewayState) (n : Nat) : (gatewayHeard i t g n s).pending = s.pending := by
  unfold gatewayHeard; (try dsimp only); (repeat' split) <;> simp
@[simp] theorem gatewayHeard_choice (i : SlotIx) (t : Term) (g : GatewayState) (n : Nat) : (gatewayHeard i t g n s).choice = s.choice := by
  unfold gatewayHeard; (try dsimp only); (repeat' split) <;> simp
@[simp] theorem gatewayHeard_inReset (i : SlotIx) (t : Term) (g : GatewayState) (n : Nat) : (gatewayHeard i t g n s).inReset = s.inReset := by
  unfold gatewayHeard; (try dsimp only); (repeat' split) <;> simp
@[simp] theorem gatewayHeard_uptime (i : SlotIx) (t : Term) (g : GatewayState) (n : Nat) : (gatewayHeard i t g n s).uptime = s.uptime := by
  unfold gatewayHeard; (try dsimp only); (repeat' split) <;> simp
@[simp] theorem gatewayHeard_node (i : SlotIx) (t : Term) (g : GatewayState) (n : Nat) : (gatewayHeard i t g n s).node = s.node := by
  unfold gatewayHeard; (try dsimp only); (repeat' split) <;> simp
@[simp] theorem gatewayHeard_part (i : SlotIx) (t : Term) (g : GatewayState) (n : Nat) : (gatewayHeard i t g n s).part = s.part := by
  unfold gatewayHeard; (try dsimp only); (repeat' split) <;> simp
@[simp] theorem gatewayHeard_heads (i : SlotIx) (t : Term) (g : GatewayState) (n : Nat) : (gatewayHeard i t g n s).heads = s.heads := by
  unfold gatewayHeard; (try dsimp only); (repeat' split) <;> simp
@[simp] theorem gatewayHeard_cls (i : SlotIx) (t : Term) (g : GatewayState) (n : Nat) : (gatewayHeard i t g n s).cls = s.cls := by
  unfold gatewayHeard; (try dsimp only); (repeat' split) <;> simp
@[simp] theorem gatewayHeard_segs (i : SlotIx) (t : Term) (g : GatewayState) (n : Nat) : (gatewayHeard i t g n s).segs = s.segs := by
  unfold gatewayHeard; (try dsimp only); (repeat' split) <;> simp
@[simp] theorem gatewayHeard_ho (i : SlotIx) (t : Term) (g : GatewayState) (n : Nat) : (gatewayHeard i t g n s).ho = s.ho := by
  unfold gatewayHeard; (try dsimp only); (repeat' split) <;> simp
@[simp] theorem gatewayHeard_crane (i : SlotIx) (t : Term) (g : GatewayState) (n : Nat) : (gatewayHeard i t g n s).crane = s.crane := by
  unfold gatewayHeard; (try dsimp only); (repeat' split) <;> simp
@[simp] theorem gatewayHeard_cov (i : SlotIx) (t : Term) (g : GatewayState) (n : Nat) : (gatewayHeard i t g n s).cov = s.cov := by
  unfold gatewayHeard; (try dsimp only); (repeat' split) <;> simp
@[simp] theorem gatewayHeard_loops (i : SlotIx) (t : Term) (g : GatewayState) (n : Nat) : (gatewayHeard i t g n s).loops = s.loops := by
  unfold gatewayHeard; (try dsimp only); (repeat' split) <;> simp
@[simp] theorem gatewayHeard_reef (i : SlotIx) (t : Term) (g : GatewayState) (n : Nat) : (gatewayHeard i t g n s).reef = s.reef := by
  unfold gatewayHeard; (try dsimp only); (repeat' split) <;> simp
@[simp] theorem gatewayHeard_exp (i : SlotIx) (t : Term) (g : GatewayState) (n : Nat) : (gatewayHeard i t g n s).exp = s.exp := by
  unfold gatewayHeard; (try dsimp only); (repeat' split) <;> simp

/-! ### The end of a batch counted (R128) -/

@[simp] theorem countEnd_pending (e : BatchEnd) : (countEnd e s).pending = s.pending := by
  unfold countEnd; (try dsimp only); (repeat' split) <;> simp
@[simp] theorem countEnd_choice (e : BatchEnd) : (countEnd e s).choice = s.choice := by
  unfold countEnd; (try dsimp only); (repeat' split) <;> simp
@[simp] theorem countEnd_inReset (e : BatchEnd) : (countEnd e s).inReset = s.inReset := by
  unfold countEnd; (try dsimp only); (repeat' split) <;> simp
@[simp] theorem countEnd_uptime (e : BatchEnd) : (countEnd e s).uptime = s.uptime := by
  unfold countEnd; (try dsimp only); (repeat' split) <;> simp
@[simp] theorem countEnd_node (e : BatchEnd) : (countEnd e s).node = s.node := by
  unfold countEnd; (try dsimp only); (repeat' split) <;> simp
@[simp] theorem countEnd_part (e : BatchEnd) : (countEnd e s).part = s.part := by
  unfold countEnd; (try dsimp only); (repeat' split) <;> simp
@[simp] theorem countEnd_mgmt (e : BatchEnd) : (countEnd e s).mgmt = s.mgmt := by
  unfold countEnd; (try dsimp only); (repeat' split) <;> simp
@[simp] theorem countEnd_heads (e : BatchEnd) : (countEnd e s).heads = s.heads := by
  unfold countEnd; (try dsimp only); (repeat' split) <;> simp
@[simp] theorem countEnd_trunk (e : BatchEnd) : (countEnd e s).trunk = s.trunk := by
  unfold countEnd; (try dsimp only); (repeat' split) <;> simp
@[simp] theorem countEnd_cls (e : BatchEnd) : (countEnd e s).cls = s.cls := by
  unfold countEnd; (try dsimp only); (repeat' split) <;> simp
@[simp] theorem countEnd_terms (e : BatchEnd) : (countEnd e s).terms = s.terms := by
  unfold countEnd; (try dsimp only); (repeat' split) <;> simp
@[simp] theorem countEnd_segs (e : BatchEnd) : (countEnd e s).segs = s.segs := by
  unfold countEnd; (try dsimp only); (repeat' split) <;> simp
@[simp] theorem countEnd_ho (e : BatchEnd) : (countEnd e s).ho = s.ho := by
  unfold countEnd; (try dsimp only); (repeat' split) <;> simp
@[simp] theorem countEnd_crane (e : BatchEnd) : (countEnd e s).crane = s.crane := by
  unfold countEnd; (try dsimp only); (repeat' split) <;> simp
@[simp] theorem countEnd_cov (e : BatchEnd) : (countEnd e s).cov = s.cov := by
  unfold countEnd; (try dsimp only); (repeat' split) <;> simp
@[simp] theorem countEnd_loops (e : BatchEnd) : (countEnd e s).loops = s.loops := by
  unfold countEnd; (try dsimp only); (repeat' split) <;> simp
@[simp] theorem countEnd_exp (e : BatchEnd) : (countEnd e s).exp = s.exp := by
  unfold countEnd; (try dsimp only); (repeat' split) <;> simp

/-! ### A batch (R126, R128) -/

@[simp] theorem batchListed_pending (b : List Byte) (i : SlotIx) (t : Term) : (batchListed b i t s).pending = s.pending := by
  unfold batchListed; split <;> simp [foldl_keeps State.pending (handleRecord i t.number t.segment) (fun s c => handleRecord_pending s i t.number t.segment c)]
@[simp] theorem batchListed_choice (b : List Byte) (i : SlotIx) (t : Term) : (batchListed b i t s).choice = s.choice := by
  unfold batchListed; split <;> simp [foldl_keeps State.choice (handleRecord i t.number t.segment) (fun s c => handleRecord_choice s i t.number t.segment c)]
@[simp] theorem batchListed_inReset (b : List Byte) (i : SlotIx) (t : Term) : (batchListed b i t s).inReset = s.inReset := by
  unfold batchListed; split <;> simp [foldl_keeps State.inReset (handleRecord i t.number t.segment) (fun s c => handleRecord_inReset s i t.number t.segment c)]
@[simp] theorem batchListed_uptime (b : List Byte) (i : SlotIx) (t : Term) : (batchListed b i t s).uptime = s.uptime := by
  unfold batchListed; split <;> simp [foldl_keeps State.uptime (handleRecord i t.number t.segment) (fun s c => handleRecord_uptime s i t.number t.segment c)]
@[simp] theorem batchListed_node (b : List Byte) (i : SlotIx) (t : Term) : (batchListed b i t s).node = s.node := by
  unfold batchListed; split <;> simp [foldl_keeps State.node (handleRecord i t.number t.segment) (fun s c => handleRecord_node s i t.number t.segment c)]
@[simp] theorem batchListed_part (b : List Byte) (i : SlotIx) (t : Term) : (batchListed b i t s).part = s.part := by
  unfold batchListed; split <;> simp [foldl_keeps State.part (handleRecord i t.number t.segment) (fun s c => handleRecord_part s i t.number t.segment c)]
@[simp] theorem batchListed_heads (b : List Byte) (i : SlotIx) (t : Term) : (batchListed b i t s).heads = s.heads := by
  unfold batchListed; split <;> simp [foldl_keeps State.heads (handleRecord i t.number t.segment) (fun s c => handleRecord_heads s i t.number t.segment c)]
@[simp] theorem batchListed_cls (b : List Byte) (i : SlotIx) (t : Term) : (batchListed b i t s).cls = s.cls := by
  unfold batchListed; split <;> simp [foldl_keeps State.cls (handleRecord i t.number t.segment) (fun s c => handleRecord_cls s i t.number t.segment c)]
@[simp] theorem batchListed_segs (b : List Byte) (i : SlotIx) (t : Term) : (batchListed b i t s).segs = s.segs := by
  unfold batchListed; split <;> simp [foldl_keeps State.segs (handleRecord i t.number t.segment) (fun s c => handleRecord_segs s i t.number t.segment c)]
@[simp] theorem batchListed_ho (b : List Byte) (i : SlotIx) (t : Term) : (batchListed b i t s).ho = s.ho := by
  unfold batchListed; split <;> simp [foldl_keeps State.ho (handleRecord i t.number t.segment) (fun s c => handleRecord_ho s i t.number t.segment c)]
@[simp] theorem batchListed_crane (b : List Byte) (i : SlotIx) (t : Term) : (batchListed b i t s).crane = s.crane := by
  unfold batchListed; split <;> simp [foldl_keeps State.crane (handleRecord i t.number t.segment) (fun s c => handleRecord_crane s i t.number t.segment c)]
@[simp] theorem batchListed_cov (b : List Byte) (i : SlotIx) (t : Term) : (batchListed b i t s).cov = s.cov := by
  unfold batchListed; split <;> simp [foldl_keeps State.cov (handleRecord i t.number t.segment) (fun s c => handleRecord_cov s i t.number t.segment c)]
@[simp] theorem batchListed_loops (b : List Byte) (i : SlotIx) (t : Term) : (batchListed b i t s).loops = s.loops := by
  unfold batchListed; split <;> simp [foldl_keeps State.loops (handleRecord i t.number t.segment) (fun s c => handleRecord_loops s i t.number t.segment c)]

/-! ### An entry freed (R140) -/

@[simp] theorem freeReefer_pending (i : ReeferIx) (r : Reefer) : (freeReefer i r s).pending = s.pending := by
  unfold freeReefer; (try dsimp only); (repeat' split) <;> simp
@[simp] theorem freeReefer_choice (i : ReeferIx) (r : Reefer) : (freeReefer i r s).choice = s.choice := by
  unfold freeReefer; (try dsimp only); (repeat' split) <;> simp
@[simp] theorem freeReefer_inReset (i : ReeferIx) (r : Reefer) : (freeReefer i r s).inReset = s.inReset := by
  unfold freeReefer; (try dsimp only); (repeat' split) <;> simp
@[simp] theorem freeReefer_uptime (i : ReeferIx) (r : Reefer) : (freeReefer i r s).uptime = s.uptime := by
  unfold freeReefer; (try dsimp only); (repeat' split) <;> simp
@[simp] theorem freeReefer_node (i : ReeferIx) (r : Reefer) : (freeReefer i r s).node = s.node := by
  unfold freeReefer; (try dsimp only); (repeat' split) <;> simp
@[simp] theorem freeReefer_part (i : ReeferIx) (r : Reefer) : (freeReefer i r s).part = s.part := by
  unfold freeReefer; (try dsimp only); (repeat' split) <;> simp
@[simp] theorem freeReefer_mgmt (i : ReeferIx) (r : Reefer) : (freeReefer i r s).mgmt = s.mgmt := by
  unfold freeReefer; (try dsimp only); (repeat' split) <;> simp
@[simp] theorem freeReefer_heads (i : ReeferIx) (r : Reefer) : (freeReefer i r s).heads = s.heads := by
  unfold freeReefer; (try dsimp only); (repeat' split) <;> simp
@[simp] theorem freeReefer_cls (i : ReeferIx) (r : Reefer) : (freeReefer i r s).cls = s.cls := by
  unfold freeReefer; (try dsimp only); (repeat' split) <;> simp
@[simp] theorem freeReefer_segs (i : ReeferIx) (r : Reefer) : (freeReefer i r s).segs = s.segs := by
  unfold freeReefer; (try dsimp only); (repeat' split) <;> simp
@[simp] theorem freeReefer_ho (i : ReeferIx) (r : Reefer) : (freeReefer i r s).ho = s.ho := by
  unfold freeReefer; (try dsimp only); (repeat' split) <;> simp
@[simp] theorem freeReefer_crane (i : ReeferIx) (r : Reefer) : (freeReefer i r s).crane = s.crane := by
  unfold freeReefer; (try dsimp only); (repeat' split) <;> simp
@[simp] theorem freeReefer_cov (i : ReeferIx) (r : Reefer) : (freeReefer i r s).cov = s.cov := by
  unfold freeReefer; (try dsimp only); (repeat' split) <;> simp
@[simp] theorem freeReefer_loops (i : ReeferIx) (r : Reefer) : (freeReefer i r s).loops = s.loops := by
  unfold freeReefer; (try dsimp only); (repeat' split) <;> simp

/-! ### The walk ended (R142) -/

@[simp] theorem endPurge_pending (p : Purge) : (endPurge p s).pending = s.pending := by
  unfold endPurge; (try dsimp only); (repeat' split) <;> simp
@[simp] theorem endPurge_choice (p : Purge) : (endPurge p s).choice = s.choice := by
  unfold endPurge; (try dsimp only); (repeat' split) <;> simp
@[simp] theorem endPurge_inReset (p : Purge) : (endPurge p s).inReset = s.inReset := by
  unfold endPurge; (try dsimp only); (repeat' split) <;> simp
@[simp] theorem endPurge_uptime (p : Purge) : (endPurge p s).uptime = s.uptime := by
  unfold endPurge; (try dsimp only); (repeat' split) <;> simp
@[simp] theorem endPurge_node (p : Purge) : (endPurge p s).node = s.node := by
  unfold endPurge; (try dsimp only); (repeat' split) <;> simp
@[simp] theorem endPurge_part (p : Purge) : (endPurge p s).part = s.part := by
  unfold endPurge; (try dsimp only); (repeat' split) <;> simp
@[simp] theorem endPurge_mgmt (p : Purge) : (endPurge p s).mgmt = s.mgmt := by
  unfold endPurge; (try dsimp only); (repeat' split) <;> simp
@[simp] theorem endPurge_heads (p : Purge) : (endPurge p s).heads = s.heads := by
  unfold endPurge; (try dsimp only); (repeat' split) <;> simp
@[simp] theorem endPurge_cls (p : Purge) : (endPurge p s).cls = s.cls := by
  unfold endPurge; (try dsimp only); (repeat' split) <;> simp
@[simp] theorem endPurge_terms (p : Purge) : (endPurge p s).terms = s.terms := by
  unfold endPurge; (try dsimp only); (repeat' split) <;> simp
@[simp] theorem endPurge_segs (p : Purge) : (endPurge p s).segs = s.segs := by
  unfold endPurge; (try dsimp only); (repeat' split) <;> simp
@[simp] theorem endPurge_ho (p : Purge) : (endPurge p s).ho = s.ho := by
  unfold endPurge; (try dsimp only); (repeat' split) <;> simp
@[simp] theorem endPurge_crane (p : Purge) : (endPurge p s).crane = s.crane := by
  unfold endPurge; (try dsimp only); (repeat' split) <;> simp
@[simp] theorem endPurge_cov (p : Purge) : (endPurge p s).cov = s.cov := by
  unfold endPurge; (try dsimp only); (repeat' split) <;> simp
@[simp] theorem endPurge_loops (p : Purge) : (endPurge p s).loops = s.loops := by
  unfold endPurge; (try dsimp only); (repeat' split) <;> simp
@[simp] theorem endPurge_exp (p : Purge) : (endPurge p s).exp = s.exp := by
  unfold endPurge; (try dsimp only); (repeat' split) <;> simp

/-! ### A reefer silent (R137) -/

@[simp] theorem reeferSilent_pending (i : ReeferIx) (r : Reefer) : (reeferSilent i r s).pending = s.pending := by
  unfold reeferSilent; simp
@[simp] theorem reeferSilent_choice (i : ReeferIx) (r : Reefer) : (reeferSilent i r s).choice = s.choice := by
  unfold reeferSilent; simp
@[simp] theorem reeferSilent_inReset (i : ReeferIx) (r : Reefer) : (reeferSilent i r s).inReset = s.inReset := by
  unfold reeferSilent; simp
@[simp] theorem reeferSilent_uptime (i : ReeferIx) (r : Reefer) : (reeferSilent i r s).uptime = s.uptime := by
  unfold reeferSilent; simp
@[simp] theorem reeferSilent_node (i : ReeferIx) (r : Reefer) : (reeferSilent i r s).node = s.node := by
  unfold reeferSilent; simp
@[simp] theorem reeferSilent_part (i : ReeferIx) (r : Reefer) : (reeferSilent i r s).part = s.part := by
  unfold reeferSilent; simp
@[simp] theorem reeferSilent_heads (i : ReeferIx) (r : Reefer) : (reeferSilent i r s).heads = s.heads := by
  unfold reeferSilent; simp
@[simp] theorem reeferSilent_cls (i : ReeferIx) (r : Reefer) : (reeferSilent i r s).cls = s.cls := by
  unfold reeferSilent; simp
@[simp] theorem reeferSilent_terms (i : ReeferIx) (r : Reefer) : (reeferSilent i r s).terms = s.terms := by
  unfold reeferSilent; simp
@[simp] theorem reeferSilent_segs (i : ReeferIx) (r : Reefer) : (reeferSilent i r s).segs = s.segs := by
  unfold reeferSilent; simp
@[simp] theorem reeferSilent_ho (i : ReeferIx) (r : Reefer) : (reeferSilent i r s).ho = s.ho := by
  unfold reeferSilent; simp
@[simp] theorem reeferSilent_crane (i : ReeferIx) (r : Reefer) : (reeferSilent i r s).crane = s.crane := by
  unfold reeferSilent; simp
@[simp] theorem reeferSilent_cov (i : ReeferIx) (r : Reefer) : (reeferSilent i r s).cov = s.cov := by
  unfold reeferSilent; simp
@[simp] theorem reeferSilent_loops (i : ReeferIx) (r : Reefer) : (reeferSilent i r s).loops = s.loops := by
  unfold reeferSilent; simp

/-! ### A loop test's reply (R37) -/

@[simp] theorem offerLoopReply_pending (h : HeadIx) (t : LoopTest) (r : LoopResult) : (offerLoopReply h t r s).pending = s.pending := by
  unfold offerLoopReply; (try dsimp only); (repeat' split) <;> simp
@[simp] theorem offerLoopReply_choice (h : HeadIx) (t : LoopTest) (r : LoopResult) : (offerLoopReply h t r s).choice = s.choice := by
  unfold offerLoopReply; (try dsimp only); (repeat' split) <;> simp
@[simp] theorem offerLoopReply_inReset (h : HeadIx) (t : LoopTest) (r : LoopResult) : (offerLoopReply h t r s).inReset = s.inReset := by
  unfold offerLoopReply; (try dsimp only); (repeat' split) <;> simp
@[simp] theorem offerLoopReply_uptime (h : HeadIx) (t : LoopTest) (r : LoopResult) : (offerLoopReply h t r s).uptime = s.uptime := by
  unfold offerLoopReply; (try dsimp only); (repeat' split) <;> simp
@[simp] theorem offerLoopReply_node (h : HeadIx) (t : LoopTest) (r : LoopResult) : (offerLoopReply h t r s).node = s.node := by
  unfold offerLoopReply; (try dsimp only); (repeat' split) <;> simp
@[simp] theorem offerLoopReply_part (h : HeadIx) (t : LoopTest) (r : LoopResult) : (offerLoopReply h t r s).part = s.part := by
  unfold offerLoopReply; (try dsimp only); (repeat' split) <;> simp
@[simp] theorem offerLoopReply_mgmt (h : HeadIx) (t : LoopTest) (r : LoopResult) : (offerLoopReply h t r s).mgmt = s.mgmt := by
  unfold offerLoopReply; (try dsimp only); (repeat' split) <;> simp
@[simp] theorem offerLoopReply_cls (h : HeadIx) (t : LoopTest) (r : LoopResult) : (offerLoopReply h t r s).cls = s.cls := by
  unfold offerLoopReply; (try dsimp only); (repeat' split) <;> simp
@[simp] theorem offerLoopReply_terms (h : HeadIx) (t : LoopTest) (r : LoopResult) : (offerLoopReply h t r s).terms = s.terms := by
  unfold offerLoopReply; (try dsimp only); (repeat' split) <;> simp
@[simp] theorem offerLoopReply_segs (h : HeadIx) (t : LoopTest) (r : LoopResult) : (offerLoopReply h t r s).segs = s.segs := by
  unfold offerLoopReply; (try dsimp only); (repeat' split) <;> simp
@[simp] theorem offerLoopReply_ho (h : HeadIx) (t : LoopTest) (r : LoopResult) : (offerLoopReply h t r s).ho = s.ho := by
  unfold offerLoopReply; (try dsimp only); (repeat' split) <;> simp
@[simp] theorem offerLoopReply_crane (h : HeadIx) (t : LoopTest) (r : LoopResult) : (offerLoopReply h t r s).crane = s.crane := by
  unfold offerLoopReply; (try dsimp only); (repeat' split) <;> simp
@[simp] theorem offerLoopReply_cov (h : HeadIx) (t : LoopTest) (r : LoopResult) : (offerLoopReply h t r s).cov = s.cov := by
  unfold offerLoopReply; (try dsimp only); (repeat' split) <;> simp
@[simp] theorem offerLoopReply_loops (h : HeadIx) (t : LoopTest) (r : LoopResult) : (offerLoopReply h t r s).loops = s.loops := by
  unfold offerLoopReply; (try dsimp only); (repeat' split) <;> simp
@[simp] theorem offerLoopReply_reef (h : HeadIx) (t : LoopTest) (r : LoopResult) : (offerLoopReply h t r s).reef = s.reef := by
  unfold offerLoopReply; (try dsimp only); (repeat' split) <;> simp
@[simp] theorem offerLoopReply_exp (h : HeadIx) (t : LoopTest) (r : LoopResult) : (offerLoopReply h t r s).exp = s.exp := by
  unfold offerLoopReply; (try dsimp only); (repeat' split) <;> simp

/-! ### A loop test ended (R37) -/

@[simp] theorem endLoopTest_pending (h : HeadIx) (r : LoopResult) : (endLoopTest h r s).pending = s.pending := by
  unfold endLoopTest; (try dsimp only); (repeat' split) <;> simp
@[simp] theorem endLoopTest_choice (h : HeadIx) (r : LoopResult) : (endLoopTest h r s).choice = s.choice := by
  unfold endLoopTest; (try dsimp only); (repeat' split) <;> simp
@[simp] theorem endLoopTest_inReset (h : HeadIx) (r : LoopResult) : (endLoopTest h r s).inReset = s.inReset := by
  unfold endLoopTest; (try dsimp only); (repeat' split) <;> simp
@[simp] theorem endLoopTest_uptime (h : HeadIx) (r : LoopResult) : (endLoopTest h r s).uptime = s.uptime := by
  unfold endLoopTest; (try dsimp only); (repeat' split) <;> simp
@[simp] theorem endLoopTest_node (h : HeadIx) (r : LoopResult) : (endLoopTest h r s).node = s.node := by
  unfold endLoopTest; (try dsimp only); (repeat' split) <;> simp
@[simp] theorem endLoopTest_part (h : HeadIx) (r : LoopResult) : (endLoopTest h r s).part = s.part := by
  unfold endLoopTest; (try dsimp only); (repeat' split) <;> simp
@[simp] theorem endLoopTest_mgmt (h : HeadIx) (r : LoopResult) : (endLoopTest h r s).mgmt = s.mgmt := by
  unfold endLoopTest; (try dsimp only); (repeat' split) <;> simp
@[simp] theorem endLoopTest_cls (h : HeadIx) (r : LoopResult) : (endLoopTest h r s).cls = s.cls := by
  unfold endLoopTest; (try dsimp only); (repeat' split) <;> simp
@[simp] theorem endLoopTest_terms (h : HeadIx) (r : LoopResult) : (endLoopTest h r s).terms = s.terms := by
  unfold endLoopTest; (try dsimp only); (repeat' split) <;> simp
@[simp] theorem endLoopTest_segs (h : HeadIx) (r : LoopResult) : (endLoopTest h r s).segs = s.segs := by
  unfold endLoopTest; (try dsimp only); (repeat' split) <;> simp
@[simp] theorem endLoopTest_ho (h : HeadIx) (r : LoopResult) : (endLoopTest h r s).ho = s.ho := by
  unfold endLoopTest; (try dsimp only); (repeat' split) <;> simp
@[simp] theorem endLoopTest_crane (h : HeadIx) (r : LoopResult) : (endLoopTest h r s).crane = s.crane := by
  unfold endLoopTest; (try dsimp only); (repeat' split) <;> simp
@[simp] theorem endLoopTest_cov (h : HeadIx) (r : LoopResult) : (endLoopTest h r s).cov = s.cov := by
  unfold endLoopTest; (try dsimp only); (repeat' split) <;> simp
@[simp] theorem endLoopTest_loops (h : HeadIx) (r : LoopResult) : (endLoopTest h r s).loops = s.loops := by
  unfold endLoopTest; (try dsimp only); (repeat' split) <;> simp
@[simp] theorem endLoopTest_reef (h : HeadIx) (r : LoopResult) : (endLoopTest h r s).reef = s.reef := by
  unfold endLoopTest; (try dsimp only); (repeat' split) <;> simp
@[simp] theorem endLoopTest_exp (h : HeadIx) (r : LoopResult) : (endLoopTest h r s).exp = s.exp := by
  unfold endLoopTest; (try dsimp only); (repeat' split) <;> simp

/-! ### A head gone (R26) -/

@[simp] theorem headGone_pending (h : HeadIx) (l : HeadLink) (w : Bool) : (headGone h l w s).pending = s.pending := by
  unfold headGone; (try dsimp only); (repeat' split) <;> simp
@[simp] theorem headGone_choice (h : HeadIx) (l : HeadLink) (w : Bool) : (headGone h l w s).choice = s.choice := by
  unfold headGone; (try dsimp only); (repeat' split) <;> simp
@[simp] theorem headGone_inReset (h : HeadIx) (l : HeadLink) (w : Bool) : (headGone h l w s).inReset = s.inReset := by
  unfold headGone; (try dsimp only); (repeat' split) <;> simp
@[simp] theorem headGone_uptime (h : HeadIx) (l : HeadLink) (w : Bool) : (headGone h l w s).uptime = s.uptime := by
  unfold headGone; (try dsimp only); (repeat' split) <;> simp
@[simp] theorem headGone_node (h : HeadIx) (l : HeadLink) (w : Bool) : (headGone h l w s).node = s.node := by
  unfold headGone; (try dsimp only); (repeat' split) <;> simp
@[simp] theorem headGone_part (h : HeadIx) (l : HeadLink) (w : Bool) : (headGone h l w s).part = s.part := by
  unfold headGone; (try dsimp only); (repeat' split) <;> simp
@[simp] theorem headGone_cls (h : HeadIx) (l : HeadLink) (w : Bool) : (headGone h l w s).cls = s.cls := by
  unfold headGone; (try dsimp only); (repeat' split) <;> simp
@[simp] theorem headGone_segs (h : HeadIx) (l : HeadLink) (w : Bool) : (headGone h l w s).segs = s.segs := by
  unfold headGone; (try dsimp only); (repeat' split) <;> simp
@[simp] theorem headGone_crane (h : HeadIx) (l : HeadLink) (w : Bool) : (headGone h l w s).crane = s.crane := by
  unfold headGone; (try dsimp only); (repeat' split) <;> simp
@[simp] theorem headGone_cov (h : HeadIx) (l : HeadLink) (w : Bool) : (headGone h l w s).cov = s.cov := by
  unfold headGone; (try dsimp only); (repeat' split) <;> simp
@[simp] theorem headGone_reef (h : HeadIx) (l : HeadLink) (w : Bool) : (headGone h l w s).reef = s.reef := by
  unfold headGone; (try dsimp only); (repeat' split) <;> simp
@[simp] theorem headGone_exp (h : HeadIx) (l : HeadLink) (w : Bool) : (headGone h l w s).exp = s.exp := by
  unfold headGone; (try dsimp only); (repeat' split) <;> simp

/-! ### A head offline (R25) -/

@[simp] theorem goOffline_pending (h : HeadIx) (c : Nat) : (goOffline h c s).pending = s.pending := by
  unfold goOffline; simp
@[simp] theorem goOffline_choice (h : HeadIx) (c : Nat) : (goOffline h c s).choice = s.choice := by
  unfold goOffline; simp
@[simp] theorem goOffline_inReset (h : HeadIx) (c : Nat) : (goOffline h c s).inReset = s.inReset := by
  unfold goOffline; simp
@[simp] theorem goOffline_uptime (h : HeadIx) (c : Nat) : (goOffline h c s).uptime = s.uptime := by
  unfold goOffline; simp
@[simp] theorem goOffline_node (h : HeadIx) (c : Nat) : (goOffline h c s).node = s.node := by
  unfold goOffline; simp
@[simp] theorem goOffline_part (h : HeadIx) (c : Nat) : (goOffline h c s).part = s.part := by
  unfold goOffline; simp
@[simp] theorem goOffline_cls (h : HeadIx) (c : Nat) : (goOffline h c s).cls = s.cls := by
  unfold goOffline; simp
@[simp] theorem goOffline_segs (h : HeadIx) (c : Nat) : (goOffline h c s).segs = s.segs := by
  unfold goOffline; simp
@[simp] theorem goOffline_crane (h : HeadIx) (c : Nat) : (goOffline h c s).crane = s.crane := by
  unfold goOffline; simp
@[simp] theorem goOffline_cov (h : HeadIx) (c : Nat) : (goOffline h c s).cov = s.cov := by
  unfold goOffline; simp
@[simp] theorem goOffline_reef (h : HeadIx) (c : Nat) : (goOffline h c s).reef = s.reef := by
  unfold goOffline; simp
@[simp] theorem goOffline_exp (h : HeadIx) (c : Nat) : (goOffline h c s).exp = s.exp := by
  unfold goOffline; simp

/-! ### An alarm evaluation (R28) -/

@[simp] theorem evalAlarms_pending (h : HeadIx) (b : Byte) : (evalAlarms h b s).pending = s.pending := by
  unfold evalAlarms; (try dsimp only); (repeat' split) <;> simp
@[simp] theorem evalAlarms_choice (h : HeadIx) (b : Byte) : (evalAlarms h b s).choice = s.choice := by
  unfold evalAlarms; (try dsimp only); (repeat' split) <;> simp
@[simp] theorem evalAlarms_inReset (h : HeadIx) (b : Byte) : (evalAlarms h b s).inReset = s.inReset := by
  unfold evalAlarms; (try dsimp only); (repeat' split) <;> simp
@[simp] theorem evalAlarms_uptime (h : HeadIx) (b : Byte) : (evalAlarms h b s).uptime = s.uptime := by
  unfold evalAlarms; (try dsimp only); (repeat' split) <;> simp
@[simp] theorem evalAlarms_node (h : HeadIx) (b : Byte) : (evalAlarms h b s).node = s.node := by
  unfold evalAlarms; (try dsimp only); (repeat' split) <;> simp
@[simp] theorem evalAlarms_part (h : HeadIx) (b : Byte) : (evalAlarms h b s).part = s.part := by
  unfold evalAlarms; (try dsimp only); (repeat' split) <;> simp
@[simp] theorem evalAlarms_cls (h : HeadIx) (b : Byte) : (evalAlarms h b s).cls = s.cls := by
  unfold evalAlarms; (try dsimp only); (repeat' split) <;> simp
@[simp] theorem evalAlarms_terms (h : HeadIx) (b : Byte) : (evalAlarms h b s).terms = s.terms := by
  unfold evalAlarms; (try dsimp only); (repeat' split) <;> simp
@[simp] theorem evalAlarms_segs (h : HeadIx) (b : Byte) : (evalAlarms h b s).segs = s.segs := by
  unfold evalAlarms; (try dsimp only); (repeat' split) <;> simp
@[simp] theorem evalAlarms_ho (h : HeadIx) (b : Byte) : (evalAlarms h b s).ho = s.ho := by
  unfold evalAlarms; (try dsimp only); (repeat' split) <;> simp
@[simp] theorem evalAlarms_crane (h : HeadIx) (b : Byte) : (evalAlarms h b s).crane = s.crane := by
  unfold evalAlarms; (try dsimp only); (repeat' split) <;> simp
@[simp] theorem evalAlarms_cov (h : HeadIx) (b : Byte) : (evalAlarms h b s).cov = s.cov := by
  unfold evalAlarms; (try dsimp only); (repeat' split) <;> simp
@[simp] theorem evalAlarms_loops (h : HeadIx) (b : Byte) : (evalAlarms h b s).loops = s.loops := by
  unfold evalAlarms; (try dsimp only); (repeat' split) <;> simp
@[simp] theorem evalAlarms_reef (h : HeadIx) (b : Byte) : (evalAlarms h b s).reef = s.reef := by
  unfold evalAlarms; (try dsimp only); (repeat' split) <;> simp
@[simp] theorem evalAlarms_exp (h : HeadIx) (b : Byte) : (evalAlarms h b s).exp = s.exp := by
  unfold evalAlarms; (try dsimp only); (repeat' split) <;> simp

/-! ### A head up (R24) -/

@[simp] theorem enterUp_pending (h : HeadIx) (st : HeadStat) (b : Bool) : (enterUp h st b s).pending = s.pending := by
  unfold enterUp; (try dsimp only); (repeat' split) <;> simp
@[simp] theorem enterUp_choice (h : HeadIx) (st : HeadStat) (b : Bool) : (enterUp h st b s).choice = s.choice := by
  unfold enterUp; (try dsimp only); (repeat' split) <;> simp
@[simp] theorem enterUp_inReset (h : HeadIx) (st : HeadStat) (b : Bool) : (enterUp h st b s).inReset = s.inReset := by
  unfold enterUp; (try dsimp only); (repeat' split) <;> simp
@[simp] theorem enterUp_uptime (h : HeadIx) (st : HeadStat) (b : Bool) : (enterUp h st b s).uptime = s.uptime := by
  unfold enterUp; (try dsimp only); (repeat' split) <;> simp
@[simp] theorem enterUp_node (h : HeadIx) (st : HeadStat) (b : Bool) : (enterUp h st b s).node = s.node := by
  unfold enterUp; (try dsimp only); (repeat' split) <;> simp
@[simp] theorem enterUp_part (h : HeadIx) (st : HeadStat) (b : Bool) : (enterUp h st b s).part = s.part := by
  unfold enterUp; (try dsimp only); (repeat' split) <;> simp
@[simp] theorem enterUp_cls (h : HeadIx) (st : HeadStat) (b : Bool) : (enterUp h st b s).cls = s.cls := by
  unfold enterUp; (try dsimp only); (repeat' split) <;> simp
@[simp] theorem enterUp_terms (h : HeadIx) (st : HeadStat) (b : Bool) : (enterUp h st b s).terms = s.terms := by
  unfold enterUp; (try dsimp only); (repeat' split) <;> simp
@[simp] theorem enterUp_segs (h : HeadIx) (st : HeadStat) (b : Bool) : (enterUp h st b s).segs = s.segs := by
  unfold enterUp; (try dsimp only); (repeat' split) <;> simp
@[simp] theorem enterUp_ho (h : HeadIx) (st : HeadStat) (b : Bool) : (enterUp h st b s).ho = s.ho := by
  unfold enterUp; (try dsimp only); (repeat' split) <;> simp
@[simp] theorem enterUp_crane (h : HeadIx) (st : HeadStat) (b : Bool) : (enterUp h st b s).crane = s.crane := by
  unfold enterUp; (try dsimp only); (repeat' split) <;> simp
@[simp] theorem enterUp_cov (h : HeadIx) (st : HeadStat) (b : Bool) : (enterUp h st b s).cov = s.cov := by
  unfold enterUp; (try dsimp only); (repeat' split) <;> simp
@[simp] theorem enterUp_reef (h : HeadIx) (st : HeadStat) (b : Bool) : (enterUp h st b s).reef = s.reef := by
  unfold enterUp; (try dsimp only); (repeat' split) <;> simp
@[simp] theorem enterUp_exp (h : HeadIx) (st : HeadStat) (b : Bool) : (enterUp h st b s).exp = s.exp := by
  unfold enterUp; (try dsimp only); (repeat' split) <;> simp

/-! ### A head rebooted (R29) -/

@[simp] theorem headRebooted_pending (h : HeadIx) : (headRebooted h s).pending = s.pending := by
  unfold headRebooted; simp
@[simp] theorem headRebooted_choice (h : HeadIx) : (headRebooted h s).choice = s.choice := by
  unfold headRebooted; simp
@[simp] theorem headRebooted_inReset (h : HeadIx) : (headRebooted h s).inReset = s.inReset := by
  unfold headRebooted; simp
@[simp] theorem headRebooted_uptime (h : HeadIx) : (headRebooted h s).uptime = s.uptime := by
  unfold headRebooted; simp
@[simp] theorem headRebooted_node (h : HeadIx) : (headRebooted h s).node = s.node := by
  unfold headRebooted; simp
@[simp] theorem headRebooted_part (h : HeadIx) : (headRebooted h s).part = s.part := by
  unfold headRebooted; simp
@[simp] theorem headRebooted_cls (h : HeadIx) : (headRebooted h s).cls = s.cls := by
  unfold headRebooted; simp
@[simp] theorem headRebooted_segs (h : HeadIx) : (headRebooted h s).segs = s.segs := by
  unfold headRebooted; simp
@[simp] theorem headRebooted_crane (h : HeadIx) : (headRebooted h s).crane = s.crane := by
  unfold headRebooted; simp
@[simp] theorem headRebooted_cov (h : HeadIx) : (headRebooted h s).cov = s.cov := by
  unfold headRebooted; simp
@[simp] theorem headRebooted_reef (h : HeadIx) : (headRebooted h s).reef = s.reef := by
  unfold headRebooted; simp
@[simp] theorem headRebooted_exp (h : HeadIx) : (headRebooted h s).exp = s.exp := by
  unfold headRebooted; simp

/-! ### A status frame of an UP head (R27) -/

@[simp] theorem statusUp_pending (h : HeadIx) (st : HeadStat) : (statusUp h st s).pending = s.pending := by
  unfold statusUp; (try dsimp only); (repeat' split) <;> simp
@[simp] theorem statusUp_choice (h : HeadIx) (st : HeadStat) : (statusUp h st s).choice = s.choice := by
  unfold statusUp; (try dsimp only); (repeat' split) <;> simp
@[simp] theorem statusUp_inReset (h : HeadIx) (st : HeadStat) : (statusUp h st s).inReset = s.inReset := by
  unfold statusUp; (try dsimp only); (repeat' split) <;> simp
@[simp] theorem statusUp_uptime (h : HeadIx) (st : HeadStat) : (statusUp h st s).uptime = s.uptime := by
  unfold statusUp; (try dsimp only); (repeat' split) <;> simp
@[simp] theorem statusUp_node (h : HeadIx) (st : HeadStat) : (statusUp h st s).node = s.node := by
  unfold statusUp; (try dsimp only); (repeat' split) <;> simp
@[simp] theorem statusUp_part (h : HeadIx) (st : HeadStat) : (statusUp h st s).part = s.part := by
  unfold statusUp; (try dsimp only); (repeat' split) <;> simp
@[simp] theorem statusUp_cls (h : HeadIx) (st : HeadStat) : (statusUp h st s).cls = s.cls := by
  unfold statusUp; (try dsimp only); (repeat' split) <;> simp
@[simp] theorem statusUp_segs (h : HeadIx) (st : HeadStat) : (statusUp h st s).segs = s.segs := by
  unfold statusUp; (try dsimp only); (repeat' split) <;> simp
@[simp] theorem statusUp_crane (h : HeadIx) (st : HeadStat) : (statusUp h st s).crane = s.crane := by
  unfold statusUp; (try dsimp only); (repeat' split) <;> simp
@[simp] theorem statusUp_cov (h : HeadIx) (st : HeadStat) : (statusUp h st s).cov = s.cov := by
  unfold statusUp; (try dsimp only); (repeat' split) <;> simp
@[simp] theorem statusUp_reef (h : HeadIx) (st : HeadStat) : (statusUp h st s).reef = s.reef := by
  unfold statusUp; (try dsimp only); (repeat' split) <;> simp
@[simp] theorem statusUp_exp (h : HeadIx) (st : HeadStat) : (statusUp h st s).exp = s.exp := by
  unfold statusUp; (try dsimp only); (repeat' split) <;> simp

/-! ### A status frame (R27) -/

@[simp] theorem headstatFrame_pending (h : HeadIx) (st : HeadStat) : (headstatFrame h st s).pending = s.pending := by
  unfold headstatFrame; (try dsimp only); (repeat' split) <;> simp
@[simp] theorem headstatFrame_choice (h : HeadIx) (st : HeadStat) : (headstatFrame h st s).choice = s.choice := by
  unfold headstatFrame; (try dsimp only); (repeat' split) <;> simp
@[simp] theorem headstatFrame_inReset (h : HeadIx) (st : HeadStat) : (headstatFrame h st s).inReset = s.inReset := by
  unfold headstatFrame; (try dsimp only); (repeat' split) <;> simp
@[simp] theorem headstatFrame_uptime (h : HeadIx) (st : HeadStat) : (headstatFrame h st s).uptime = s.uptime := by
  unfold headstatFrame; (try dsimp only); (repeat' split) <;> simp
@[simp] theorem headstatFrame_node (h : HeadIx) (st : HeadStat) : (headstatFrame h st s).node = s.node := by
  unfold headstatFrame; (try dsimp only); (repeat' split) <;> simp
@[simp] theorem headstatFrame_part (h : HeadIx) (st : HeadStat) : (headstatFrame h st s).part = s.part := by
  unfold headstatFrame; (try dsimp only); (repeat' split) <;> simp
@[simp] theorem headstatFrame_cls (h : HeadIx) (st : HeadStat) : (headstatFrame h st s).cls = s.cls := by
  unfold headstatFrame; (try dsimp only); (repeat' split) <;> simp
@[simp] theorem headstatFrame_segs (h : HeadIx) (st : HeadStat) : (headstatFrame h st s).segs = s.segs := by
  unfold headstatFrame; (try dsimp only); (repeat' split) <;> simp
@[simp] theorem headstatFrame_crane (h : HeadIx) (st : HeadStat) : (headstatFrame h st s).crane = s.crane := by
  unfold headstatFrame; (try dsimp only); (repeat' split) <;> simp
@[simp] theorem headstatFrame_cov (h : HeadIx) (st : HeadStat) : (headstatFrame h st s).cov = s.cov := by
  unfold headstatFrame; (try dsimp only); (repeat' split) <;> simp
@[simp] theorem headstatFrame_reef (h : HeadIx) (st : HeadStat) : (headstatFrame h st s).reef = s.reef := by
  unfold headstatFrame; (try dsimp only); (repeat' split) <;> simp
@[simp] theorem headstatFrame_exp (h : HeadIx) (st : HeadStat) : (headstatFrame h st s).exp = s.exp := by
  unfold headstatFrame; (try dsimp only); (repeat' split) <;> simp

/-! ### A sample (R99) -/

@[simp] theorem admitSample_pending (b : Bool) (h : HeadIx) (g : SegIx) (q : Int) : (admitSample b h g q s).pending = s.pending := by
  unfold admitSample State.modCell; dsimp only; (repeat' split) <;> simp
@[simp] theorem admitSample_choice (b : Bool) (h : HeadIx) (g : SegIx) (q : Int) : (admitSample b h g q s).choice = s.choice := by
  unfold admitSample State.modCell; dsimp only; (repeat' split) <;> simp
@[simp] theorem admitSample_inReset (b : Bool) (h : HeadIx) (g : SegIx) (q : Int) : (admitSample b h g q s).inReset = s.inReset := by
  unfold admitSample State.modCell; dsimp only; (repeat' split) <;> simp
@[simp] theorem admitSample_uptime (b : Bool) (h : HeadIx) (g : SegIx) (q : Int) : (admitSample b h g q s).uptime = s.uptime := by
  unfold admitSample State.modCell; dsimp only; (repeat' split) <;> simp
@[simp] theorem admitSample_node (b : Bool) (h : HeadIx) (g : SegIx) (q : Int) : (admitSample b h g q s).node = s.node := by
  unfold admitSample State.modCell; dsimp only; (repeat' split) <;> simp
@[simp] theorem admitSample_part (b : Bool) (h : HeadIx) (g : SegIx) (q : Int) : (admitSample b h g q s).part = s.part := by
  unfold admitSample State.modCell; dsimp only; (repeat' split) <;> simp
@[simp] theorem admitSample_mgmt (b : Bool) (h : HeadIx) (g : SegIx) (q : Int) : (admitSample b h g q s).mgmt = s.mgmt := by
  unfold admitSample State.modCell; dsimp only; (repeat' split) <;> simp
@[simp] theorem admitSample_heads (b : Bool) (h : HeadIx) (g : SegIx) (q : Int) : (admitSample b h g q s).heads = s.heads := by
  unfold admitSample State.modCell; dsimp only; (repeat' split) <;> simp
@[simp] theorem admitSample_trunk (b : Bool) (h : HeadIx) (g : SegIx) (q : Int) : (admitSample b h g q s).trunk = s.trunk := by
  unfold admitSample State.modCell; dsimp only; (repeat' split) <;> simp
@[simp] theorem admitSample_cls (b : Bool) (h : HeadIx) (g : SegIx) (q : Int) : (admitSample b h g q s).cls = s.cls := by
  unfold admitSample State.modCell; dsimp only; (repeat' split) <;> simp
@[simp] theorem admitSample_terms (b : Bool) (h : HeadIx) (g : SegIx) (q : Int) : (admitSample b h g q s).terms = s.terms := by
  unfold admitSample State.modCell; dsimp only; (repeat' split) <;> simp
@[simp] theorem admitSample_segs (b : Bool) (h : HeadIx) (g : SegIx) (q : Int) : (admitSample b h g q s).segs = s.segs := by
  unfold admitSample State.modCell; dsimp only; (repeat' split) <;> simp
@[simp] theorem admitSample_ho (b : Bool) (h : HeadIx) (g : SegIx) (q : Int) : (admitSample b h g q s).ho = s.ho := by
  unfold admitSample State.modCell; dsimp only; (repeat' split) <;> simp
@[simp] theorem admitSample_crane (b : Bool) (h : HeadIx) (g : SegIx) (q : Int) : (admitSample b h g q s).crane = s.crane := by
  unfold admitSample State.modCell; dsimp only; (repeat' split) <;> simp
@[simp] theorem admitSample_loops (b : Bool) (h : HeadIx) (g : SegIx) (q : Int) : (admitSample b h g q s).loops = s.loops := by
  unfold admitSample State.modCell; dsimp only; (repeat' split) <;> simp
@[simp] theorem admitSample_reef (b : Bool) (h : HeadIx) (g : SegIx) (q : Int) : (admitSample b h g q s).reef = s.reef := by
  unfold admitSample State.modCell; dsimp only; (repeat' split) <;> simp
@[simp] theorem admitSample_exp (b : Bool) (h : HeadIx) (g : SegIx) (q : Int) : (admitSample b h g q s).exp = s.exp := by
  unfold admitSample State.modCell; dsimp only; (repeat' split) <;> simp

/-! ### A quality entry as a sample (R98) -/

@[simp] theorem sampleEntry_pending (g : SegIx) (p : HeadIx × Int) : (sampleEntry g s p).pending = s.pending := by
  unfold sampleEntry; (try dsimp only); (repeat' split) <;> simp
@[simp] theorem sampleEntry_choice (g : SegIx) (p : HeadIx × Int) : (sampleEntry g s p).choice = s.choice := by
  unfold sampleEntry; (try dsimp only); (repeat' split) <;> simp
@[simp] theorem sampleEntry_inReset (g : SegIx) (p : HeadIx × Int) : (sampleEntry g s p).inReset = s.inReset := by
  unfold sampleEntry; (try dsimp only); (repeat' split) <;> simp
@[simp] theorem sampleEntry_uptime (g : SegIx) (p : HeadIx × Int) : (sampleEntry g s p).uptime = s.uptime := by
  unfold sampleEntry; (try dsimp only); (repeat' split) <;> simp
@[simp] theorem sampleEntry_node (g : SegIx) (p : HeadIx × Int) : (sampleEntry g s p).node = s.node := by
  unfold sampleEntry; (try dsimp only); (repeat' split) <;> simp
@[simp] theorem sampleEntry_part (g : SegIx) (p : HeadIx × Int) : (sampleEntry g s p).part = s.part := by
  unfold sampleEntry; (try dsimp only); (repeat' split) <;> simp
@[simp] theorem sampleEntry_mgmt (g : SegIx) (p : HeadIx × Int) : (sampleEntry g s p).mgmt = s.mgmt := by
  unfold sampleEntry; (try dsimp only); (repeat' split) <;> simp
@[simp] theorem sampleEntry_heads (g : SegIx) (p : HeadIx × Int) : (sampleEntry g s p).heads = s.heads := by
  unfold sampleEntry; (try dsimp only); (repeat' split) <;> simp
@[simp] theorem sampleEntry_trunk (g : SegIx) (p : HeadIx × Int) : (sampleEntry g s p).trunk = s.trunk := by
  unfold sampleEntry; (try dsimp only); (repeat' split) <;> simp
@[simp] theorem sampleEntry_cls (g : SegIx) (p : HeadIx × Int) : (sampleEntry g s p).cls = s.cls := by
  unfold sampleEntry; (try dsimp only); (repeat' split) <;> simp
@[simp] theorem sampleEntry_terms (g : SegIx) (p : HeadIx × Int) : (sampleEntry g s p).terms = s.terms := by
  unfold sampleEntry; (try dsimp only); (repeat' split) <;> simp
@[simp] theorem sampleEntry_segs (g : SegIx) (p : HeadIx × Int) : (sampleEntry g s p).segs = s.segs := by
  unfold sampleEntry; (try dsimp only); (repeat' split) <;> simp
@[simp] theorem sampleEntry_ho (g : SegIx) (p : HeadIx × Int) : (sampleEntry g s p).ho = s.ho := by
  unfold sampleEntry; (try dsimp only); (repeat' split) <;> simp
@[simp] theorem sampleEntry_crane (g : SegIx) (p : HeadIx × Int) : (sampleEntry g s p).crane = s.crane := by
  unfold sampleEntry; (try dsimp only); (repeat' split) <;> simp
@[simp] theorem sampleEntry_loops (g : SegIx) (p : HeadIx × Int) : (sampleEntry g s p).loops = s.loops := by
  unfold sampleEntry; (try dsimp only); (repeat' split) <;> simp
@[simp] theorem sampleEntry_reef (g : SegIx) (p : HeadIx × Int) : (sampleEntry g s p).reef = s.reef := by
  unfold sampleEntry; (try dsimp only); (repeat' split) <;> simp
@[simp] theorem sampleEntry_exp (g : SegIx) (p : HeadIx × Int) : (sampleEntry g s p).exp = s.exp := by
  unfold sampleEntry; (try dsimp only); (repeat' split) <;> simp

/-! ### The samples of a report (R98) -/

@[simp] theorem reportSamples_pending (i : SlotIx) (u : List (HeadIx × Int)) : (reportSamples i u s).pending = s.pending := by
  unfold reportSamples; (repeat' split) <;> simp [foldl_keeps State.pending (sampleEntry _) (fun s p => sampleEntry_pending s _ p)]
@[simp] theorem reportSamples_choice (i : SlotIx) (u : List (HeadIx × Int)) : (reportSamples i u s).choice = s.choice := by
  unfold reportSamples; (repeat' split) <;> simp [foldl_keeps State.choice (sampleEntry _) (fun s p => sampleEntry_choice s _ p)]
@[simp] theorem reportSamples_inReset (i : SlotIx) (u : List (HeadIx × Int)) : (reportSamples i u s).inReset = s.inReset := by
  unfold reportSamples; (repeat' split) <;> simp [foldl_keeps State.inReset (sampleEntry _) (fun s p => sampleEntry_inReset s _ p)]
@[simp] theorem reportSamples_uptime (i : SlotIx) (u : List (HeadIx × Int)) : (reportSamples i u s).uptime = s.uptime := by
  unfold reportSamples; (repeat' split) <;> simp [foldl_keeps State.uptime (sampleEntry _) (fun s p => sampleEntry_uptime s _ p)]
@[simp] theorem reportSamples_node (i : SlotIx) (u : List (HeadIx × Int)) : (reportSamples i u s).node = s.node := by
  unfold reportSamples; (repeat' split) <;> simp [foldl_keeps State.node (sampleEntry _) (fun s p => sampleEntry_node s _ p)]
@[simp] theorem reportSamples_part (i : SlotIx) (u : List (HeadIx × Int)) : (reportSamples i u s).part = s.part := by
  unfold reportSamples; (repeat' split) <;> simp [foldl_keeps State.part (sampleEntry _) (fun s p => sampleEntry_part s _ p)]
@[simp] theorem reportSamples_mgmt (i : SlotIx) (u : List (HeadIx × Int)) : (reportSamples i u s).mgmt = s.mgmt := by
  unfold reportSamples; (repeat' split) <;> simp [foldl_keeps State.mgmt (sampleEntry _) (fun s p => sampleEntry_mgmt s _ p)]
@[simp] theorem reportSamples_heads (i : SlotIx) (u : List (HeadIx × Int)) : (reportSamples i u s).heads = s.heads := by
  unfold reportSamples; (repeat' split) <;> simp [foldl_keeps State.heads (sampleEntry _) (fun s p => sampleEntry_heads s _ p)]
@[simp] theorem reportSamples_trunk (i : SlotIx) (u : List (HeadIx × Int)) : (reportSamples i u s).trunk = s.trunk := by
  unfold reportSamples; (repeat' split) <;> simp [foldl_keeps State.trunk (sampleEntry _) (fun s p => sampleEntry_trunk s _ p)]
@[simp] theorem reportSamples_cls (i : SlotIx) (u : List (HeadIx × Int)) : (reportSamples i u s).cls = s.cls := by
  unfold reportSamples; (repeat' split) <;> simp [foldl_keeps State.cls (sampleEntry _) (fun s p => sampleEntry_cls s _ p)]
@[simp] theorem reportSamples_terms (i : SlotIx) (u : List (HeadIx × Int)) : (reportSamples i u s).terms = s.terms := by
  unfold reportSamples; (repeat' split) <;> simp [foldl_keeps State.terms (sampleEntry _) (fun s p => sampleEntry_terms s _ p)]
@[simp] theorem reportSamples_segs (i : SlotIx) (u : List (HeadIx × Int)) : (reportSamples i u s).segs = s.segs := by
  unfold reportSamples; (repeat' split) <;> simp [foldl_keeps State.segs (sampleEntry _) (fun s p => sampleEntry_segs s _ p)]
@[simp] theorem reportSamples_ho (i : SlotIx) (u : List (HeadIx × Int)) : (reportSamples i u s).ho = s.ho := by
  unfold reportSamples; (repeat' split) <;> simp [foldl_keeps State.ho (sampleEntry _) (fun s p => sampleEntry_ho s _ p)]
@[simp] theorem reportSamples_crane (i : SlotIx) (u : List (HeadIx × Int)) : (reportSamples i u s).crane = s.crane := by
  unfold reportSamples; (repeat' split) <;> simp [foldl_keeps State.crane (sampleEntry _) (fun s p => sampleEntry_crane s _ p)]
@[simp] theorem reportSamples_loops (i : SlotIx) (u : List (HeadIx × Int)) : (reportSamples i u s).loops = s.loops := by
  unfold reportSamples; (repeat' split) <;> simp [foldl_keeps State.loops (sampleEntry _) (fun s p => sampleEntry_loops s _ p)]
@[simp] theorem reportSamples_reef (i : SlotIx) (u : List (HeadIx × Int)) : (reportSamples i u s).reef = s.reef := by
  unfold reportSamples; (repeat' split) <;> simp [foldl_keeps State.reef (sampleEntry _) (fun s p => sampleEntry_reef s _ p)]
@[simp] theorem reportSamples_exp (i : SlotIx) (u : List (HeadIx × Int)) : (reportSamples i u s).exp = s.exp := by
  unfold reportSamples; (repeat' split) <;> simp [foldl_keeps State.exp (sampleEntry _) (fun s p => sampleEntry_exp s _ p)]

/-! ### Penalty samples (R101) -/

@[simp] theorem penaltySamples_pending (h : HeadIx) (g : SegIx) (n : Nat) : (penaltySamples h g n s).pending = s.pending := by
  induction n generalizing s with
  | zero => rfl
  | succ n ih => rw [penaltySamples, ih]; simp
@[simp] theorem penaltySamples_choice (h : HeadIx) (g : SegIx) (n : Nat) : (penaltySamples h g n s).choice = s.choice := by
  induction n generalizing s with
  | zero => rfl
  | succ n ih => rw [penaltySamples, ih]; simp
@[simp] theorem penaltySamples_inReset (h : HeadIx) (g : SegIx) (n : Nat) : (penaltySamples h g n s).inReset = s.inReset := by
  induction n generalizing s with
  | zero => rfl
  | succ n ih => rw [penaltySamples, ih]; simp
@[simp] theorem penaltySamples_uptime (h : HeadIx) (g : SegIx) (n : Nat) : (penaltySamples h g n s).uptime = s.uptime := by
  induction n generalizing s with
  | zero => rfl
  | succ n ih => rw [penaltySamples, ih]; simp
@[simp] theorem penaltySamples_node (h : HeadIx) (g : SegIx) (n : Nat) : (penaltySamples h g n s).node = s.node := by
  induction n generalizing s with
  | zero => rfl
  | succ n ih => rw [penaltySamples, ih]; simp
@[simp] theorem penaltySamples_part (h : HeadIx) (g : SegIx) (n : Nat) : (penaltySamples h g n s).part = s.part := by
  induction n generalizing s with
  | zero => rfl
  | succ n ih => rw [penaltySamples, ih]; simp
@[simp] theorem penaltySamples_mgmt (h : HeadIx) (g : SegIx) (n : Nat) : (penaltySamples h g n s).mgmt = s.mgmt := by
  induction n generalizing s with
  | zero => rfl
  | succ n ih => rw [penaltySamples, ih]; simp
@[simp] theorem penaltySamples_heads (h : HeadIx) (g : SegIx) (n : Nat) : (penaltySamples h g n s).heads = s.heads := by
  induction n generalizing s with
  | zero => rfl
  | succ n ih => rw [penaltySamples, ih]; simp
@[simp] theorem penaltySamples_trunk (h : HeadIx) (g : SegIx) (n : Nat) : (penaltySamples h g n s).trunk = s.trunk := by
  induction n generalizing s with
  | zero => rfl
  | succ n ih => rw [penaltySamples, ih]; simp
@[simp] theorem penaltySamples_cls (h : HeadIx) (g : SegIx) (n : Nat) : (penaltySamples h g n s).cls = s.cls := by
  induction n generalizing s with
  | zero => rfl
  | succ n ih => rw [penaltySamples, ih]; simp
@[simp] theorem penaltySamples_terms (h : HeadIx) (g : SegIx) (n : Nat) : (penaltySamples h g n s).terms = s.terms := by
  induction n generalizing s with
  | zero => rfl
  | succ n ih => rw [penaltySamples, ih]; simp
@[simp] theorem penaltySamples_segs (h : HeadIx) (g : SegIx) (n : Nat) : (penaltySamples h g n s).segs = s.segs := by
  induction n generalizing s with
  | zero => rfl
  | succ n ih => rw [penaltySamples, ih]; simp
@[simp] theorem penaltySamples_ho (h : HeadIx) (g : SegIx) (n : Nat) : (penaltySamples h g n s).ho = s.ho := by
  induction n generalizing s with
  | zero => rfl
  | succ n ih => rw [penaltySamples, ih]; simp
@[simp] theorem penaltySamples_crane (h : HeadIx) (g : SegIx) (n : Nat) : (penaltySamples h g n s).crane = s.crane := by
  induction n generalizing s with
  | zero => rfl
  | succ n ih => rw [penaltySamples, ih]; simp
@[simp] theorem penaltySamples_loops (h : HeadIx) (g : SegIx) (n : Nat) : (penaltySamples h g n s).loops = s.loops := by
  induction n generalizing s with
  | zero => rfl
  | succ n ih => rw [penaltySamples, ih]; simp
@[simp] theorem penaltySamples_reef (h : HeadIx) (g : SegIx) (n : Nat) : (penaltySamples h g n s).reef = s.reef := by
  induction n generalizing s with
  | zero => rfl
  | succ n ih => rw [penaltySamples, ih]; simp
@[simp] theorem penaltySamples_exp (h : HeadIx) (g : SegIx) (n : Nat) : (penaltySamples h g n s).exp = s.exp := by
  induction n generalizing s with
  | zero => rfl
  | succ n ih => rw [penaltySamples, ih]; simp

/-! ### The penalty of one entry (R101) -/

@[simp] theorem penaltyEntry_pending (i : SlotIx) : (penaltyEntry s i).pending = s.pending := by
  unfold penaltyEntry; (try dsimp only); (repeat' split) <;> simp
@[simp] theorem penaltyEntry_choice (i : SlotIx) : (penaltyEntry s i).choice = s.choice := by
  unfold penaltyEntry; (try dsimp only); (repeat' split) <;> simp
@[simp] theorem penaltyEntry_inReset (i : SlotIx) : (penaltyEntry s i).inReset = s.inReset := by
  unfold penaltyEntry; (try dsimp only); (repeat' split) <;> simp
@[simp] theorem penaltyEntry_uptime (i : SlotIx) : (penaltyEntry s i).uptime = s.uptime := by
  unfold penaltyEntry; (try dsimp only); (repeat' split) <;> simp
@[simp] theorem penaltyEntry_node (i : SlotIx) : (penaltyEntry s i).node = s.node := by
  unfold penaltyEntry; (try dsimp only); (repeat' split) <;> simp
@[simp] theorem penaltyEntry_part (i : SlotIx) : (penaltyEntry s i).part = s.part := by
  unfold penaltyEntry; (try dsimp only); (repeat' split) <;> simp
@[simp] theorem penaltyEntry_mgmt (i : SlotIx) : (penaltyEntry s i).mgmt = s.mgmt := by
  unfold penaltyEntry; (try dsimp only); (repeat' split) <;> simp
@[simp] theorem penaltyEntry_heads (i : SlotIx) : (penaltyEntry s i).heads = s.heads := by
  unfold penaltyEntry; (try dsimp only); (repeat' split) <;> simp
@[simp] theorem penaltyEntry_trunk (i : SlotIx) : (penaltyEntry s i).trunk = s.trunk := by
  unfold penaltyEntry; (try dsimp only); (repeat' split) <;> simp
@[simp] theorem penaltyEntry_cls (i : SlotIx) : (penaltyEntry s i).cls = s.cls := by
  unfold penaltyEntry; (try dsimp only); (repeat' split) <;> simp
@[simp] theorem penaltyEntry_terms (i : SlotIx) : (penaltyEntry s i).terms = s.terms := by
  unfold penaltyEntry; (try dsimp only); (repeat' split) <;> simp
@[simp] theorem penaltyEntry_segs (i : SlotIx) : (penaltyEntry s i).segs = s.segs := by
  unfold penaltyEntry; (try dsimp only); (repeat' split) <;> simp
@[simp] theorem penaltyEntry_ho (i : SlotIx) : (penaltyEntry s i).ho = s.ho := by
  unfold penaltyEntry; (try dsimp only); (repeat' split) <;> simp
@[simp] theorem penaltyEntry_crane (i : SlotIx) : (penaltyEntry s i).crane = s.crane := by
  unfold penaltyEntry; (try dsimp only); (repeat' split) <;> simp
@[simp] theorem penaltyEntry_loops (i : SlotIx) : (penaltyEntry s i).loops = s.loops := by
  unfold penaltyEntry; (try dsimp only); (repeat' split) <;> simp
@[simp] theorem penaltyEntry_reef (i : SlotIx) : (penaltyEntry s i).reef = s.reef := by
  unfold penaltyEntry; (try dsimp only); (repeat' split) <;> simp
@[simp] theorem penaltyEntry_exp (i : SlotIx) : (penaltyEntry s i).exp = s.exp := by
  unfold penaltyEntry; (try dsimp only); (repeat' split) <;> simp

/-! ### The penalty (R101) -/

@[simp] theorem penalty_pending  : (penalty s).pending = s.pending := by
  unfold penalty; split <;> simp [foldl_keeps State.pending penaltyEntry (fun s i => penaltyEntry_pending s i)]
@[simp] theorem penalty_choice  : (penalty s).choice = s.choice := by
  unfold penalty; split <;> simp [foldl_keeps State.choice penaltyEntry (fun s i => penaltyEntry_choice s i)]
@[simp] theorem penalty_inReset  : (penalty s).inReset = s.inReset := by
  unfold penalty; split <;> simp [foldl_keeps State.inReset penaltyEntry (fun s i => penaltyEntry_inReset s i)]
@[simp] theorem penalty_uptime  : (penalty s).uptime = s.uptime := by
  unfold penalty; split <;> simp [foldl_keeps State.uptime penaltyEntry (fun s i => penaltyEntry_uptime s i)]
@[simp] theorem penalty_node  : (penalty s).node = s.node := by
  unfold penalty; split <;> simp [foldl_keeps State.node penaltyEntry (fun s i => penaltyEntry_node s i)]
@[simp] theorem penalty_part  : (penalty s).part = s.part := by
  unfold penalty; split <;> simp [foldl_keeps State.part penaltyEntry (fun s i => penaltyEntry_part s i)]
@[simp] theorem penalty_mgmt  : (penalty s).mgmt = s.mgmt := by
  unfold penalty; split <;> simp [foldl_keeps State.mgmt penaltyEntry (fun s i => penaltyEntry_mgmt s i)]
@[simp] theorem penalty_heads  : (penalty s).heads = s.heads := by
  unfold penalty; split <;> simp [foldl_keeps State.heads penaltyEntry (fun s i => penaltyEntry_heads s i)]
@[simp] theorem penalty_trunk  : (penalty s).trunk = s.trunk := by
  unfold penalty; split <;> simp [foldl_keeps State.trunk penaltyEntry (fun s i => penaltyEntry_trunk s i)]
@[simp] theorem penalty_cls  : (penalty s).cls = s.cls := by
  unfold penalty; split <;> simp [foldl_keeps State.cls penaltyEntry (fun s i => penaltyEntry_cls s i)]
@[simp] theorem penalty_terms  : (penalty s).terms = s.terms := by
  unfold penalty; split <;> simp [foldl_keeps State.terms penaltyEntry (fun s i => penaltyEntry_terms s i)]
@[simp] theorem penalty_segs  : (penalty s).segs = s.segs := by
  unfold penalty; split <;> simp [foldl_keeps State.segs penaltyEntry (fun s i => penaltyEntry_segs s i)]
@[simp] theorem penalty_ho  : (penalty s).ho = s.ho := by
  unfold penalty; split <;> simp [foldl_keeps State.ho penaltyEntry (fun s i => penaltyEntry_ho s i)]
@[simp] theorem penalty_crane  : (penalty s).crane = s.crane := by
  unfold penalty; split <;> simp [foldl_keeps State.crane penaltyEntry (fun s i => penaltyEntry_crane s i)]
@[simp] theorem penalty_loops  : (penalty s).loops = s.loops := by
  unfold penalty; split <;> simp [foldl_keeps State.loops penaltyEntry (fun s i => penaltyEntry_loops s i)]
@[simp] theorem penalty_reef  : (penalty s).reef = s.reef := by
  unfold penalty; split <;> simp [foldl_keeps State.reef penaltyEntry (fun s i => penaltyEntry_reef s i)]
@[simp] theorem penalty_exp  : (penalty s).exp = s.exp := by
  unfold penalty; split <;> simp [foldl_keeps State.exp penaltyEntry (fun s i => penaltyEntry_exp s i)]

/-! ### The status stage (R114) -/

@[simp] theorem setStatus_pending (h : HeadIx) (q t e : Int) : (setStatus h q t e s).pending = s.pending := by
  unfold setStatus; (try dsimp only); (repeat' split) <;> simp
@[simp] theorem setStatus_choice (h : HeadIx) (q t e : Int) : (setStatus h q t e s).choice = s.choice := by
  unfold setStatus; (try dsimp only); (repeat' split) <;> simp
@[simp] theorem setStatus_inReset (h : HeadIx) (q t e : Int) : (setStatus h q t e s).inReset = s.inReset := by
  unfold setStatus; (try dsimp only); (repeat' split) <;> simp
@[simp] theorem setStatus_uptime (h : HeadIx) (q t e : Int) : (setStatus h q t e s).uptime = s.uptime := by
  unfold setStatus; (try dsimp only); (repeat' split) <;> simp
@[simp] theorem setStatus_node (h : HeadIx) (q t e : Int) : (setStatus h q t e s).node = s.node := by
  unfold setStatus; (try dsimp only); (repeat' split) <;> simp
@[simp] theorem setStatus_part (h : HeadIx) (q t e : Int) : (setStatus h q t e s).part = s.part := by
  unfold setStatus; (try dsimp only); (repeat' split) <;> simp
@[simp] theorem setStatus_heads (h : HeadIx) (q t e : Int) : (setStatus h q t e s).heads = s.heads := by
  unfold setStatus; (try dsimp only); (repeat' split) <;> simp
@[simp] theorem setStatus_cls (h : HeadIx) (q t e : Int) : (setStatus h q t e s).cls = s.cls := by
  unfold setStatus; (try dsimp only); (repeat' split) <;> simp
@[simp] theorem setStatus_terms (h : HeadIx) (q t e : Int) : (setStatus h q t e s).terms = s.terms := by
  unfold setStatus; (try dsimp only); (repeat' split) <;> simp
@[simp] theorem setStatus_segs (h : HeadIx) (q t e : Int) : (setStatus h q t e s).segs = s.segs := by
  unfold setStatus; (try dsimp only); (repeat' split) <;> simp
@[simp] theorem setStatus_ho (h : HeadIx) (q t e : Int) : (setStatus h q t e s).ho = s.ho := by
  unfold setStatus; (try dsimp only); (repeat' split) <;> simp
@[simp] theorem setStatus_crane (h : HeadIx) (q t e : Int) : (setStatus h q t e s).crane = s.crane := by
  unfold setStatus; (try dsimp only); (repeat' split) <;> simp
@[simp] theorem setStatus_cov (h : HeadIx) (q t e : Int) : (setStatus h q t e s).cov = s.cov := by
  unfold setStatus; (try dsimp only); (repeat' split) <;> simp
@[simp] theorem setStatus_reef (h : HeadIx) (q t e : Int) : (setStatus h q t e s).reef = s.reef := by
  unfold setStatus; (try dsimp only); (repeat' split) <;> simp
@[simp] theorem setStatus_exp (h : HeadIx) (q t e : Int) : (setStatus h q t e s).exp = s.exp := by
  unfold setStatus; (try dsimp only); (repeat' split) <;> simp

/-! ### The setpoint stage (R115) -/

@[simp] theorem updateSetpoint_pending (h : HeadIx) : (updateSetpoint h s).pending = s.pending := by
  unfold updateSetpoint; (try dsimp only); (repeat' split) <;> simp
@[simp] theorem updateSetpoint_choice (h : HeadIx) : (updateSetpoint h s).choice = s.choice := by
  unfold updateSetpoint; (try dsimp only); (repeat' split) <;> simp
@[simp] theorem updateSetpoint_inReset (h : HeadIx) : (updateSetpoint h s).inReset = s.inReset := by
  unfold updateSetpoint; (try dsimp only); (repeat' split) <;> simp
@[simp] theorem updateSetpoint_uptime (h : HeadIx) : (updateSetpoint h s).uptime = s.uptime := by
  unfold updateSetpoint; (try dsimp only); (repeat' split) <;> simp
@[simp] theorem updateSetpoint_node (h : HeadIx) : (updateSetpoint h s).node = s.node := by
  unfold updateSetpoint; (try dsimp only); (repeat' split) <;> simp
@[simp] theorem updateSetpoint_part (h : HeadIx) : (updateSetpoint h s).part = s.part := by
  unfold updateSetpoint; (try dsimp only); (repeat' split) <;> simp
@[simp] theorem updateSetpoint_mgmt (h : HeadIx) : (updateSetpoint h s).mgmt = s.mgmt := by
  unfold updateSetpoint; (try dsimp only); (repeat' split) <;> simp
@[simp] theorem updateSetpoint_trunk (h : HeadIx) : (updateSetpoint h s).trunk = s.trunk := by
  unfold updateSetpoint; (try dsimp only); (repeat' split) <;> simp
@[simp] theorem updateSetpoint_cls (h : HeadIx) : (updateSetpoint h s).cls = s.cls := by
  unfold updateSetpoint; (try dsimp only); (repeat' split) <;> simp
@[simp] theorem updateSetpoint_terms (h : HeadIx) : (updateSetpoint h s).terms = s.terms := by
  unfold updateSetpoint; (try dsimp only); (repeat' split) <;> simp
@[simp] theorem updateSetpoint_segs (h : HeadIx) : (updateSetpoint h s).segs = s.segs := by
  unfold updateSetpoint; (try dsimp only); (repeat' split) <;> simp
@[simp] theorem updateSetpoint_ho (h : HeadIx) : (updateSetpoint h s).ho = s.ho := by
  unfold updateSetpoint; (try dsimp only); (repeat' split) <;> simp
@[simp] theorem updateSetpoint_crane (h : HeadIx) : (updateSetpoint h s).crane = s.crane := by
  unfold updateSetpoint; (try dsimp only); (repeat' split) <;> simp
@[simp] theorem updateSetpoint_cov (h : HeadIx) : (updateSetpoint h s).cov = s.cov := by
  unfold updateSetpoint; (try dsimp only); (repeat' split) <;> simp
@[simp] theorem updateSetpoint_reef (h : HeadIx) : (updateSetpoint h s).reef = s.reef := by
  unfold updateSetpoint; (try dsimp only); (repeat' split) <;> simp
@[simp] theorem updateSetpoint_exp (h : HeadIx) : (updateSetpoint h s).exp = s.exp := by
  unfold updateSetpoint; (try dsimp only); (repeat' split) <;> simp

/-! ### An update (R112 to R115) -/

@[simp] theorem loopUpdate_pending (h : HeadIx) : (loopUpdate h s).pending = s.pending := by
  unfold loopUpdate; (try dsimp only); (repeat' split) <;> simp
@[simp] theorem loopUpdate_choice (h : HeadIx) : (loopUpdate h s).choice = s.choice := by
  unfold loopUpdate; (try dsimp only); (repeat' split) <;> simp
@[simp] theorem loopUpdate_inReset (h : HeadIx) : (loopUpdate h s).inReset = s.inReset := by
  unfold loopUpdate; (try dsimp only); (repeat' split) <;> simp
@[simp] theorem loopUpdate_uptime (h : HeadIx) : (loopUpdate h s).uptime = s.uptime := by
  unfold loopUpdate; (try dsimp only); (repeat' split) <;> simp
@[simp] theorem loopUpdate_node (h : HeadIx) : (loopUpdate h s).node = s.node := by
  unfold loopUpdate; (try dsimp only); (repeat' split) <;> simp
@[simp] theorem loopUpdate_part (h : HeadIx) : (loopUpdate h s).part = s.part := by
  unfold loopUpdate; (try dsimp only); (repeat' split) <;> simp
@[simp] theorem loopUpdate_cls (h : HeadIx) : (loopUpdate h s).cls = s.cls := by
  unfold loopUpdate; (try dsimp only); (repeat' split) <;> simp
@[simp] theorem loopUpdate_terms (h : HeadIx) : (loopUpdate h s).terms = s.terms := by
  unfold loopUpdate; (try dsimp only); (repeat' split) <;> simp
@[simp] theorem loopUpdate_segs (h : HeadIx) : (loopUpdate h s).segs = s.segs := by
  unfold loopUpdate; (try dsimp only); (repeat' split) <;> simp
@[simp] theorem loopUpdate_ho (h : HeadIx) : (loopUpdate h s).ho = s.ho := by
  unfold loopUpdate; (try dsimp only); (repeat' split) <;> simp
@[simp] theorem loopUpdate_crane (h : HeadIx) : (loopUpdate h s).crane = s.crane := by
  unfold loopUpdate; (try dsimp only); (repeat' split) <;> simp
@[simp] theorem loopUpdate_cov (h : HeadIx) : (loopUpdate h s).cov = s.cov := by
  unfold loopUpdate; (try dsimp only); (repeat' split) <;> simp
@[simp] theorem loopUpdate_reef (h : HeadIx) : (loopUpdate h s).reef = s.reef := by
  unfold loopUpdate; (try dsimp only); (repeat' split) <;> simp
@[simp] theorem loopUpdate_exp (h : HeadIx) : (loopUpdate h s).exp = s.exp := by
  unfold loopUpdate; (try dsimp only); (repeat' split) <;> simp

/-! ### An update of a linked head (R111) -/

@[simp] theorem updateIfLinked_pending (h : HeadIx) : (updateIfLinked s h).pending = s.pending := by
  unfold updateIfLinked; (try dsimp only); (repeat' split) <;> simp
@[simp] theorem updateIfLinked_choice (h : HeadIx) : (updateIfLinked s h).choice = s.choice := by
  unfold updateIfLinked; (try dsimp only); (repeat' split) <;> simp
@[simp] theorem updateIfLinked_inReset (h : HeadIx) : (updateIfLinked s h).inReset = s.inReset := by
  unfold updateIfLinked; (try dsimp only); (repeat' split) <;> simp
@[simp] theorem updateIfLinked_uptime (h : HeadIx) : (updateIfLinked s h).uptime = s.uptime := by
  unfold updateIfLinked; (try dsimp only); (repeat' split) <;> simp
@[simp] theorem updateIfLinked_node (h : HeadIx) : (updateIfLinked s h).node = s.node := by
  unfold updateIfLinked; (try dsimp only); (repeat' split) <;> simp
@[simp] theorem updateIfLinked_part (h : HeadIx) : (updateIfLinked s h).part = s.part := by
  unfold updateIfLinked; (try dsimp only); (repeat' split) <;> simp
@[simp] theorem updateIfLinked_cls (h : HeadIx) : (updateIfLinked s h).cls = s.cls := by
  unfold updateIfLinked; (try dsimp only); (repeat' split) <;> simp
@[simp] theorem updateIfLinked_terms (h : HeadIx) : (updateIfLinked s h).terms = s.terms := by
  unfold updateIfLinked; (try dsimp only); (repeat' split) <;> simp
@[simp] theorem updateIfLinked_segs (h : HeadIx) : (updateIfLinked s h).segs = s.segs := by
  unfold updateIfLinked; (try dsimp only); (repeat' split) <;> simp
@[simp] theorem updateIfLinked_ho (h : HeadIx) : (updateIfLinked s h).ho = s.ho := by
  unfold updateIfLinked; (try dsimp only); (repeat' split) <;> simp
@[simp] theorem updateIfLinked_crane (h : HeadIx) : (updateIfLinked s h).crane = s.crane := by
  unfold updateIfLinked; (try dsimp only); (repeat' split) <;> simp
@[simp] theorem updateIfLinked_cov (h : HeadIx) : (updateIfLinked s h).cov = s.cov := by
  unfold updateIfLinked; (try dsimp only); (repeat' split) <;> simp
@[simp] theorem updateIfLinked_reef (h : HeadIx) : (updateIfLinked s h).reef = s.reef := by
  unfold updateIfLinked; (try dsimp only); (repeat' split) <;> simp
@[simp] theorem updateIfLinked_exp (h : HeadIx) : (updateIfLinked s h).exp = s.exp := by
  unfold updateIfLinked; (try dsimp only); (repeat' split) <;> simp

/-! ### A close offered to the loop (R111) -/

@[simp] theorem loopClose_pending (n : BitVec 8) : (loopClose n s).pending = s.pending := by
  unfold loopClose; split <;> simp [foldl_keeps State.pending updateIfLinked (fun s h => updateIfLinked_pending s h)]
@[simp] theorem loopClose_choice (n : BitVec 8) : (loopClose n s).choice = s.choice := by
  unfold loopClose; split <;> simp [foldl_keeps State.choice updateIfLinked (fun s h => updateIfLinked_choice s h)]
@[simp] theorem loopClose_inReset (n : BitVec 8) : (loopClose n s).inReset = s.inReset := by
  unfold loopClose; split <;> simp [foldl_keeps State.inReset updateIfLinked (fun s h => updateIfLinked_inReset s h)]
@[simp] theorem loopClose_uptime (n : BitVec 8) : (loopClose n s).uptime = s.uptime := by
  unfold loopClose; split <;> simp [foldl_keeps State.uptime updateIfLinked (fun s h => updateIfLinked_uptime s h)]
@[simp] theorem loopClose_node (n : BitVec 8) : (loopClose n s).node = s.node := by
  unfold loopClose; split <;> simp [foldl_keeps State.node updateIfLinked (fun s h => updateIfLinked_node s h)]
@[simp] theorem loopClose_part (n : BitVec 8) : (loopClose n s).part = s.part := by
  unfold loopClose; split <;> simp [foldl_keeps State.part updateIfLinked (fun s h => updateIfLinked_part s h)]
@[simp] theorem loopClose_cls (n : BitVec 8) : (loopClose n s).cls = s.cls := by
  unfold loopClose; split <;> simp [foldl_keeps State.cls updateIfLinked (fun s h => updateIfLinked_cls s h)]
@[simp] theorem loopClose_terms (n : BitVec 8) : (loopClose n s).terms = s.terms := by
  unfold loopClose; split <;> simp [foldl_keeps State.terms updateIfLinked (fun s h => updateIfLinked_terms s h)]
@[simp] theorem loopClose_segs (n : BitVec 8) : (loopClose n s).segs = s.segs := by
  unfold loopClose; split <;> simp [foldl_keeps State.segs updateIfLinked (fun s h => updateIfLinked_segs s h)]
@[simp] theorem loopClose_ho (n : BitVec 8) : (loopClose n s).ho = s.ho := by
  unfold loopClose; split <;> simp [foldl_keeps State.ho updateIfLinked (fun s h => updateIfLinked_ho s h)]
@[simp] theorem loopClose_crane (n : BitVec 8) : (loopClose n s).crane = s.crane := by
  unfold loopClose; split <;> simp [foldl_keeps State.crane updateIfLinked (fun s h => updateIfLinked_crane s h)]
@[simp] theorem loopClose_cov (n : BitVec 8) : (loopClose n s).cov = s.cov := by
  unfold loopClose; split <;> simp [foldl_keeps State.cov updateIfLinked (fun s h => updateIfLinked_cov s h)]
@[simp] theorem loopClose_reef (n : BitVec 8) : (loopClose n s).reef = s.reef := by
  unfold loopClose; split <;> simp [foldl_keeps State.reef updateIfLinked (fun s h => updateIfLinked_reef s h)]
@[simp] theorem loopClose_exp (n : BitVec 8) : (loopClose n s).exp = s.exp := by
  unfold loopClose; split <;> simp [foldl_keeps State.exp updateIfLinked (fun s h => updateIfLinked_exp s h)]

/-! ### A close (R101 to R103) -/

@[simp] theorem coverageClose_pending  : (coverageClose s).pending = s.pending := by
  unfold coverageClose; simp
@[simp] theorem coverageClose_choice  : (coverageClose s).choice = s.choice := by
  unfold coverageClose; simp
@[simp] theorem coverageClose_inReset  : (coverageClose s).inReset = s.inReset := by
  unfold coverageClose; simp
@[simp] theorem coverageClose_uptime  : (coverageClose s).uptime = s.uptime := by
  unfold coverageClose; simp
@[simp] theorem coverageClose_node  : (coverageClose s).node = s.node := by
  unfold coverageClose; simp
@[simp] theorem coverageClose_part  : (coverageClose s).part = s.part := by
  unfold coverageClose; simp
@[simp] theorem coverageClose_cls  : (coverageClose s).cls = s.cls := by
  unfold coverageClose; simp
@[simp] theorem coverageClose_terms  : (coverageClose s).terms = s.terms := by
  unfold coverageClose; simp
@[simp] theorem coverageClose_segs  : (coverageClose s).segs = s.segs := by
  unfold coverageClose; simp
@[simp] theorem coverageClose_ho  : (coverageClose s).ho = s.ho := by
  unfold coverageClose; simp
@[simp] theorem coverageClose_crane  : (coverageClose s).crane = s.crane := by
  unfold coverageClose; simp
@[simp] theorem coverageClose_reef  : (coverageClose s).reef = s.reef := by
  unfold coverageClose; simp
@[simp] theorem coverageClose_exp  : (coverageClose s).exp = s.exp := by
  unfold coverageClose; simp

/-! ### A window change (R105) -/

@[simp] theorem windowChange_pending (h : HeadIx) (a b : HeadRecord) : (windowChange h a b s).pending = s.pending := by
  unfold windowChange; (try dsimp only); (repeat' split) <;> simp
@[simp] theorem windowChange_choice (h : HeadIx) (a b : HeadRecord) : (windowChange h a b s).choice = s.choice := by
  unfold windowChange; (try dsimp only); (repeat' split) <;> simp
@[simp] theorem windowChange_inReset (h : HeadIx) (a b : HeadRecord) : (windowChange h a b s).inReset = s.inReset := by
  unfold windowChange; (try dsimp only); (repeat' split) <;> simp
@[simp] theorem windowChange_uptime (h : HeadIx) (a b : HeadRecord) : (windowChange h a b s).uptime = s.uptime := by
  unfold windowChange; (try dsimp only); (repeat' split) <;> simp
@[simp] theorem windowChange_node (h : HeadIx) (a b : HeadRecord) : (windowChange h a b s).node = s.node := by
  unfold windowChange; (try dsimp only); (repeat' split) <;> simp
@[simp] theorem windowChange_part (h : HeadIx) (a b : HeadRecord) : (windowChange h a b s).part = s.part := by
  unfold windowChange; (try dsimp only); (repeat' split) <;> simp
@[simp] theorem windowChange_mgmt (h : HeadIx) (a b : HeadRecord) : (windowChange h a b s).mgmt = s.mgmt := by
  unfold windowChange; (try dsimp only); (repeat' split) <;> simp
@[simp] theorem windowChange_heads (h : HeadIx) (a b : HeadRecord) : (windowChange h a b s).heads = s.heads := by
  unfold windowChange; (try dsimp only); (repeat' split) <;> simp
@[simp] theorem windowChange_trunk (h : HeadIx) (a b : HeadRecord) : (windowChange h a b s).trunk = s.trunk := by
  unfold windowChange; (try dsimp only); (repeat' split) <;> simp
@[simp] theorem windowChange_cls (h : HeadIx) (a b : HeadRecord) : (windowChange h a b s).cls = s.cls := by
  unfold windowChange; (try dsimp only); (repeat' split) <;> simp
@[simp] theorem windowChange_terms (h : HeadIx) (a b : HeadRecord) : (windowChange h a b s).terms = s.terms := by
  unfold windowChange; (try dsimp only); (repeat' split) <;> simp
@[simp] theorem windowChange_segs (h : HeadIx) (a b : HeadRecord) : (windowChange h a b s).segs = s.segs := by
  unfold windowChange; (try dsimp only); (repeat' split) <;> simp
@[simp] theorem windowChange_ho (h : HeadIx) (a b : HeadRecord) : (windowChange h a b s).ho = s.ho := by
  unfold windowChange; (try dsimp only); (repeat' split) <;> simp
@[simp] theorem windowChange_crane (h : HeadIx) (a b : HeadRecord) : (windowChange h a b s).crane = s.crane := by
  unfold windowChange; (try dsimp only); (repeat' split) <;> simp
@[simp] theorem windowChange_loops (h : HeadIx) (a b : HeadRecord) : (windowChange h a b s).loops = s.loops := by
  unfold windowChange; (try dsimp only); (repeat' split) <;> simp
@[simp] theorem windowChange_reef (h : HeadIx) (a b : HeadRecord) : (windowChange h a b s).reef = s.reef := by
  unfold windowChange; (try dsimp only); (repeat' split) <;> simp
@[simp] theorem windowChange_exp (h : HeadIx) (a b : HeadRecord) : (windowChange h a b s).exp = s.exp := by
  unfold windowChange; (try dsimp only); (repeat' split) <;> simp

/-! ### A downlink frame offered -/

@[simp] theorem offerHead_pending (c : Bool) (h : HeadIx) (f : BerthFrame) : (offerHead c h f s).pending = s.pending := by
  unfold offerHead; (try dsimp only); (repeat' split) <;> simp
@[simp] theorem offerHead_choice (c : Bool) (h : HeadIx) (f : BerthFrame) : (offerHead c h f s).choice = s.choice := by
  unfold offerHead; (try dsimp only); (repeat' split) <;> simp
@[simp] theorem offerHead_inReset (c : Bool) (h : HeadIx) (f : BerthFrame) : (offerHead c h f s).inReset = s.inReset := by
  unfold offerHead; (try dsimp only); (repeat' split) <;> simp
@[simp] theorem offerHead_uptime (c : Bool) (h : HeadIx) (f : BerthFrame) : (offerHead c h f s).uptime = s.uptime := by
  unfold offerHead; (try dsimp only); (repeat' split) <;> simp
@[simp] theorem offerHead_node (c : Bool) (h : HeadIx) (f : BerthFrame) : (offerHead c h f s).node = s.node := by
  unfold offerHead; (try dsimp only); (repeat' split) <;> simp
@[simp] theorem offerHead_part (c : Bool) (h : HeadIx) (f : BerthFrame) : (offerHead c h f s).part = s.part := by
  unfold offerHead; (try dsimp only); (repeat' split) <;> simp
@[simp] theorem offerHead_cls (c : Bool) (h : HeadIx) (f : BerthFrame) : (offerHead c h f s).cls = s.cls := by
  unfold offerHead; (try dsimp only); (repeat' split) <;> simp
@[simp] theorem offerHead_terms (c : Bool) (h : HeadIx) (f : BerthFrame) : (offerHead c h f s).terms = s.terms := by
  unfold offerHead; (try dsimp only); (repeat' split) <;> simp
@[simp] theorem offerHead_segs (c : Bool) (h : HeadIx) (f : BerthFrame) : (offerHead c h f s).segs = s.segs := by
  unfold offerHead; (try dsimp only); (repeat' split) <;> simp
@[simp] theorem offerHead_ho (c : Bool) (h : HeadIx) (f : BerthFrame) : (offerHead c h f s).ho = s.ho := by
  unfold offerHead; (try dsimp only); (repeat' split) <;> simp
@[simp] theorem offerHead_crane (c : Bool) (h : HeadIx) (f : BerthFrame) : (offerHead c h f s).crane = s.crane := by
  unfold offerHead; (try dsimp only); (repeat' split) <;> simp
@[simp] theorem offerHead_cov (c : Bool) (h : HeadIx) (f : BerthFrame) : (offerHead c h f s).cov = s.cov := by
  unfold offerHead; (try dsimp only); (repeat' split) <;> simp
@[simp] theorem offerHead_loops (c : Bool) (h : HeadIx) (f : BerthFrame) : (offerHead c h f s).loops = s.loops := by
  unfold offerHead; (try dsimp only); (repeat' split) <;> simp
@[simp] theorem offerHead_reef (c : Bool) (h : HeadIx) (f : BerthFrame) : (offerHead c h f s).reef = s.reef := by
  unfold offerHead; (try dsimp only); (repeat' split) <;> simp
@[simp] theorem offerHead_exp (c : Bool) (h : HeadIx) (f : BerthFrame) : (offerHead c h f s).exp = s.exp := by
  unfold offerHead; (try dsimp only); (repeat' split) <;> simp

/-! ### A downlink frame steered (R51) -/

@[simp] theorem steer_pending (c : Bool) (f : BerthFrame) : (steer c f s).pending = s.pending := by
  unfold steer steerForced steerLookup steerEntry; (repeat' split) <;> simp
@[simp] theorem steer_choice (c : Bool) (f : BerthFrame) : (steer c f s).choice = s.choice := by
  unfold steer steerForced steerLookup steerEntry; (repeat' split) <;> simp
@[simp] theorem steer_inReset (c : Bool) (f : BerthFrame) : (steer c f s).inReset = s.inReset := by
  unfold steer steerForced steerLookup steerEntry; (repeat' split) <;> simp
@[simp] theorem steer_uptime (c : Bool) (f : BerthFrame) : (steer c f s).uptime = s.uptime := by
  unfold steer steerForced steerLookup steerEntry; (repeat' split) <;> simp
@[simp] theorem steer_node (c : Bool) (f : BerthFrame) : (steer c f s).node = s.node := by
  unfold steer steerForced steerLookup steerEntry; (repeat' split) <;> simp
@[simp] theorem steer_part (c : Bool) (f : BerthFrame) : (steer c f s).part = s.part := by
  unfold steer steerForced steerLookup steerEntry; (repeat' split) <;> simp
@[simp] theorem steer_terms (c : Bool) (f : BerthFrame) : (steer c f s).terms = s.terms := by
  unfold steer steerForced steerLookup steerEntry; (repeat' split) <;> simp
@[simp] theorem steer_segs (c : Bool) (f : BerthFrame) : (steer c f s).segs = s.segs := by
  unfold steer steerForced steerLookup steerEntry; (repeat' split) <;> simp
@[simp] theorem steer_ho (c : Bool) (f : BerthFrame) : (steer c f s).ho = s.ho := by
  unfold steer steerForced steerLookup steerEntry; (repeat' split) <;> simp
@[simp] theorem steer_crane (c : Bool) (f : BerthFrame) : (steer c f s).crane = s.crane := by
  unfold steer steerForced steerLookup steerEntry; (repeat' split) <;> simp
@[simp] theorem steer_cov (c : Bool) (f : BerthFrame) : (steer c f s).cov = s.cov := by
  unfold steer steerForced steerLookup steerEntry; (repeat' split) <;> simp
@[simp] theorem steer_loops (c : Bool) (f : BerthFrame) : (steer c f s).loops = s.loops := by
  unfold steer steerForced steerLookup steerEntry; (repeat' split) <;> simp
@[simp] theorem steer_reef (c : Bool) (f : BerthFrame) : (steer c f s).reef = s.reef := by
  unfold steer steerForced steerLookup steerEntry; (repeat' split) <;> simp
@[simp] theorem steer_exp (c : Bool) (f : BerthFrame) : (steer c f s).exp = s.exp := by
  unfold steer steerForced steerLookup steerEntry; (repeat' split) <;> simp

/-! ### All queues flushed (R41) -/

@[simp] theorem flushAll_pending  : (flushAll s).pending = s.pending := by
  exact foldl_keeps State.pending _ (fun s h => flush_pending s h) _ s
@[simp] theorem flushAll_choice  : (flushAll s).choice = s.choice := by
  exact foldl_keeps State.choice _ (fun s h => flush_choice s h) _ s
@[simp] theorem flushAll_inReset  : (flushAll s).inReset = s.inReset := by
  exact foldl_keeps State.inReset _ (fun s h => flush_inReset s h) _ s
@[simp] theorem flushAll_uptime  : (flushAll s).uptime = s.uptime := by
  exact foldl_keeps State.uptime _ (fun s h => flush_uptime s h) _ s
@[simp] theorem flushAll_node  : (flushAll s).node = s.node := by
  exact foldl_keeps State.node _ (fun s h => flush_node s h) _ s
@[simp] theorem flushAll_part  : (flushAll s).part = s.part := by
  exact foldl_keeps State.part _ (fun s h => flush_part s h) _ s
@[simp] theorem flushAll_mgmt  : (flushAll s).mgmt = s.mgmt := by
  exact foldl_keeps State.mgmt _ (fun s h => flush_mgmt s h) _ s
@[simp] theorem flushAll_trunk  : (flushAll s).trunk = s.trunk := by
  exact foldl_keeps State.trunk _ (fun s h => flush_trunk s h) _ s
@[simp] theorem flushAll_cls  : (flushAll s).cls = s.cls := by
  exact foldl_keeps State.cls _ (fun s h => flush_cls s h) _ s
@[simp] theorem flushAll_terms  : (flushAll s).terms = s.terms := by
  exact foldl_keeps State.terms _ (fun s h => flush_terms s h) _ s
@[simp] theorem flushAll_segs  : (flushAll s).segs = s.segs := by
  exact foldl_keeps State.segs _ (fun s h => flush_segs s h) _ s
@[simp] theorem flushAll_ho  : (flushAll s).ho = s.ho := by
  exact foldl_keeps State.ho _ (fun s h => flush_ho s h) _ s
@[simp] theorem flushAll_crane  : (flushAll s).crane = s.crane := by
  exact foldl_keeps State.crane _ (fun s h => flush_crane s h) _ s
@[simp] theorem flushAll_cov  : (flushAll s).cov = s.cov := by
  exact foldl_keeps State.cov _ (fun s h => flush_cov s h) _ s
@[simp] theorem flushAll_reef  : (flushAll s).reef = s.reef := by
  exact foldl_keeps State.reef _ (fun s h => flush_reef s h) _ s
@[simp] theorem flushAll_exp  : (flushAll s).exp = s.exp := by
  exact foldl_keeps State.exp _ (fun s h => flush_exp s h) _ s

end Sys2Proof.Machine
end

