-- ==== Sys2Proof/Laws/Spec.lean ====
section
/-! SUPPORT. What the shared operations do, said once: requests, replies, deadlines, the terms of Safety. -/

namespace Sys2Proof.Machine
open Sys2Proof Sys2Proof.Safety

/-- An accepted request runs its body on the state in which it has been counted. -/
theorem request_of_accepted {s : State} {h : Hdr} (ha : Accepted s h) (code : Byte) (body : Asker → State → State) :
    request h code body s = body { own := decide (h.dest ≠ 255), code, tag := h.tag } (asked s h) := by
  obtain ⟨hr, hd⟩ := ha
  by_cases hb : h.dest = 255
  · simp [request, hr, hb, asked, State.countMgmt, State.modMgmt]
  · obtain ⟨hd, hq⟩ := hd.resolve_left hb
    have hq' : ¬ 8 ≤ s.trunk.replyQ.length := by omega
    have e : asked s h = s.countMgmt fun c => { c with requests := inc c.requests } := by
      simp only [asked, if_neg hb]; rfl
    have b : decide (h.dest ≠ 255) = true := by simpa using hb
    rw [e, b, request, if_neg (by simp [hr]), if_neg hb, if_pos hd, if_neg hq']

/-- An answer to a request is what it is told. -/
theorem answer_eq_told (h : Hdr) (code : Byte) (st : Status) (d : ReplyData) (s : State) :
    answer { own := decide (h.dest ≠ 255), code, tag := h.tag } st d s = told s h code st d := by
  by_cases hb : h.dest = 255 <;> simp [answer, told, hb, State.modTrunk]

/-- A deadline is due where it is present and not later than now. -/
theorem due_iff {d : Option Nat} {now : Nat} : due d now = true ↔ ∃ t ∈ d, t ≤ now := by
  cases d <;> simp [due]

/-- A number is bad exactly where it is 0 or 65535. -/
theorem badNumber_iff {n : TermNo} : badNumber n = true ↔ n = 0 ∨ n = 65535 := by simp [badNumber]

theorem outsideReset_of_running {s : State} (h : s.inReset = false) (f : State → State) : outsideReset f s = f s := by
  simp [outsideReset, h]

section Asked
variable (s : State) (h : Hdr) (code : Byte) (st : Status) (d : ReplyData)

@[simp] theorem asked_heads : (asked s h).heads = s.heads := rfl
@[simp] theorem asked_terms : (asked s h).terms = s.terms := rfl
@[simp] theorem asked_segs : (asked s h).segs = s.segs := rfl
@[simp] theorem asked_loops : (asked s h).loops = s.loops := rfl
@[simp] theorem asked_cov : (asked s h).cov = s.cov := rfl
@[simp] theorem asked_reef : (asked s h).reef = s.reef := rfl
@[simp] theorem asked_exp : (asked s h).exp = s.exp := rfl
@[simp] theorem asked_trunk : (asked s h).trunk = s.trunk := rfl
@[simp] theorem asked_part : (asked s h).part = s.part := rfl
@[simp] theorem asked_uptime : (asked s h).uptime = s.uptime := rfl
@[simp] theorem asked_node : (asked s h).node = s.node := rfl
@[simp] theorem asked_inReset : (asked s h).inReset = s.inReset := rfl
@[simp] theorem asked_ho : (asked s h).ho = s.ho := rfl
@[simp] theorem asked_params : (asked s h).mgmt.params = s.mgmt.params := rfl
@[simp] theorem asked_mask : (asked s h).mgmt.mask = s.mgmt.mask := rfl
@[simp] theorem asked_summary : (asked s h).mgmt.summary = s.mgmt.summary := rfl
@[simp] theorem asked_head (k : HeadIx) : (asked s h).head k = s.head k := rfl
@[simp] theorem asked_loop (k : HeadIx) : (asked s h).loop k = s.loop k := rfl
@[simp] theorem asked_term (i : SlotIx) : (asked s h).term i = s.term i := rfl
@[simp] theorem asked_reefer (i : ReeferIx) : (asked s h).reefer i = s.reefer i := rfl

@[simp] theorem told_heads : (told s h code st d).heads = s.heads := by unfold told; split <;> rfl
@[simp] theorem told_terms : (told s h code st d).terms = s.terms := by unfold told; split <;> rfl
@[simp] theorem told_segs : (told s h code st d).segs = s.segs := by unfold told; split <;> rfl
@[simp] theorem told_loops : (told s h code st d).loops = s.loops := by unfold told; split <;> rfl
@[simp] theorem told_cov : (told s h code st d).cov = s.cov := by unfold told; split <;> rfl
@[simp] theorem told_reef : (told s h code st d).reef = s.reef := by unfold told; split <;> rfl
@[simp] theorem told_exp : (told s h code st d).exp = s.exp := by unfold told; split <;> rfl
@[simp] theorem told_mgmt : (told s h code st d).mgmt = s.mgmt := by unfold told; split <;> rfl
@[simp] theorem told_part : (told s h code st d).part = s.part := by unfold told; split <;> rfl
@[simp] theorem told_uptime : (told s h code st d).uptime = s.uptime := by unfold told; split <;> rfl
@[simp] theorem told_node : (told s h code st d).node = s.node := by unfold told; split <;> rfl
@[simp] theorem told_inReset : (told s h code st d).inReset = s.inReset := by unfold told; split <;> rfl

end Asked

end Sys2Proof.Machine
end

