-- ==== Sys2Proof/Tests/Slice0.lean ====
section
/-! SUPPORT. The model's own tests: ill-formed commands, frames written out byte by byte, one-step results from the manual's worked sequences, and a witness of the hypotheses of each statement. -/

set_option Elab.async false

namespace Sys2Proof.Tests
open Sys2Proof Sys2Proof.Machine Sys2Proof.Safety

/-! ## Ill-formed commands, one for each check of WellFormed -/

theorem test_illformed_payload_over_1400 : WellFormed (.uplinkUser 0 ⟨0, 0, 1, 0, List.replicate 1401 0⟩) = false := by
  decide +kernel

theorem test_wellformed_payload_1400 : WellFormed (.downlinkCrane ⟨0, 0, 1, 0, List.replicate 1400 0⟩) = true := by
  decide +kernel

theorem test_illformed_meas_without_entries : WellFormed (.meas 0 1 5 []) = false := by decide

theorem test_illformed_meas_five_entries : WellFormed (.meas 0 1 5 (List.replicate 5 ⟨0, 9⟩)) = false := by decide

theorem test_illformed_batch_short : WellFormed (.batch 0 1 [3, 0, 0]) = false := by decide

theorem test_illformed_batch_long : WellFormed (.batch 0 1 (List.replicate 361 0)) = false := by decide +kernel

theorem test_illformed_head_kind : WellFormed (.ulWrongKind 0 .mgmt) = false := by decide

theorem test_illformed_trunk_kind : WellFormed (.trunkWrongKind .crane) = false := by decide

theorem test_illformed_bad_request_code : WellFormed (.badRequest ⟨0, 0⟩ 25) = false := by decide

theorem test_illformed_other_node : WellFormed (.otherNode 255) = false := by decide

/-! ## Frames written out from chapter 11, and the command each stands for -/

/-- Table 11-1, 11-3: MEAS of terminal 4101 (10 05 hex), segment 20, one entry: head 3, quality −2 (FF FE). -/
theorem test_meas_frame :
    headFrameCommand 3 true [3, 0, 0, 1, 0x10, 0x05, 0, 0, 0, 5, 20, 1, 3, 0xFF, 0xFE] =
      .meas 3 4101 20 [⟨3, 0xFFFE⟩] := by decide +kernel

/-- Table 11-4: HEADSTAT, noise rise 61, flag 7, head uptime 00 01 00 02. -/
theorem test_headstat_frame :
    headFrameCommand 6 true [5, 0, 0, 1, 0, 0, 0, 0, 0, 6, 61, 0x80, 0, 1, 0, 2] = .headstat 6 61 0x80 0x00010002 := by
  decide +kernel

/-- Table 11-1: a CRANE frame with sequence 901 (03 85 hex), two payload bytes and two bytes of padding. -/
theorem test_crane_frame :
    headFrameCommand 4 true [1, 0, 0, 1, 0x10, 0x05, 0x03, 0x85, 0, 2, 0xAA, 0xBB, 0, 0] =
      .uplinkCrane 4 ⟨0, 0, 4101, 901, [0xAA, 0xBB]⟩ := by decide +kernel

theorem test_user_frame :
    trunkFrameCommand 0 true [2, 1, 7, 1, 0x0C, 0xE4, 0, 0, 0, 1, 0x55] = .downlinkUser ⟨1, 7, 3300, 0, [0x55]⟩ := by
  decide +kernel

theorem test_batch_frame :
    headFrameCommand 0 true [4, 0, 0, 1, 0x03, 0x34, 0, 0, 0, 4, 0x83, 0, 0, 9] = .batch 0 820 [0x83, 0, 0, 9] := by
  decide +kernel

theorem test_echo_frame :
    headFrameCommand 1 true ([6, 0, 0, 1, 0, 0, 0, 0, 0, 16] ++ List.replicate 16 7) = .echo 1 (Vector.replicate 16 7) := by
  decide +kernel

/-- R168 checks 1, 3, 5 and 7: a failed frame check, a header version of 2, a HEADSTAT of 5 bytes, an entry count of 5. -/
theorem test_damaged_frames :
    headFrameCommand 2 false [5, 0, 0, 1, 0, 0, 0, 0, 0, 6, 1, 0, 0, 0, 0, 1] = .rxDamaged 2 ∧
    headFrameCommand 2 true [5, 0, 0, 2, 0, 0, 0, 0, 0, 6, 1, 0, 0, 0, 0, 1] = .rxDamaged 2 ∧
    headFrameCommand 2 true [5, 0, 0, 1, 0, 0, 0, 0, 0, 5, 1, 0, 0, 0, 0] = .rxDamaged 2 ∧
    headFrameCommand 2 true [3, 0, 0, 1, 0, 1, 0, 0, 0, 5, 20, 5, 3, 0, 9] = .rxDamaged 2 := by decide +kernel

/-- R44, R50: a REPLY from a head, a MGMT frame from a head, a MEAS frame on the trunk. -/
theorem test_frames_of_a_wrong_kind :
    headFrameCommand 2 true [9, 0, 0, 1, 0, 0, 0, 0, 0, 4, 1, 2, 3, 0] = .ulWrongKind 2 .reply ∧
    headFrameCommand 2 true [8, 0, 0, 1, 0, 0, 0, 0, 0, 4, 0, 1, 2, 0] = .mgmtOnHead 2 ∧
    trunkFrameCommand 0 true [3, 0, 0, 1, 0, 1, 0, 0, 0, 5, 20, 1, 3, 0, 9] = .trunkWrongKind .meas := by decide +kernel

/-- Table 11-8: TERM_LOAD (code 7) tag 9 at node 5: slot 3, number 4101, class 1; the same frame at node 6 is another's. -/
theorem test_term_load_frame :
    trunkFrameCommand 5 true [8, 0, 0, 1, 0, 0, 0, 0, 0, 8, 5, 7, 9, 0, 3, 0x10, 0x05, 1] =
      .termLoad ⟨5, 9⟩ (some ⟨3, 4101, some .crane⟩) ∧
    trunkFrameCommand 6 true [8, 0, 0, 1, 0, 0, 0, 0, 0, 8, 5, 7, 9, 0, 3, 0x10, 0x05, 1] = .otherNode 5 := by
  decide +kernel

/-- Table 11-8: SET_PARAM (code 5) of parameter 20, flush interval, to 1000 (03 E8 hex), by broadcast. -/
theorem test_set_param_frame :
    trunkFrameCommand 5 true [8, 0, 0, 1, 0, 0, 0, 0, 0, 9, 255, 5, 1, 0, 20, 0, 0, 0x03, 0xE8] =
      .setParam ⟨255, 1⟩ (some ⟨some .flushInterval, 1000⟩) := by decide +kernel

/-- Table 11-8: REEFER_PURGE (code 21): state 4 SILENT, minimum age 3600 (0E 10 hex). -/
theorem test_reefer_purge_frame :
    trunkFrameCommand 0 true [8, 0, 0, 1, 0, 0, 0, 0, 0, 9, 0, 21, 8, 0, 4, 0, 0, 0x0E, 0x10] =
      .reeferPurge ⟨0, 8⟩ (some ⟨some .silent, 3600⟩) := by decide +kernel

/-- R170: one byte short of the last parameter, and a class code outside its table; R155: code 26 names no request. -/
theorem test_request_parameters :
    trunkFrameCommand 0 true [8, 0, 0, 1, 0, 0, 0, 0, 0, 7, 0, 7, 9, 0, 3, 0x10, 0x05] = .termLoad ⟨0, 9⟩ none ∧
    trunkFrameCommand 0 true [8, 0, 0, 1, 0, 0, 0, 0, 0, 8, 0, 7, 9, 0, 3, 0x10, 0x05, 5] =
      .termLoad ⟨0, 9⟩ (some ⟨3, 4101, none⟩) ∧
    trunkFrameCommand 0 true [8, 0, 0, 1, 0, 0, 0, 0, 0, 4, 0, 26, 9, 0] = .badRequest ⟨0, 9⟩ 26 := by decide +kernel

/-- No row of the opcode table has bits (log 16). -/
theorem test_no_row_has_bits : decodeTableWord 8 1 = none ∧ State.reset.withFetchWord 8 1 = State.reset := by
  exact ⟨rfl, rfl⟩

/-- Table 11-5, R169: HANDOVER_ORDER(4101, head 4) as it goes to a head. -/
theorem test_order_bytes :
    (HeadFrame.ctl (.order 4101 4)).bytes = [7, 0, 0, 1, 0, 0, 0, 0, 0, 4, 2, 0x10, 0x05, 4] := by decide +kernel

/-- Table 11-9: COVERAGE_THIN (kind 14) at 600 s, subject 4, detail 40 high and 110 low. -/
theorem test_notice_bytes :
    (TrunkFrame.notice ⟨.coverageThin, 600, 4, halves 110 40⟩).bytes =
      [10, 0, 0, 1, 0, 0, 0, 0, 0, 12, 14, 0, 0, 0, 0x02, 0x58, 0, 0, 0, 4, 40, 110] := by decide +kernel

/-- 11.5: the reply to IDENT of node 5 in STANDBY after 2 s, tag 7. -/
theorem test_ident_reply_bytes :
    (TrunkFrame.reply ⟨1, 7, .done, .ident 5 false 2⟩).bytes =
      [9, 0, 0, 1, 0, 0, 0, 0, 0, 15, 1, 7, 1, 0, 0x5A, 0x1E, 0x43, 0x12, 2, 5, 1, 0, 0, 0, 2] := by decide +kernel


/-! ## Small states and one step -/

/-- The state a command leaves. -/
def after (c : Instr) (s : State) : State :=
  match exec c s with
  | .next t => t
  | _ => s

/-- A request of the part's own node. -/
def own : Hdr := ⟨0, 7⟩

/-- A broadcast request. -/
def toAll : Hdr := ⟨255, 7⟩

/-- An UP head with a window. -/
def upHead (first last : Nat) : Head :=
  { Head.hardReset true with
    record := { HeadRecord.hardReset with enabled := true, winFirst := first, winLast := last }
    link := .up 13000 }

/-- An entry with no frame heard. -/
def entry (n : TermNo) (p : ClassPart) (ho : Handover) : Term :=
  { number := n, part := p, ho, probe := 0, holdoff := 0, stray := 0, segment := none, lsq := none }

/-- A crane part whose window is not valid. -/
def quietCrane (l : CraneLink) : ClassPart := .crane ⟨l, false, 0, 0⟩

/-- RUNNING at 10,000 ms, heads 3, 4 and 5 UP, the trunk link up; head 4 FIRM. -/
def bare : State :=
  { State.reset with
    part := .running, uptime := 10000
    heads := put (put (put State.reset.heads 3 (upHead 12 20)) 4 (upHead 18 26)) 5 (upHead 20 27)
    trunk := Trunk.hardReset true
    loops := put State.reset.loops 4 { LoopState.hardReset with status := .firm }
    cov := { State.reset.cov with deadline := some 20000 } }

/-- The state with an entry in a slot. -/
def withTerm (i : SlotIx) (t : Term) (s : State) : State := { s with terms := put s.terms i (some t) }

/-- Crane 4101 in slot 3, gateway 820 in slot 7, vehicle 3300 in slot 9, as in the worked sequences. -/
def live : State :=
  withTerm 3 (entry 4101 (quietCrane .unheard) (.settled 3))
    (withTerm 7 (entry 820 (.gateway .unheard 0) (.settled 3)) (withTerm 9 (entry 3300 .vehicle (.settled 5)) bare))

/-- The state with a head changed. -/
def withHead (k : HeadIx) (f : Head → Head) (s : State) : State := { s with heads := put s.heads k (f (s.head k)) }

/-- The state with a loop changed. -/
def withLoop (k : HeadIx) (f : LoopState → LoopState) (s : State) : State := { s with loops := put s.loops k (f (s.loop k)) }

/-- Reefer 500231 ACTIVE at index 14 under gateway 820, setpoint −180 (8.11). -/
def cold : Reefer :=
  { newReefer 500231 0 0 with
    gateway := some 7, setpoint := some (-180), supply := some (-176), state := .active, expTime := some 4200000
    expSupply := some (-176), expSetpoint := some (-180), expAlarm := some 0, lastHeard := 9000, silence := some 909000 }

/-- The state with a reefer at index 14. -/
def withReefer (r : Reefer) (s : State) : State :=
  { s with reef := { s.reef with table := put s.reef.table 14 (some r) } }

/-- Live with reefer 500231 under its gateway. -/
def reefers : State :=
  withReefer cold (withTerm 7 (entry 820 (.gateway (.reporting 9000 (some 129000)) 1) (.settled 3)) live)

/-- Eight replies. -/
def fullReplies (s : State) : State :=
  { s with trunk := { s.trunk with replyQ := List.replicate 8 ⟨1, 0, .done, .empty⟩ } }

/-- A loop test pattern, and its complement. -/
def pat : Vector Byte 16 := Vector.replicate 16 0x3C

/-- A CRANE or USER frame of a terminal. -/
def frame (n : TermNo) (q : BitVec 16) : BerthFrame := ⟨0, 9, n, q, [0xAA]⟩

/-- Crane 4101 in BICAST from head 3 to head 4, head 3's crane queue full (3.8). -/
def bicasting : State :=
  withHead 3 (fun d => { d with craneQ := List.replicate 16 (frame 4101 1) })
    (withTerm 3 (entry 4101 (quietCrane (.live 10300)) (.bicast 3 4 10400)) live)

/-- The code, tag, status and data of the last reply. -/
def lastReply (s : State) : Option Reply := s.trunk.replyQ.getLast?

/-- The kinds, subjects and details of the waiting notices. -/
def notices (s : State) : List (NoticeKind × Nat × Nat) :=
  s.trunk.noticeQ.map fun n => (n.kind, n.subject.toNat, n.detail.toNat)

/-! ## Management (chapter 10) -/

theorem test_ident : lastReply (after (.ident own) live) = some ⟨1, 7, .done, .ident 0 true 10⟩ := by decide +kernel

theorem test_ident_by_broadcast_gives_no_reply :
    (after (.ident toAll) live).trunk.replyQ = [] ∧ (after (.ident toAll) live).mgmt.cnt.broadcasts = 1 := by
  decide +kernel

/-- R57: eight replies wait. -/
theorem test_request_overrun :
    (after (.stop own) (fullReplies live)).part = .running ∧
    (after (.stop own) (fullReplies live)).trunk.cnt.requestOverrun = 1 := by decide +kernel

theorem test_other_node_is_counted :
    (after (.otherNode 9) live).mgmt.cnt.otherNode = 1 ∧ (after (.stop ⟨9, 1⟩) live).part = .running := by decide +kernel

theorem test_bad_request : lastReply (after (.badRequest own 26) live) = some ⟨26, 7, .badRequest, .empty⟩ := by
  decide +kernel

theorem test_start :
    (after (.start own) State.reset).part = .running ∧ (after (.start own) State.reset).cov.deadline = some 10000 := by
  decide +kernel

theorem test_stop :
    (after (.stop own) live).part = .standby ∧ (after (.stop own) live).cov.deadline = none ∧
    ((after (.stop own) live).term 3).map Term.ho = some .orphan := by decide +kernel

theorem test_soft_reset_keeps_entries_and_empties_queues :
    (after (.softReset own) (fullReplies live)).part = .running ∧
    ((after (.softReset toAll) (fullReplies live)).trunk.replyQ = [] ∧
      ((after (.softReset toAll) (fullReplies live)).term 9).map Term.number = some 3300) := by decide +kernel

/-- Table 10-3: hold-off ranges over 0 to 15; 16 is clamped, and the parameter takes 15. -/
theorem test_set_param_clamps :
    (after (.setParam own (some ⟨some .holdoff, 16⟩)) live).mgmt.params.holdoff = 15 ∧
    lastReply (after (.setParam own (some ⟨some .holdoff, 16⟩)) live) = some ⟨5, 7, .clamped, .empty⟩ := by decide +kernel

/-- Table 10-3: the loop divider is 1, 2, 4 or 8; a yes or no is 1 or 2. -/
theorem test_set_param_refuses :
    lastReply (after (.setParam own (some ⟨some .loopDivider, 3⟩)) live) = some ⟨5, 7, .badParam, .empty⟩ ∧
    lastReply (after (.setParam own (some ⟨some .autoLearn, 3⟩)) live) = some ⟨5, 7, .badParam, .empty⟩ := by decide +kernel

theorem test_get_param :
    lastReply (after (.getParam own (some (some .craneWatchdog))) live) = some ⟨6, 7, .done, .param 300⟩ ∧
    lastReply (after (.getParam own none) live) = some ⟨6, 7, .badParam, .empty⟩ := by decide +kernel

theorem test_notice_mask :
    (after (.noticeMask own (some 0x1FFEFF)) live).mgmt.mask = 0x1FFEFF ∧
    lastReply (after (.noticeMask own (some 0x200000)) live) = some ⟨24, 7, .badParam, .empty⟩ := by decide +kernel

/-- 10.8, steps 1 to 5: HEAD_ALARM masked, 27 notices held. -/
def crowded : State :=
  { live with
    mgmt := { live.mgmt with mask := 0x1FFEFF }
    trunk := { live.trunk with noticeQ := List.replicate 27 ⟨.headUp, 0, 0, 0⟩ } }

/-- 10.8: after HEAD_ALARM, REEFER_ALARM, REEFER_SILENT and CRANE_LINK_LOST. -/
def crowdedAfter : State :=
  raise .craneLinkLost 4101 3 (raise .reeferSilent 500240 820 (raise .reeferAlarm 500231 5 (raise .headAlarm 2 0 crowded)))

theorem test_masked_and_dropped_notices :
    crowdedAfter.trunk.noticeQ.length = 29 ∧ crowdedAfter.mgmt.cnt.noticesRaised = 4 ∧
    crowdedAfter.mgmt.cnt.noticesMasked = 1 ∧ crowdedAfter.trunk.cnt.noticeDrop = 1 := by decide +kernel

/-- 10.8, step 5: HEAD_ALARM (bit 8), REEFER_ALARM (16), REEFER_SILENT (18) and CRANE_LINK_LOST (0) are reported. -/
theorem test_notice_summary :
    lastReply (after (.noticeSummary own) crowdedAfter) = some ⟨25, 7, .done, .summary 0x50101⟩ ∧
    (after (.noticeSummary own) crowdedAfter).mgmt.summary = 0 := by decide +kernel

theorem test_counters_read_clears_after_reading :
    lastReply (after (.countersRead own (some ⟨some .management, some true⟩)) live) =
      some ⟨23, 7, .done, .counters [1, 0, 0, 0, 0]⟩ ∧
    (after (.countersRead own (some ⟨some .management, some true⟩)) live).mgmt.cnt.requests = 0 := by decide +kernel

/-- R161: assertion, what is taken in between, and release with straps 5. -/
theorem test_hard_reset :
    (after (.start own) (after .hardReset live)).inReset = true ∧ (after (.start own) (after .hardReset live)).mgmt.cnt.requests = 0 ∧
    (after (.resetRelease 5) (after .hardReset live)).node = 5 ∧
    (after (.resetRelease 5) (after .hardReset live)).part = .standby := by decide +kernel

theorem test_reset_release :
    (after (.resetRelease 63) (after .hardReset live)).uptime = 0 ∧
    ((after (.resetRelease 63) (after .hardReset live)).head 3).ethUp = true := by decide +kernel

/-! ## Terminals and segments (chapter 1) -/

theorem test_term_load :
    (after (.termLoad own (some ⟨0, 65534, some .gateway⟩)) live).term 0 = some (entry 65534 (.gateway .unheard 0) .orphan) := by
  decide +kernel

theorem test_term_load_refusals :
    lastReply (after (.termLoad own (some ⟨3, 1, some .crane⟩)) live) = some ⟨7, 7, .occupied, .empty⟩ ∧
    lastReply (after (.termLoad own (some ⟨4, 3300, some .crane⟩)) live) = some ⟨7, 7, .duplicate, .empty⟩ ∧
    lastReply (after (.termLoad own (some ⟨4, 65535, some .crane⟩)) live) = some ⟨7, 7, .badParam, .empty⟩ := by
  decide +kernel

/-- 1.6, step 1 and step 4: the crane's count follows it from segment 20 to segment 21. 1.6, step 5: segment
52 makes the gateway's segment absent and is counted. -/
theorem test_segment_counts :
    ((look (after (.meas 3 4101 20 [⟨3, 60⟩]) live).segs 20).cranes = 1 ∧
     (look (after (.meas 3 4101 21 [⟨3, 60⟩]) (after (.meas 3 4101 20 [⟨3, 60⟩]) live)).segs 20).cranes = 0 ∧
     (look (after (.meas 3 4101 21 [⟨3, 60⟩]) (after (.meas 3 4101 20 [⟨3, 60⟩]) live)).segs 21).cranes = 1) ∧
    (((after (.meas 3 820 52 [⟨3, 60⟩]) (after (.meas 3 820 21 [⟨3, 60⟩]) live)).term 7).bind Term.segment = none ∧
     (after (.meas 3 820 52 [⟨3, 60⟩]) live).ho.segmentInvalid = 1) := by
  decide +kernel

/-- 1.6, step 7: the removal of the crane lowers its segment's count. -/
theorem test_term_remove :
    (after (.termRemove own (some ⟨some .number, 4101⟩)) (after (.meas 3 4101 22 [⟨3, 60⟩]) live)).term 3 = none ∧
    (look (after (.termRemove own (some ⟨some .number, 4101⟩)) (after (.meas 3 4101 22 [⟨3, 60⟩]) live)).segs 22).cranes = 0 := by
  decide +kernel

theorem test_term_read :
    lastReply (after (.termRead own (some ⟨some .slot, 9⟩)) live) =
      some ⟨9, 7, .done, .term 9 (entry 3300 .vehicle (.settled 5)) none 0 10 none⟩ ∧
    lastReply (after (.termRead own (some ⟨some .slot, 256⟩)) live) = some ⟨9, 7, .badParam, .empty⟩ := by decide +kernel

theorem test_seg_read :
    lastReply (after (.segRead own (some ⟨46, 60⟩)) live) = some ⟨17, 7, .clamped, .segs [⟨0, 0⟩, ⟨0, 0⟩]⟩ ∧
    lastReply (after (.segRead own (some ⟨48, 60⟩)) live) = some ⟨17, 7, .badParam, .empty⟩ := by decide +kernel

/-! ## Head links (chapter 2) -/

/-- HEAD_LOAD's parameters: window 20 to 62, p_min 130, initial offset 5. -/
def loadP : HeadLoadP :=
  { head := 0, enabled := some true, winFirst := 20, winLast := 62, trim := 0, baseTarget := 40, pMin := 8, pMax := 130
    initial := 5, kp := 128, ki := 32, kd := 0, slew := 8, guardLimit := 0, guardCount := 2, autoRestore := some true
    alarmMask := 0, alarmSense := 0 }

theorem test_head_load_clamps :
    ((after (.headLoad own (some loadP)) live).head 0).record.winLast = 47 ∧
    ((after (.headLoad own (some loadP)) live).head 0).record.pMax = 120 ∧
    ((after (.headLoad own (some loadP)) live).head 0).record.initial = 8 ∧
    ((after (.headLoad own (some loadP)) live).head 0).link = .offline ∧
    lastReply (after (.headLoad own (some loadP)) live) = some ⟨11, 7, .clamped, .empty⟩ := by decide +kernel

theorem test_head_load_refuses_a_backward_window :
    lastReply (after (.headLoad own (some { loadP with winFirst := 48, winLast := 46 })) live) =
      some ⟨11, 7, .badParam, .empty⟩ ∧
    lastReply (after (.headLoad own (some { loadP with winLast := 63 })) live) = some ⟨11, 7, .badParam, .empty⟩ := by
  decide +kernel

theorem test_head_read_refuses_head_12 :
    lastReply (after (.headRead own (some 12)) live) = some ⟨12, 7, .badParam, .empty⟩ ∧
    (after (.headRead own (some 11)) live).trunk.replyQ.map Reply.status = [.done] := by decide +kernel

/-- 2.10, step 1 at 10,000 ms: WARM keeps the crane and its queue; then the loop test is answered HEAD_LOST. -/
theorem test_warm_restart :
    let s := withHead 5 (fun d => { d with craneQ := [frame 3300 1], loopTest := some ⟨pat, 10050, 3, true, false⟩ }) live
    let t := after (.headRestart own (some ⟨5, some .warm⟩)) s
    (t.head 5).link = .restarting ⟨.warm, some 10020, some 12000, 70000⟩ ∧ (t.head 5).craneQ = [frame 3300 1] ∧
    (t.term 9).map Term.ho = some (.settled 5) ∧ (t.trunk.replyQ.map Reply.data) = [.empty, .loopTest .headLost] := by
  decide +kernel

theorem test_cold_restart_orphans_and_flushes :
    let s := withHead 5 (fun d => { d with craneQ := [frame 3300 1] }) live
    let t := after (.headRestart own (some ⟨5, some .cold⟩)) s
    (t.head 5).craneQ = [] ∧ (t.head 5).cnt.flushed = 1 ∧ (t.term 9).map Term.ho = some .orphan ∧
    t.restartLine 5 = true ∧ t.ho.orphanings = 1 := by decide +kernel

/-- 2.10, step 2: the pulse ends, the line returns to inactive. -/
theorem test_pulse_end :
    let s := withHead 5 (fun d => { d with link := .restarting ⟨.warm, some 10000, some 12000, 70000⟩ }) live
    ((after (.pulseEnd 5) s).head 5).link = .restarting ⟨.warm, none, some 12000, 70000⟩ := by decide +kernel

/-- 2.10, step 3: a link-down within the blanking time keeps the head RESTARTING; at its end it goes OFFLINE, cause 3. -/
theorem test_blanking :
    let s := withHead 5 (fun d => { d with link := .restarting ⟨.warm, none, some 10000, 70000⟩ }) live
    ((after (.headLinkDown 5) s).head 5).link = .restarting ⟨.warm, none, some 10000, 70000⟩ ∧
    ((after (.blankingEnd 5) (after (.headLinkDown 5) s)).head 5).link = .offline ∧
    notices (after (.blankingEnd 5) (after (.headLinkDown 5) s)) = [(.headOffline, 5, 3)] := by decide +kernel

/-- 2.10, step 6: the first HEADSTAT after the restart takes the head to UP, its deadline 3 s ahead. R29: a
reported uptime below the stored one reveals a reboot: the vehicle is orphaned, HEAD_REBOOTED raised. -/
theorem test_headstat_takes_up_and_reveals_a_reboot :
    (let s := withHead 5 (fun d => { d with link := .restarting ⟨.warm, none, none, 70000⟩, last := some ⟨0, 0, 900⟩ }) live
     ((after (.headstat 5 0 0 3) s).head 5).link = .up 13000 ∧ notices (after (.headstat 5 0 0 3) s) = [(.headUp, 5, 0)]) ∧
    (let s := withHead 5 (fun d => { d with last := some ⟨0, 0, 900⟩ }) live
     ((after (.headstat 5 0 0 899) s).term 9).map Term.ho = some .orphan ∧
     (notices (after (.headstat 5 0 0 899) s)).map Prod.fst = [.headRebooted]) := by
  decide +kernel

theorem test_restart_deadline :
    let s := withHead 5 (fun d => { d with link := .restarting ⟨.cold, none, none, 10000⟩ }) live
    ((after (.restartDeadlineExpiry 5) s).head 5).link = .offline ∧
    notices (after (.restartDeadlineExpiry 5) s) = [(.headRestartFailed, 5, 1)] := by decide +kernel

/-- R25: silence takes the head OFFLINE with cause 2, but not one millisecond early. -/
theorem test_head_silence :
    notices (after (.headSilenceExpiry 5) { live with uptime := 13000 }) = [(.headOffline, 5, 2)] ∧
    ((after (.headSilenceExpiry 5) { live with uptime := 12999 }).head 5).link = .up 13000 := by decide +kernel

/-- 5.6, head 3 goes OFFLINE: HANDOVER_FORCED, detail 4 low and 3 high. -/
theorem test_link_events :
    (((after (.headLinkUp 0) live).head 0).ethUp = true ∧
     notices (after (.headLinkDown 4) live) = [(.headOffline, 4, 1)] ∧
     (after .trunkLinkDown live).trunk.linkUp = false ∧ (after .trunkLinkUp (after .trunkLinkDown live)).trunk.linkUp = true) ∧
    (let t := after (.headLinkDown 3) bicasting
     (t.term 3).map Term.ho = some (.settled 4) ∧ (NoticeKind.handoverForced, 4101, 0x304) ∈ notices t) := by
  decide +kernel

theorem test_loop_test_placed :
    ((after (.headLooptest own (some ⟨5, pat⟩)) live).head 5).loopTest = some ⟨pat, 10050, 7, true, false⟩ ∧
    ((after (.headLooptest own (some ⟨5, pat⟩)) live).head 5).ctlQ = [.loopTest pat] ∧
    lastReply (after (.headLooptest own (some ⟨0, pat⟩)) live) = some ⟨14, 7, .wrongState, .empty⟩ := by decide +kernel

/-- R37: the echo of the complement passes; one byte off fails with 1. -/
theorem test_echo :
    let s := after (.headLooptest own (some ⟨5, pat⟩)) live
    lastReply (after (.echo 5 (Vector.replicate 16 0xC3)) s) = some ⟨14, 7, .done, .loopTest .pass⟩ ∧
    lastReply (after (.echo 5 ((Vector.replicate 16 0xC3).set 15 0)) s) = some ⟨14, 7, .done, .loopTest (.fail 1)⟩ := by
  decide +kernel

theorem test_loop_test_deadline :
    let s := after (.headLooptest own (some ⟨5, pat⟩)) live
    lastReply (after (.loopTestDeadlineExpiry 5) { s with uptime := 10050 }) = some ⟨14, 7, .done, .loopTest .noEcho⟩ := by
  decide +kernel

/-- R40: control before crane before normal. -/
theorem test_egress_order :
    let s := withHead 5 (fun d => { d with ctlQ := [.setpoint 9], craneQ := [frame 1 1], normalQ := [frame 2 2] }) live
    ((after (.headEgressService 5) s).head 5).tx = some (.ctl (.setpoint 9)) ∧
    ((after (.headEgressService 5) (after (.headEgressService 5) s)).head 5).tx = some (.crane (frame 1 1)) := by
  decide +kernel

/-- Frames that go no further. -/
theorem test_discards :
    ((after (.rxDamaged 5) live).head 5).cnt.rxDamaged = 1 ∧ (after (.mgmtOnHead 5) live).cls.mgmtOnHead = 1 ∧
    (after (.ulWrongKind 5 .notice) live).cls.ulWrongKind = 1 ∧ ((after (.mgmtOnHead 0) live).head 0).cnt.rxNotUp = 1 ∧
    (after (.trunkWrongKind .meas) live).trunk.cnt.wrongKind = 1 ∧ (after .trunkDamaged live).trunk.cnt.damaged = 1 := by
  decide +kernel

/-! ## Steering and the trunk (chapter 3) -/

/-- 3.8, step 1: the copy to head 3 is refused and opens its episode, the copy to head 4 is admitted. -/
theorem test_bicast_copies :
    let t := after (.downlinkCrane (frame 4101 5)) bicasting
    (t.head 3).cnt.craneDrop = 1 ∧ (t.head 4).craneQ = [frame 4101 5] ∧ notices t = [(.queueOverrun, 3, 1)] := by
  decide +kernel

/-- 3.8, step 2: a USER frame goes to the serving head alone. -/
theorem test_downlink_user :
    let t := after (.downlinkUser (frame 4101 5)) bicasting
    (t.head 3).normalQ = [frame 4101 5] ∧ (t.head 4).normalQ = [] := by decide +kernel

/-- 3.8, step 6: a forced frame to head 7, which is not UP. -/
theorem test_forced_head_not_up :
    (after (.downlinkCrane ⟨1, 7, 4101, 5, []⟩) bicasting).cls.forcedNotUp = 1 ∧
    (after (.downlinkCrane ⟨1, 12, 4101, 5, []⟩) bicasting).cls.forcedBadHead = 1 := by decide +kernel

/-- 3.9, grant 10: the crane uplink goes first, and the export turn count stays. -/
theorem test_grant_crane_first :
    let s := { live with trunk := { live.trunk with craneQ := [frame 1 1], normalQ := [frame 2 2], exportTurn := 8 } }
    (after .trunkGrant s).trunk.tx = some (.crane (frame 1 1)) ∧ (after .trunkGrant s).trunk.exportTurn = 8 := by
  decide +kernel

/-- 3.9, grant 18 and grant 19: the sixteenth normal frame, then the export. -/
theorem test_export_turn :
    let s := { reefers with
      exp := { reefers.exp with list := [⟨14, 9000, .change⟩], deadline := some 10000, request := true }
      trunk := { live.trunk with normalQ := [frame 2 2, frame 2 3], exportTurn := 15 } }
    (after .trunkGrant s).trunk.tx = some (.user (frame 2 2)) ∧ (after .trunkGrant s).trunk.exportTurn = 16 ∧
    (after .trunkGrant (after .trunkGrant s)).trunk.exportTurn = 0 ∧
    (after .trunkGrant (after .trunkGrant s)).trunk.cnt.txExport = 1 ∧
    (after .trunkGrant (after .trunkGrant s)).exp.list = [] := by decide +kernel

/-! ## Crane links (chapter 4) -/

/-- The distances whose history flags are set. -/
def marks (c : CranePart) : List Nat := (List.range 32).filterMap fun k => if c.history.getLsbD k then some (k + 1) else none

/-- 4.7: the window after the first frames of the worked sequence. -/
def window (n : Nat) : CranePart :=
  windowAfter ⟨.unheard, false, 0, 0⟩ ([65530, 65533, 65531, 65531, 2, 65532, 65500, 40, 8, 7].take n)

/-- 4.7, steps 4, 7 and 10: duplicate, stale, stale. -/
theorem test_window_decisions :
    (windowStep (window 3) 65531).1 = .duplicate ∧ (windowStep (window 6) 65500).1 = .stale ∧
    (windowStep (window 9) 7).1 = .stale ∧ (windowStep (window 8) 8).1 = .accept := by decide +kernel

/-- 4.7: the flags after steps 5, 6, 8 and 9. -/
theorem test_window_history :
    marks (window 5) = [5, 7, 8] ∧ marks (window 6) = [5, 6, 7, 8] ∧ marks (window 8) = [] ∧ marks (window 9) = [32] ∧
    (window 10).highest = 40 := by decide +kernel

/-- 4.8, step 1: the crane's first frame makes it LIVE and its window valid, and is forwarded with head index
3. 4.8, step 4: a frame through head 4 restores the crane and is a stray. -/
theorem test_uplink_crane :
    (let t := after (.uplinkCrane 3 (frame 4101 500)) live
     (t.term 3).map Term.part = some (.crane ⟨.live 10300, true, 500, 0⟩) ∧
     t.trunk.craneQ = [{ frame 4101 500 with headIndex := 3 }] ∧ t.crane.accepted = 1) ∧
    (let s := withTerm 3 (entry 4101 (quietCrane .lost) (.settled 3)) live
     let t := after (.uplinkCrane 4 (frame 4101 17)) s
     (t.term 3).map Term.stray = some 1 ∧ notices t = [(.craneLinkRestored, 4101, 4)]) := by
  decide +kernel

/-- 4.8, step 3: the watchdog expires. -/
theorem test_crane_watchdog :
    let s := withTerm 3 (entry 4101 (.crane ⟨.live 10000, true, 500, 0⟩) (.settled 3)) live
    let t := after (.craneWatchdogExpiry 3) s
    (t.term 3).map Term.part = some (quietCrane .lost) ∧ notices t = [(.craneLinkLost, 4101, 3)] ∧
    (t.head 3).ctlQ = [.linkLost 4101] ∧ t.crane.losses = 1 := by
  decide +kernel

/-- 4.8, step 5, and the refusals of R73. -/
theorem test_crane_dormant :
    ((after (.craneDormant own (some ⟨3, some true⟩)) live).term 3).map Term.part = some (quietCrane .dormant) ∧
    lastReply (after (.craneDormant own (some ⟨9, some true⟩)) live) = some ⟨10, 7, .wrongState, .empty⟩ ∧
    lastReply (after (.craneDormant own (some ⟨256, some true⟩)) live) = some ⟨10, 7, .badParam, .empty⟩ := by decide +kernel

theorem test_uplink_user :
    (after (.uplinkUser 5 (frame 3300 0)) live).trunk.normalQ = [{ frame 3300 0 with headIndex := 5 }] ∧
    (after (.uplinkUser 5 (frame 77 0)) live).cls.unlistedUser = 1 := by decide +kernel

/-! ## Handover (chapter 5) -/

/-- 5.6, step 4 of the crane: PROBING toward head 4, count 2, last serving quality 55, at 10,600 ms. -/
def probing : State :=
  withTerm 3 { entry 4101 (quietCrane .unheard) (.probing 3 4) with probe := 2, lsq := some 55, segment := some 19 }
    { live with uptime := 10600 }

/-- 5.6, steps 1 and 2: 70 does not reach 60 + 12, 74 reaches 58 + 12. 5.6, step 4: a stray report of 80
completes the probe and starts the bicast to 11,000. 5.7, step 4: the vehicle is moved at once to head 7, with
the listed quality. -/
theorem test_reports_start_handovers :
    (((after (.meas 3 4101 19 [⟨3, 60⟩, ⟨4, 70⟩]) live).term 3).map Term.ho = some (.settled 3) ∧
     ((after (.meas 3 4101 19 [⟨3, 58⟩, ⟨4, 74⟩]) live).term 3).map Term.ho = some (.probing 3 4) ∧
     ((after (.meas 3 4101 19 [⟨3, 58⟩, ⟨4, 74⟩]) live).term 3).bind Term.lsq = some 58) ∧
    (let t := after (.meas 4 4101 19 [⟨4, 80⟩]) probing
     (t.term 3).map Term.ho = some (.bicast 3 4 11000) ∧ (t.term 3).map Term.stray = some 1 ∧
     (t.head 3).ctlQ = [.order 4101 4] ∧ t.ho.bicastStarts = 1) ∧
    (let s := withHead 6 (fun _ => upHead 26 33) (withHead 7 (fun _ => upHead 28 35) live)
     let t := after (.meas 6 3300 30 [⟨6, 55⟩, ⟨7, 60⟩]) s
     (t.term 9).map Term.ho = some (.settled 7) ∧ (t.term 9).bind Term.lsq = some 60 ∧ (t.head 5).ctlQ = [.order 3300 7] ∧
     t.ho.hardHandovers = 1) := by
  decide +kernel

/-- 5.6, step 7: a frame through the candidate completes the bicast, hold-off 4. -/
theorem test_bicast_arrival :
    let t := after (.uplinkCrane 4 (frame 4101 901)) bicasting
    (t.term 3).map Term.ho = some (.settled 4) ∧ (t.term 3).map Term.holdoff = some 4 ∧ t.ho.bicastSuccess = 1 := by
  decide +kernel

/-- 5.6, the deadline's expiry: HANDOVER_FAILED, detail 4 low and 1 high. -/
theorem test_bicast_deadline :
    let t := after (.bicastDeadlineExpiry 3) { bicasting with uptime := 10400 }
    (t.term 3).map Term.ho = some (.settled 3) ∧ notices t = [(.handoverFailed, 4101, 0x104)] := by decide +kernel

/-! ## Coverage and the loop (chapters 6 and 7) -/

/-- 6.10: the cells of heads 4 and 5, gateways 820 and 830 SILENT, crane 4101 in segment 14, period index 39. -/
def beforeClose : State :=
  let cell := fun (a : Option Int) (n : Nat) (x : Int) (c : CellState) => ({ sum := x, count := n, avg := a, state := c } : Cell)
  let row4 := put (put (put (put (put (Vector.replicate 48 Cell.cleared) 10 (cell (some 80) 12 984 .fresh))
    11 (cell (some 69) 9 639 .fresh)) 12 (cell (some 49) 5 300 .fresh)) 13 (cell (some 60) 9 522 .fresh))
    14 (cell (some 65) 8 528 .fresh)
  let row5 := put (Vector.replicate 48 Cell.cleared) 15 (cell none 5 300 .none)
  let s := withHead 4 (fun _ => upHead 10 14) (withHead 5 (fun _ => upHead 15 19) bare)
  withTerm 3 { entry 4101 (quietCrane .unheard) (.settled 4) with segment := some 14 }
    (withTerm 7 { entry 820 (.gateway (.silent 0) 0) (.settled 4) with segment := some 14 }
      (withTerm 8 { entry 830 (.gateway (.silent 0) 0) (.settled 5) with segment := some 15 }
        { s with
          uptime := 600000
          segs := put (put s.segs 14 ⟨1, 1⟩) 15 ⟨0, 1⟩
          cov := { s.cov with cells := put (put s.cov.cells 4 row4) 5 row5, deadline := some 600000, index := 39 } }))

/-- 6.10: the averages 82, 71, 58 and 66, the SPARSE 49, and −2 after the penalty. -/
theorem test_coverage_close_averages :
    let t := after .coveragePeriodExpiry beforeClose
    (t.cell 4 10).avg = some 82 ∧ (t.cell 4 11).avg = some 71 ∧ t.cell 4 12 = ⟨0, 0, some 49, .sparse⟩ ∧
    (t.cell 4 13).avg = some 58 ∧ (t.cell 4 14).avg = some 66 ∧ t.cell 5 15 = ⟨0, 0, some (-2), .fresh⟩ := by
  decide +kernel

/-- 6.10: index 40, deadline 610,000, one penalty applied and one suppressed. -/
theorem test_coverage_close_counts :
    let t := after .coveragePeriodExpiry beforeClose
    t.cov.index = 40 ∧ t.cov.deadline = some 610000 ∧ t.cov.cnt = ⟨0, 0, 0, 1, 1, 1⟩ := by decide +kernel

/-- A head 4 of worked cases A and B: p 8 to 110, gains 192, 64 and 32, slew 8; two cranes served; four FRESH cells. -/
def loopCase (u : Nat) (e1 e2 : Int) (st : CovStatus) (a b c d : Int) : State :=
  let cell := fun (x : Int) => ({ sum := 0, count := 0, avg := some x, state := .fresh } : Cell)
  let row := put (put (put (put (Vector.replicate 48 Cell.cleared) 10 (cell a)) 11 (cell b)) 13 (cell c)) 14 (cell d)
  let s := withHead 4 (fun _ =>
    let x := upHead 10 14
    { x with record := { x.record with pMin := 8, pMax := 110, kp := 192, ki := 64, kd := 32 } }) bare
  withTerm 3 (entry 4101 (quietCrane .unheard) (.settled 4)) (withTerm 5 (entry 4107 (quietCrane .lost) (.settled 4))
    { s with
      loops := put s.loops 4 { LoopState.hardReset with u := u, e1 := e1, e2 := e2, status := st, lastSet := some u }
      cov := { s.cov with cells := put s.cov.cells 4 row } })

/-- 7.4: u 70 becomes 65, history 6 and 14, FIRM, SETPOINT(65). -/
theorem test_loop_case_a :
    let t := loopUpdate 4 (loopCase 70 14 20 .firm 82 71 58 66)
    t.loop 4 = { LoopState.hardReset with u := 65, e1 := 6, e2 := 14, status := .firm, lastSet := some 65
                                          cnt := ⟨1, 0, 0, 0, 0⟩ } ∧
    (t.head 4).ctlQ = [.setpoint 65] := by decide +kernel

/-- 7.5: u 108 is driven to the ceiling of 110, THIN, COVERAGE_THIN with 110 low and 40 high. -/
theorem test_loop_case_b :
    let t := loopUpdate 4 (loopCase 108 30 25 .weak 51 38 24 30)
    (t.loop 4).u = 110 ∧ (t.loop 4).status = .thin ∧ (t.loop 4).cnt = ⟨1, 0, 1, 1, 0⟩ ∧
    notices t = [(.coverageThin, 4, 40 * 256 + 110)] := by decide +kernel

/-- Table 7-3. -/
theorem test_rounding :
    roundDiv 640 256 = 3 ∧ roundDiv (-640) 256 = -3 ∧ roundDiv 128 256 = 1 ∧ roundDiv (-128) 256 = -1 ∧
    roundDiv 127 256 = 0 ∧ roundDiv (-1216) 256 = -5 ∧ roundDiv 4640 256 = 18 := by decide

/-- 7.10: head 5 with guard limit 40, count 2, p 10 to 100, u 72. -/
def guardCase (guarded : Bool) (run : Nat) : State :=
  withLoop 5 (fun l => { l with u := if guarded then 75 else 72, run := run, guarded := guarded, status := if guarded then .guarded else .firm })
    (withHead 5 (fun d => { d with record := { d.record with guardLimit := 40, pMin := 10, pMax := 100 } }) live)

/-- 7.10, step 3: the second noisy report takes the head to its floor. 7.10, step 8: the second quiet report
releases it with the u of the updates. -/
theorem test_guard_enters_and_leaves :
    (let t := after (.headstat 5 61 0 9) (guardCase false 1)
     (t.loop 5).guarded = true ∧ (t.loop 5).u = 72 ∧ (t.loop 5).lastSet = some 10 ∧ notices t = [(.guardEntered, 5, 61)]) ∧
    (let t := after (.headstat 5 18 0 9) (guardCase true 1)
     (t.loop 5).guarded = false ∧ (t.loop 5).status = .unmeasured ∧ (t.head 5).ctlQ = [.setpoint 75] ∧
     notices t = [(.guardLeft, 5, 1)]) := by
  decide +kernel

/-- 7.10, the release by request: cause 2; a CLEAR head is refused. -/
theorem test_guard_release :
    notices (after (.guardRelease own (some 5)) (guardCase true 0)) = [(.guardLeft, 5, 2)] ∧
    lastReply (after (.guardRelease own (some 5)) (guardCase false 0)) = some ⟨15, 7, .wrongState, .empty⟩ := by
  decide +kernel

theorem test_cell_read :
    lastReply (after (.cellRead own (some ⟨4, 12, 12⟩)) beforeClose) =
      some ⟨16, 7, .done, .cells 4 10 14 39 (some 0) [⟨300, 5, some 49, .fresh⟩]⟩ ∧
    lastReply (after (.cellRead own (some ⟨4, 13, 12⟩)) beforeClose) = some ⟨16, 7, .badParam, .empty⟩ := by decide +kernel

/-! ## Reefers and their export (chapters 8 and 9) -/

/-- A final TEMP record of reefer 500231 (07 A2 07 hex) with a supply and a return of −999. -/
def temp (hi lo : Byte) : List Byte := [0x82, 0x07, 0xA2, 0x07, hi, lo, 0xFC, 0x19]

/-- 8.11, step 6: the third record out of band (−145 is FF 6F) raises the alarm. 8.11, step 13: the third
record in band (−152 is FF 68) clears it. -/
theorem test_reefer_alarm_and_clear :
    (let t := after (.batch 3 820 (temp 0xFF 0x6F)) (withReefer { cold with outRun := 2 } reefers)
     (t.reefer 14).map Reefer.state = some .alarm ∧ notices t = [(.reeferAlarm, 500231, 65536 - 145)] ∧
     (t.reefer 14).bind Reefer.silence = some 910000 ∧ t.reef.cnt.reeferAlarms = 1) ∧
    (let t := after (.batch 3 820 (temp 0xFF 0x68)) (withReefer { cold with state := .alarm, inRun := 2 } reefers)
     (t.reefer 14).map Reefer.state = some .active ∧ notices t = [(.reeferClear, 500231, 65536 - 152)]) := by
  decide +kernel

/-- 8.4: a SILENT gateway's batch resumes it; 9.8, step 1: −172 is 4 from −176 and is not offered. 9.8, step
5: −170 (FF 56) is 6 from −176: the entry joins, and the flush deadline is armed. 8.6: an unknown tag is
learned at the lowest free index with class 0. -/
theorem test_gateway_resumes_offers_and_learns :
    (let s := withTerm 7 (entry 820 (.gateway (.silent 4000) 1) (.settled 3)) (withReefer cold reefers)
     let t := after (.batch 3 820 (temp 0xFF 0x54)) s
     notices t = [(.gatewayResumed, 820, 6)] ∧ t.exp.list = [] ∧
     (t.term 7).map Term.part = some (.gateway (.reporting 10000 (some 130000)) 1)) ∧
    (let t := after (.batch 3 820 (temp 0xFF 0x56)) reefers
     t.exp.list = [⟨14, 10000, .change⟩] ∧ t.exp.deadline = some 11000 ∧ t.exp.request = false) ∧
    (let t := after (.batch 3 820 [0x83, 0, 0, 9]) reefers
     (t.reefer 0).map Reefer.tag = some 9 ∧ (t.reefer 0).map Reefer.state = some .active ∧ t.reef.cnt.autoLearned = 1 ∧
     (t.term 7).map Term.part = some (.gateway (.reporting 10000 (some 130000)) 2)) := by
  decide +kernel

theorem test_gateway_silence :
    let t := after (.gatewaySilenceExpiry 7) { reefers with uptime := 129000 }
    (t.term 7).map Term.part = some (.gateway (.silent 9000) 1) ∧ notices t = [(.gatewaySilent, 820, 1)] := by decide +kernel

/-- R137: with a crane in the segment the timeout is four times as long. -/
theorem test_reefer_silence :
    let s := { reefers with uptime := 909000 }
    let shaded := { withReefer { cold with segment := some 21 } s with segs := put s.segs 21 ⟨1, 0⟩ }
    ((after (.reeferSilenceExpiry 14) s).reefer 14).map Reefer.state = some .silent ∧
    notices (after (.reeferSilenceExpiry 14) s) = [(.reeferSilent, 500231, 820)] ∧
    ((after (.reeferSilenceExpiry 14) shaded).reefer 14).bind Reefer.silence = some 3609000 := by decide +kernel

theorem test_reefer_register :
    lastReply (after (.reeferRegister own (some ⟨1048575, 3⟩)) reefers) = some ⟨18, 7, .done, .reeferIndex 0⟩ ∧
    lastReply (after (.reeferRegister own (some ⟨1048576, 3⟩)) reefers) = some ⟨18, 7, .badParam, .empty⟩ ∧
    lastReply (after (.reeferRegister own (some ⟨500231, 0⟩)) reefers) = some ⟨18, 7, .duplicate, .empty⟩ := by decide +kernel

theorem test_reefer_remove :
    (after (.reeferRemove own (some ⟨some .tag, 500231⟩)) reefers).reefer 14 = none ∧
    ((after (.reeferRemove own (some ⟨some .index, 14⟩)) reefers).term 7).map Term.part =
      some (.gateway (.reporting 9000 (some 129000)) 0) := by decide +kernel

theorem test_reefer_read :
    lastReply (after (.reeferRead own (some ⟨some .index, 14⟩)) reefers) =
      some ⟨20, 7, .done, .reefer cold 14 (some 820) (some 899000)⟩ ∧
    lastReply (after (.reeferRead own (some ⟨some .index, 2047⟩)) reefers) = some ⟨20, 7, .notFound, .empty⟩ := by
  decide +kernel

theorem test_reefer_purge_starts_a_walk :
    (after (.reeferPurge own (some ⟨some .silent, 3600⟩)) reefers).reef.purge = some ⟨.silent, 3600, 0, 0, 7, true⟩ ∧
    lastReply (after (.reeferPurge own (some ⟨some .active, 3600⟩)) reefers) = some ⟨21, 7, .badParam, .empty⟩ := by
  decide +kernel

/-- 8.12: a SILENT entry of age 5,000 s is removed; the last visit answers with the removed count. -/
theorem test_purge_visits :
    let s := { withReefer { cold with state := .silent, lastHeard := 15000000, silence := none } reefers with uptime := 20000000 }
    let at14 := { s with reef := { s.reef with purge := some ⟨.silent, 3600, 14, 0, 8, true⟩ } }
    let at2047 := { s with reef := { s.reef with purge := some ⟨.silent, 3600, 2047, 1, 8, true⟩ } }
    (after .purgeWalkVisit at14).reefer 14 = none ∧
    (after .purgeWalkVisit at14).reef.purge = some ⟨.silent, 3600, 15, 1, 8, true⟩ ∧
    lastReply (after .purgeWalkVisit at2047) = some ⟨21, 8, .done, .purged 1⟩ := by decide +kernel

theorem test_band_load :
    look (after (.bandLoad own (some ⟨3, 0, 201, 9, 51, 241⟩)) reefers).reef.bands 3 = ⟨1, 200, 8, 50, 240⟩ ∧
    lastReply (after (.bandLoad own (some ⟨4, 1, 1, 1, 1, 1⟩)) reefers) = some ⟨22, 7, .badParam, .empty⟩ := by
  decide +kernel

/-- 9.8, step 6: one item has waited the flush interval. -/
theorem test_flush_deadline :
    let s := { reefers with
      uptime := 10000, exp := { reefers.exp with list := [⟨14, 9000, .change⟩], deadline := some 10000 } }
    (after .flushDeadlineExpiry s).exp.request = true ∧
    (after .flushDeadlineExpiry { s with uptime := 9999 }).exp.request = false := by decide +kernel

/-- R55, R163: the step takes the front command and leaves the rest. -/
theorem test_step_takes_the_front :
    step { live with pending := [.trunkDamaged, .ident own] } =
      .next { after .trunkDamaged live with pending := [.ident own] } := by rfl

/-- The events due at 13,000 ms: the silence of head 3; the reefer's silence deadline is far off. -/
theorem test_due_events :
    headEvents { live with uptime := 13000 } 3 = [.headSilenceExpiry 3] ∧ headEvents live 3 = [] ∧
    reeferEvents { reefers with uptime := 13000 } 14 = [] ∧
    reeferEvents { reefers with uptime := 909000 } 14 = [.reeferSilenceExpiry 14] := by decide +kernel

/-! ## Witnesses: for each statement, states and operands that meet the hypotheses of each of its clauses -/

/-- StepTakesTheFrontCommand. -/
theorem test_witness_front_command : ({ live with pending := [.trunkGrant, .ident own] } : State).pending = [.trunkGrant, .ident own] := rfl

/-- IdlePartLetsDueDeadlinesExpire: in reset. -/
theorem test_witness_idle_in_reset :
    ({ State.reset with inReset := true } : State).pending = [] ∧ ({ State.reset with inReset := true } : State).inReset = true :=
  ⟨rfl, rfl⟩

/-- IdlePartLetsDueDeadlinesExpire: nothing due. -/
theorem test_witness_idle_nothing_due :
    State.reset.pending = [] ∧ State.reset.inReset = false ∧ dueEvents State.reset = [] := by
  have hh : ∀ h, headEvents State.reset h = [] := fun h => by simp [headEvents, State.head, State.reset, Head.hardReset]
  have ht : ∀ i, termEvents State.reset i = [] := fun i => by simp [termEvents, State.term, State.reset]
  have hr : ∀ i, reeferEvents State.reset i = [] := fun i => by
    simp [reeferEvents, State.reefer, State.reset, Reefers.hardReset]
  refine ⟨rfl, rfl, ?_⟩
  simp only [dueEvents, List.flatMap_eq_nil_iff.mpr fun h _ => hh h, List.flatMap_eq_nil_iff.mpr fun i _ => ht i,
    List.flatMap_eq_nil_iff.mpr fun i _ => hr i]
  rfl

/-- IdlePartLetsDueDeadlinesExpire: the silence of head 3 is due at 13,000 ms exactly. -/
theorem test_witness_idle_due :
    let s : State := { live with uptime := 13000 }
    s.pending = [] ∧ s.inReset = false ∧ dueEvents s ≠ [] := by
  refine ⟨rfl, rfl, ?_⟩
  have : Instr.headSilenceExpiry 3 ∈ dueEvents { live with uptime := 13000 } := by
    have h : Instr.headSilenceExpiry 3 ∈ headEvents { live with uptime := 13000 } 3 := by decide +kernel
    simp only [dueEvents, List.mem_append, List.mem_flatMap]
    exact .inl (.inl (.inl (.inl (.inl ⟨3, List.mem_finRange 3, h⟩))))
  exact List.ne_nil_of_mem this

/-- HardResetHoldsThePartUntilRelease: a command in reset, the release, and a command that is no release. -/
theorem test_witness_hard_reset :
    ((after .hardReset live).inReset = true ∧ Instr.trunkGrant ≠ .hardReset ∧ (∀ b, Instr.trunkGrant ≠ .resetRelease b) ∧
      (∀ h, Instr.trunkGrant ≠ .headLinkUp h ∧ Instr.trunkGrant ≠ .headLinkDown h) ∧ Instr.trunkGrant ≠ .trunkLinkUp ∧
      Instr.trunkGrant ≠ .trunkLinkDown) ∧
    ∃ t, (∀ b, Instr.softReset own ≠ .resetRelease b) ∧ exec (.softReset own) live = .next t := by
  refine ⟨⟨rfl, ?_, ?_, ?_, ?_, ?_⟩, _, ?_, rfl⟩ <;> intros <;> (try constructor) <;> nofun

/-- RequestsNotTakenAreCountedAlone: another node's request, its frame, and an own request with eight replies waiting. -/
theorem test_witness_requests_not_taken :
    (IsRequest (.getParam ⟨1, 7⟩ none) ⟨1, 7⟩ 6 ∧ WellFormed (.getParam ⟨1, 7⟩ none) = true ∧ live.inReset = false ∧
      (1 : Byte) ≠ 255 ∧ (1 : Byte) ≠ live.node.setWidth 8) ∧
    (254 : Byte) ≠ 255 ∧ (254 : Byte) ≠ live.node.setWidth 8 ∧
    IsRequest (.ident own) own 1 ∧ WellFormed (.ident own) = true ∧ own.dest = (fullReplies live).node.setWidth 8 ∧
      8 ≤ (fullReplies live).trunk.replyQ.length := by
  refine ⟨⟨⟨_, rfl⟩, rfl, rfl, by decide, by decide +kernel⟩, by decide, by decide +kernel, ⟨_, rfl⟩, rfl, ?_, ?_⟩ <;> decide +kernel

/-- RefusedRequestsChangeNothing: a HEAD_READ of head 12 with seven replies waiting, and code 26. -/
theorem test_witness_refused :
    let s := { live with trunk := { live.trunk with replyQ := List.replicate 7 ⟨1, 0, .done, .empty⟩ } }
    (IsRequest (.headRead own (some 12)) own 12 ∧ WellFormed (.headRead own (some 12)) = true ∧ OwnRequest s own ∧
      ∃ t r, exec (.headRead own (some 12)) s = .next t ∧ t.trunk.replyQ = s.trunk.replyQ ++ [r] ∧ r.status ≠ .done ∧
        r.status ≠ .clamped) ∧
    Accepted s own ∧ WellFormed (.badRequest own 26) = true := by
  refine ⟨⟨⟨_, rfl⟩, rfl, by decide +kernel, _, ⟨12, 7, .badParam, .empty⟩, rfl, ?_, by decide, by decide⟩, ?_, by decide⟩ <;>
    decide +kernel

/-- The requests' statements (Ident, Parameters, Mask, Counters, Start and Stop, SoftReset, TermLoad and Remove,
CraneDormant, Reads, HeadLoad, HeadRestart, LoopTests, GuardRelease, ReeferRequests): accepted requests, in each part state. -/
theorem test_witness_accepted :
    (Accepted live own ∧ live.part = .running) ∧ (Accepted live toAll ∧ live.part = .running) ∧
    (Accepted State.reset own ∧ State.reset.part = .standby) ∧ Accepted State.reset toAll := by decide +kernel

/-- IdentReportsSixItems, ParametersAreCheckedClampedAndRead, CountersAreReadAndCleared: their further hypotheses. -/
theorem test_witness_items :
    (4294967295 < 4294967296) ∧ (paramRange .autoLearn = .yesNo → (2 = 1 ∨ 2 = 2)) ∧
    (paramRange .holdoff = .yesNo → (15 = 1 ∨ 15 = 2)) ∧ ParamId.holdoff ≠ .autoLearn ∧ Group.loop ≠ .head := by
  refine ⟨by decide, fun _ => .inr rfl, fun h => (by cases h), by decide, by decide⟩

/-- TrunkQueuesAdmitByTheTable: the last reserved place, and a full queue. -/
theorem test_notice_reserve :
    let s := fun (n : Nat) => { live with trunk := { live.trunk with noticeQ := List.replicate n ⟨.headUp, 0, 0, 0⟩ } }
    (raise .queueOverrun 12 2 (s 31)).trunk.noticeQ.length = 32 ∧ (raise .queueOverrun 12 2 (s 32)).trunk.cnt.noticeDrop = 1 ∧
    (raise .headUp 1 0 (s 27)).trunk.noticeQ.length = 28 ∧ (raise .headUp 1 0 (s 28)).trunk.cnt.noticeDrop = 1 := by
  decide +kernel

/-- TerminalsAreFoundBySlotOrNumber, TermLoadAndRemoveChangeOneSlot: a listed number, the first and the last slot. -/
theorem test_witness_terminals :
    live.lookup 4101 = some (3, entry 4101 (quietCrane .unheard) (.settled 3)) ∧
    pickTerm (some ⟨some .slot, 9⟩) live = .entry 9 (entry 3300 .vehicle (.settled 5)) ∧
    pickTerm (some ⟨some .slot, 255⟩) live = .refused .notFound ∧ pickTerm (some ⟨some .slot, 256⟩) live = .refused .badParam ∧
    pickTerm (some ⟨some .number, 65534⟩) live = .refused .notFound := by decide +kernel

/-- HeadLoadReplacesTheRecord: a head that stays enabled or is disabled by its record, a DISABLED one, and another. -/
theorem test_witness_head_load :
    (live.head 5).link ≠ .disabled ∧ (live.head 5).record.enabled = true ∧ (HeadRecord.hardReset).enabled = false ∧
    (live.head 0).link = .disabled ∧ (4 : HeadIx) ≠ 5 := by decide +kernel

/-- R21, R26: a record that disables head 5 flushes its queues and orphans the vehicle it serves. -/
theorem test_head_load_disables :
    let s := withHead 5 (fun d => { d with craneQ := [frame 3300 1], alarms := 1 }) live
    let t := after (.headLoad own (some { loadP with head := 5, enabled := some false })) s
    ((t.head 5).link, (t.head 5).craneQ, (t.head 5).cnt.flushed, (t.head 5).alarms) = (.disabled, [], 1, 0) ∧
    (t.term 9).map Term.ho = some .orphan := by decide +kernel

/-- HeadstatActsByLinkState: DISABLED, a running pulse, OFFLINE, an ended pulse and UP. -/
theorem test_witness_headstat :
    live.inReset = false ∧ (live.head 0).link = .disabled ∧
    (let s := withHead 5 (fun d => { d with link := .restarting ⟨.warm, some 10001, some 12000, 70000⟩ }) live
     ∃ r d, (s.head 5).link = .restarting r ∧ r.pulseEnd = some d) ∧
    (let s := withHead 5 (fun d => { d with link := .offline }) live
     (s.head 5).link = .offline ∧ s.part = .running ∧ (s.head 5).ctlQ.length < 8) ∧
    (let s := withHead 5 (fun d => { d with link := .restarting ⟨.warm, none, some 12000, 70000⟩ }) live
     ∃ r, (s.head 5).link = .restarting r ∧ r.pulseEnd = none ∧ r.kind = .warm ∧ (s.loop 5).guarded = false) ∧
    (live.head 5).link = .up 13000 :=
  ⟨rfl, by decide +kernel, ⟨⟨.warm, some 10001, some 12000, 70000⟩, 10001, by decide +kernel, rfl⟩, by decide +kernel,
    ⟨⟨.warm, none, some 12000, 70000⟩, by decide +kernel, rfl, rfl, by decide +kernel⟩, by decide +kernel⟩

/-- LoopTestsStartAndEnd: a test in flight. -/
theorem test_witness_loop_test :
    ((after (.headLooptest own (some ⟨5, pat⟩)) live).head 5).loopTest = some ⟨pat, 10050, 7, true, false⟩ ∧
    (after (.headLooptest own (some ⟨5, pat⟩)) live).inReset = false := by decide +kernel

/-- EgressServiceSendsInStrictOrder: a head that is served, and one whose link is down. -/
theorem test_witness_egress :
    (live.inReset = false ∧ (live.head 5).ethUp = true ∧ (live.head 5).link = .up 13000) ∧
    ((withHead 5 (fun d => { d with ethUp := false }) live).head 5).ethUp = false := by decide +kernel

/-- LoopUpdateFollowsTheNineStages: a head with and without a FRESH cell, and both halves of the rounding. -/
theorem test_witness_loop_update :
    edgeQuality (look (loopCase 70 14 20 .firm 82 71 58 66).cov.cells 4) = some 58 ∧
    ((loopCase 70 14 20 .firm 82 71 58 66).head 4).record.pMin ≤ ((loopCase 70 14 20 .firm 82 71 58 66).head 4).record.pMax ∧
    edgeQuality (look live.cov.cells 4) = none ∧
    (0 < 256 ∧ 2 * ((-128 : Int) - 256 * roundDiv (-128) 256) = 256) ∧ 2 * ((128 : Int) - 256 * roundDiv 128 256) = -256 := by
  decide +kernel

/-- SamplesEnterLiveCells: a listed entry; a penalised gateway, a suppressed one, and entries that are not judged. -/
theorem test_witness_samples :
    (∃ e, beforeClose.term 3 = some e) ∧
    (∃ e b n k g, beforeClose.term 8 = some e ∧ e.part = .gateway (.silent b) n ∧ e.ho.serving = some k ∧ e.segment = some g ∧
      (beforeClose.head k).record.winFirst ≤ g.val ∧ g.val ≤ (beforeClose.head k).record.winLast ∧
      (look beforeClose.segs g).cranes = 0) ∧
    (∃ e b n k g, beforeClose.term 7 = some e ∧ e.part = .gateway (.silent b) n ∧ e.ho.serving = some k ∧ e.segment = some g ∧
      (beforeClose.head k).record.winFirst ≤ g.val ∧ g.val ≤ (beforeClose.head k).record.winLast ∧
      0 < (look beforeClose.segs g).cranes) ∧
    (∀ e, live.term 7 = some e → (∀ b n, e.part ≠ .gateway (.silent b) n) ∨ e.ho.serving = none ∨ e.segment = none ∨
      ∃ k g, e.ho.serving = some k ∧ e.segment = some g ∧
        ¬ ((live.head k).record.winFirst ≤ g.val ∧ g.val ≤ (live.head k).record.winLast)) := by
  refine ⟨⟨{ entry 4101 (quietCrane .unheard) (.settled 4) with segment := some 14 }, by decide +kernel⟩,
    ⟨{ entry 830 (.gateway (.silent 0) 0) (.settled 5) with segment := some 15 }, 0, 0, 5, 15, ?_⟩,
    ⟨{ entry 820 (.gateway (.silent 0) 0) (.settled 4) with segment := some 14 }, 0, 0, 4, 14, ?_⟩, ?_⟩
  · decide +kernel
  · decide +kernel
  · have h : live.term 7 = some (entry 820 (.gateway .unheard 0) (.settled 3)) := by decide +kernel
    intro e he
    rw [h] at he
    cases he
    exact .inl nofun

/-- CoverageCloseAveragesAndAdvances, LinkEventsAndHeadExpiriesActByState, TrunkGrantsFollowTheOrder,
DownlinkFramesAreSteeredByTheFirstCase, DeadlinesOfEntriesExpire: out of reset, where everything is taken. -/
theorem test_witness_out_of_reset : live.inReset = false ∧ beforeClose.inReset = false ∧ bicasting.inReset = false := by
  decide +kernel

/-- DuplicateWindowFollowsTheTable: the shortest and the longest distances. -/
theorem test_witness_distances :
    (1 ≤ 1 ∧ 1 ≤ 1 ∧ 1 ≤ 32 ∧ shiftHistory 1 0 = 1#32) ∧ (1 ≤ 32 ∧ 32 ≤ 32 ∧ shiftHistory 32 1 = 0x80000000#32) ∧
    shiftHistory 33 1 = 0#32 := by decide +kernel

/-- NoSequenceNumberPassesTwiceWithinTheWindow: 40 after 8 (4.7), with 65532 and 2 between; 8 lies 32 below 40. -/
theorem test_witness_no_second_pass :
    let c : CranePart := ⟨.unheard, true, 5, 0⟩
    (windowStep (windowAfter c [6]) 8).1 = .accept ∧
    ∀ n, ((windowAfter c ([6] ++ 8 :: ([2, 40] : List (BitVec 16)).take n)).highest - 8).toNat ≤ 32 := by
  refine ⟨by decide +kernel, fun n => ?_⟩
  match n with
  | 0 => decide +kernel
  | 1 => decide +kernel
  | n + 2 => rw [List.take_of_length_le (by simp)]; decide +kernel

/-- UplinkFramesAreJudgedAndForwarded, CraneWatchdogFollowsActivity: the crane, heard through an UP head. -/
theorem test_witness_uplink :
    live.inReset = false ∧ live.isUp 3 = true ∧ live.part = .running ∧ (4101 : TermNo) ≠ 0 ∧ (4101 : TermNo) ≠ 65535 ∧
    live.lookup 4101 = some (3, entry 4101 (.crane ⟨.unheard, false, 0, 0⟩) (.settled 3)) ∧
    live.term 3 = some (entry 4101 (.crane ⟨.unheard, false, 0, 0⟩) (.settled 3)) := by decide +kernel

/-- DiscardedFramesAreCountedAlone: each place where a frame stops. -/
theorem test_witness_discarded :
    live.isUp 0 = false ∧ (live.isUp 3 = true ∧ live.part = .running) ∧
    (({ live with part := .standby } : State).isUp 3 = true) ∧
    (∀ i e, bare.term i = some e → e.number ≠ 65534) ∧
    live.lookup 3300 = some (9, entry 3300 .vehicle (.settled 5)) ∧ (entry 3300 .vehicle (.settled 5)).isCrane = false := by
  refine ⟨by decide +kernel, by decide +kernel, by decide +kernel, ?_, by decide +kernel, by decide +kernel⟩
  intro i e h
  simp [State.term, bare, State.reset] at h

/-- MeasurementReportsActInOrder, FramesAnchorStrayReanchorOrArrive, ReportsStartHandoversByTriggers: listed entries. -/
theorem test_witness_reports :
    live.lookup 820 = some (7, entry 820 (.gateway .unheard 0) (.settled 3)) ∧
    bicasting.term 3 = some (entry 4101 (quietCrane (.live 10300)) (.bicast 3 4 10400)) ∧
    (probing.term 3).map Term.ho = some (.probing 3 4) ∧ (live.term 3).map Term.ho = some (.settled 3) ∧
    (([(3, 58), (4, 74)] : List (HeadIx × Int)).map Prod.fst).Nodup ∧
    qualityTarget live true 3 (some 62) [(3, 58), (4, 74)] = some 4 ∧ qualityTarget live true 3 (some 63) [(3, 58), (4, 74)] = none ∧
    positionTarget live true 3 26 [(3, 58)] = some 4 ∧ positionTarget live true 3 28 [(3, 58)] = none := by decide +kernel

/-- DeparturesFollowTable53: the crane in BICAST, whose serving head or candidate departs. -/
theorem test_witness_departures :
    (bicasting.term 3).map Term.ho = some (.bicast 3 4 10400) ∧ (3 : HeadIx) ≠ 4 := by decide +kernel

/-- DeadlinesOfEntriesExpire: a gateway's and a reefer's deadline one millisecond before it is due. -/
theorem test_witness_not_due :
    (∀ e b d n, reefers.term 7 = some e → e.part = .gateway (.reporting b (some d)) n →
      ({ reefers with uptime := 128999 } : State).uptime < d) ∧
    (∀ r d, reefers.reefer 14 = some r → (r.state = .active ∨ r.state = .alarm) → r.silence = some d →
      ({ reefers with uptime := 908999 } : State).uptime < d) := by
  have h : reefers.term 7 = some (entry 820 (.gateway (.reporting 9000 (some 129000)) 1) (.settled 3)) := by decide +kernel
  have k : reefers.reefer 14 = some cold := by decide +kernel
  constructor
  · intro e b d n he hp
    rw [h] at he
    cases he
    cases hp
    decide
  · intro r d hr _ hd
    rw [k] at hr
    cases hr
    cases hd
    decide

/-- DeadlinesOfEntriesExpire: each deadline at the moment it is due, and the bicast's one millisecond before. -/
theorem test_witness_deadlines :
    (∃ e, bicasting.term 3 = some e ∧ e.ho = .bicast 3 4 10400 ∧ 10400 ≤ ({ bicasting with uptime := 10400 } : State).uptime) ∧
    (∀ e v c d, bicasting.term 3 = some e → e.ho = .bicast v c d → ({ bicasting with uptime := 10399 } : State).uptime < d) ∧
    (∃ e, reefers.term 7 = some e ∧ e.part = .gateway (.reporting 9000 (some 129000)) 1) ∧
    (reefers.reefer 14 = some cold ∧ cold.silence = some 909000 ∧ (cold.state = .active ∨ cold.state = .alarm)) ∧
    (live.exp.expired = false ∧ ∀ d, live.exp.deadline = some d → live.uptime < d) ∧
    (let x := { live.exp with list := [⟨14, 9000, .change⟩], deadline := some 10000 }
     x.expired = false ∧ x.deadline = some 10000 ∧ 10000 ≤ live.uptime) := by
  have h : bicasting.term 3 = some (entry 4101 (quietCrane (.live 10300)) (.bicast 3 4 10400)) := by decide +kernel
  refine ⟨⟨_, h, rfl, by decide⟩, ?_, ⟨entry 820 (.gateway (.reporting 9000 (some 129000)) 1) (.settled 3), by decide +kernel⟩,
    by decide +kernel, ⟨rfl, nofun⟩, by decide +kernel⟩
  intro e v c d he ho
  rw [h] at he
  cases he
  cases ho
  decide

/-- BatchesAreReadRecordByRecord: gateway 820's batch, and a final BEAT record with nothing after it. -/
theorem test_witness_batches :
    (live.inReset = false ∧ live.isUp 3 = true ∧ live.part = .running ∧ (820 : TermNo) ≠ 0 ∧ (820 : TermNo) ≠ 65535 ∧
      live.lookup 820 = some (7, entry 820 (.gateway .unheard 0) (.settled 3))) ∧
    readRecord [0x83, 0x0F, 0xFF, 0xFF] = .record ⟨1048575, .beat⟩ true [] := by decide +kernel

/-- R128, Table 11-6: each kind with its last byte, and one byte short; the kinds beside 1 to 4, with nothing after them. -/
theorem test_record_boundaries :
    readRecord [1, 0, 0, 9, 0xFF, 0x4C, 0xFF, 0x50, 0, 1, 2, 7] = .record ⟨9, .full (-180) (-176) 1 false true 7⟩ false [] ∧
    readRecord [1, 0, 0, 9, 0xFF, 0x4C, 0xFF, 0x50, 0, 1, 2] = .partialRecord ∧
    readRecord [0x82, 0, 0, 9, 0xFF, 0x4C, 0, 1] = .record ⟨9, .temp (-180) 1⟩ true [] ∧
    readRecord [0x82, 0, 0, 9, 0xFF, 0x4C, 0] = .partialRecord ∧
    readRecord [3, 0, 0, 9, 5] = .record ⟨9, .beat⟩ false [5] ∧ readRecord [3, 0, 0] = .partialRecord ∧
    readRecord [4, 0, 0, 9] = .record ⟨9, .off⟩ false [] ∧ readRecord [4, 0, 0] = .partialRecord ∧
    readRecord [0] = .unknown ∧ readRecord [5] = .unknown ∧ readRecord [0x80] = .unknown ∧ readRecord [] = .partialRecord := by
  decide +kernel

/-- RecordsFindOrLearnTheirEntry: a bad tag, a held tag, an unknown tag dropped, a full table, and the lowest free index. -/
theorem test_witness_records :
    (1048575 < (⟨1048576, .beat⟩ : BatchRecord).tag) ∧
    (∃ i r, reefers.reefer i = some r ∧ r.tag = 500231) ∧
    (¬ (∃ i r, live.reefer i = some r ∧ r.tag = 1048575) ∧ live.mgmt.params.autoLearn = true ∧
      live.reefer 0 = none ∧ ∀ j : ReeferIx, j < 0 → live.reefer j ≠ none) ∧
    ({ live with mgmt := { live.mgmt with params := { live.mgmt.params with autoLearn := false } } } : State).mgmt.params.autoLearn = false ∧
    (let full := { live with reef := { live.reef with table := Vector.replicate 2048 (some cold) } }
     (¬ ∃ i r, full.reefer i = some r ∧ r.tag = 1) ∧ ∀ i, full.reefer i ≠ none) := by
  have hl : ∀ i, live.reefer i = none := fun i => by
    show look (Vector.replicate 2048 none) i = none
    simp
  have hf : ∀ i : ReeferIx, look (Vector.replicate 2048 (some cold)) i = some cold := fun i => by simp
  refine ⟨by decide, ⟨14, cold, by decide +kernel, rfl⟩, ⟨?_, rfl, hl 0, ?_⟩, rfl, ?_, fun i => ?_⟩
  · rintro ⟨i, r, h, -⟩
    simp [hl i] at h
  · intro j hj
    exact absurd hj (Fin.not_lt_zero j)
  · rintro ⟨i, r, h, ht⟩
    have e : some cold = some r := (hf i).symm.trans h
    cases e
    revert ht
    decide
  · show look (Vector.replicate 2048 (some cold)) i ≠ none
    simp

/-- ProcessedRecordsFollowTheSixSteps: a record that is evaluated, at the band's edges and one beyond (8.11: −210 to −150). -/
theorem test_witness_evaluated :
    let y := fun (su : Int) => (cold.heard (.temp su 0)).stored (.temp su 0)
    ((y (-210)).setpoint = some (-180) ∧ (y (-210)).supply = some (-210) ∧ (y (-210)).defrost = false) ∧
    ((cold.processed Band.hardReset (.temp (-210) 0)).inRun = 1 ∧ (cold.processed Band.hardReset (.temp (-150) 0)).inRun = 1) ∧
    ((cold.processed Band.hardReset (.temp (-211) 0)).outRun = 1 ∧ (cold.processed Band.hardReset (.temp (-149) 0)).outRun = 1) ∧
    (RecordBody.beat = .beat ∧ (cold.processed Band.hardReset .beat).outRun = 0) := by decide +kernel

/-- ReeferRequestsCheckAndAct: a tag that is held. -/
theorem test_witness_find_tag : reefers.findTag 500231 = some (14, cold) := by decide +kernel

/-- PurgeVisitsJudgeOneEntry, OffersJoinOrMergeIntoTheList: entries on and off the pending list, walks absent and present. -/
theorem test_witness_purge_and_offers :
    cold.pending = false ∧ ({ cold with pending := true } : Reefer).pending = true ∧
    (reefers.inReset = false ∧ reefers.reef.purge = none ∧ reefers.part = .running) ∧
    (let r := { reefers.reef with purge := some ⟨.silent, 0, 2047, 0, 7, true⟩ }
     r.purge = some ⟨.silent, 0, 2047, 0, 7, true⟩) := by decide +kernel

/-- R151: an item removed at the front arms the deadline for the next; behind the front it leaves the deadline. -/
theorem test_removal :
    let s := { reefers with exp := { reefers.exp with
      list := [⟨14, 9500, .change⟩, ⟨20, 9600, .state⟩], deadline := some 10500, request := true } }
    ((removePending 14 s).exp.list, (removePending 14 s).exp.deadline) = ([⟨20, 9600, .state⟩], some 10600) ∧
    ((removePending 20 s).exp.list, (removePending 20 s).exp.deadline) = ([⟨14, 9500, .change⟩], some 10500) ∧
    ((removePending 14 s).exp.request = false ∧ (removePending 14 s).exp.cnt.removed = 1) := by decide +kernel

/-- OffersJoinOrMergeIntoTheList: each reason, at the deadband and the refresh interval and one below. -/
theorem test_offer_reasons :
    let r := fun (su : Int) => { cold with supply := some su, expTime := some 1000 }
    offerReason Band.hardReset .active { r (-176) with state := .unheard } 2000 = none ∧
    offerReason Band.hardReset .silent (r (-176)) 2000 = some .state ∧
    offerReason Band.hardReset .active (r (-171)) 2000 = some .change ∧
    offerReason Band.hardReset .active (r (-172)) 3601000 = some .refresh ∧
    offerReason Band.hardReset .active (r (-172)) 3600999 = none := by decide +kernel

/-- LinkFramesAreCheckedAndReadBack: a batch of one record and of 24; the longest payload. -/
theorem test_witness_link_frames :
    (1 ≤ (List.replicate 1 (snapshot cold .state live)).length ∧ (List.replicate 24 (snapshot cold .state live)).length ≤ 24) ∧
    BerthFrame.fits ⟨0, 0, 1, 0, List.replicate 1400 0⟩ = true := by decide +kernel

/-- LinkFramesAreCheckedAndReadBack: a reply of 120 counters meets its bounds; R37's result with its count. -/
theorem test_witness_reply_bounds :
    let r : Reply := ⟨23, 7, .done, .counters (List.replicate 120 0)⟩
    (∀ k a b c d cs, r.data = .cells k a b c d cs → cs.length ≤ 48) ∧ (∀ gs, r.data = .segs gs → gs.length ≤ 48) ∧
    (∀ cs, r.data = .counters cs → cs.length ≤ 120) ∧ r.payload.length = 484 ∧
    (Reply.payload ⟨14, 7, .done, .loopTest .pass⟩) = [14, 7, 1, 0, 1] := by
  refine ⟨nofun, nofun, ?_, by decide +kernel, by decide +kernel⟩
  intro cs h
  cases h
  decide

/-- DownlinkFramesAreSteeredByTheFirstCase: an UP head of a part in STANDBY. -/
theorem test_witness_standby_uplink :
    let s : State := { live with part := .standby }
    s.inReset = false ∧ s.part = .standby ∧ s.isUp 3 = true := by decide +kernel

/-- HeadFramesDecodeToTheirCommand, TrunkFramesDecodeToTheirCommand: a command with its frame, and its node. -/
theorem test_witness_frames_decode :
    (WellFormed (.headstat 6 61 0x80 0x00010002) = true ∧
      encodeHeadFrame (.headstat 6 61 0x80 0x00010002) = some (6, [5, 0, 0, 1, 0, 0, 0, 0, 0, 6, 61, 0x80, 0, 1, 0, 2])) ∧
    (WellFormed (.termLoad ⟨5, 9⟩ (some ⟨3, 4101, some .crane⟩)) = true ∧
      encodeTrunkFrame (.termLoad ⟨5, 9⟩ (some ⟨3, 4101, some .crane⟩)) =
        some [8, 0, 0, 1, 0, 0, 0, 0, 0, 8, 5, 7, 9, 0, 3, 0x10, 0x05, 1] ∧
      ((5 : Byte) = 255 ∨ (5 : Byte) = (5#6).setWidth 8)) ∧
    (WellFormed (.otherNode 6) = true ∧ (encodeTrunkFrame (.otherNode 6)).isSome = true ∧ (6 : Byte) ≠ (5#6).setWidth 8) := by
  decide +kernel

/-! ## A sound state that steps: one gateway, one reefer on the pending list -/

/-- Gateway 820 in slot 7 with one reefer, at index 14, waiting to be exported; a damaged frame comes. -/
def sound : State :=
  { withReefer { cold with pending := true } (withTerm 7 (entry 820 (.gateway (.reporting 9000 (some 129000)) 1) (.settled 3)) bare) with
    pending := [.trunkDamaged]
    exp := { State.reset.exp with list := [⟨14, 9000, .change⟩], deadline := some 10000 } }

/-- The only entry of sound. -/
theorem sound_term {i : SlotIx} {t : Term} (h : sound.term i = some t) :
    i = 7 ∧ t = entry 820 (.gateway (.reporting 9000 (some 129000)) 1) (.settled 3) := by
  have h' : look (put State.reset.terms 7 (some (entry 820 (.gateway (.reporting 9000 (some 129000)) 1) (.settled 3)))) i = some t := h
  rw [look_put] at h'
  split at h'
  · next e => cases h'; exact ⟨e, rfl⟩
  · simp [State.reset] at h'

/-- The only reefer of sound. -/
theorem sound_reefer {i : ReeferIx} {r : Reefer} (h : sound.reefer i = some r) : i = 14 ∧ r = { cold with pending := true } := by
  have h' : look (put State.reset.reef.table 14 (some { cold with pending := true })) i = some r := h
  rw [look_put] at h'
  split at h'
  · next e => cases h'; exact ⟨e, rfl⟩
  · simp [State.reset, Reefers.hardReset] at h'

theorem test_witness_steps : ∃ t, step sound = .next t := ⟨_, rfl⟩

theorem test_witness_queues_ok : QueuesOk sound := by
  have h : ∀ k : HeadIx, (sound.head k).ctlQ = [] ∧ (sound.head k).craneQ = [] ∧ (sound.head k).normalQ = [] ∧
      (sound.head k).overrun = false ∧ (sound.head k).loopTest = none := by decide +kernel
  refine ⟨fun k => ?_, ?_, ?_, ?_, ?_, ?_, ?_, ?_, ?_⟩
  · obtain ⟨h1, h2, h3, h4, h5⟩ := h k
    exact ⟨by simp [h1], by simp [h2], by simp [h3], by simp [h1], by simp [h4], by simp [h5], fun _ => ⟨h1, h2, h3⟩⟩
  all_goals decide +kernel

theorem test_witness_handovers_ok : HandoversOk sound := by
  intro i t h
  obtain ⟨rfl, rfl⟩ := sound_term h
  refine ⟨fun v hv => ?_, nofun, nofun⟩
  have : v = 3 := by simpa [entry, Handover.serving] using hv.symm
  subst this
  decide +kernel

theorem test_witness_numbers_ok : NumbersOk sound ∧ ParamsOk sound.mgmt.params := by
  refine ⟨⟨fun i t h => ?_, fun i j t u h k _ => ?_⟩, ?_⟩
  · obtain ⟨rfl, rfl⟩ := sound_term h
    decide
  · obtain ⟨rfl, -⟩ := sound_term h
    exact (sound_term k).1.symm
  · constructor <;> decide

theorem test_witness_segments_ok : SegmentsOk sound := by
  have h : ∀ g : SegIx, (look sound.segs g).cranes = countIn sound .crane g ∧
      (look sound.segs g).gateways = countIn sound .gateway g := by decide +kernel
  exact h

theorem test_witness_reefers_ok : ReefersOk sound := by
  refine ⟨fun i r h => ?_, fun i j r q h k _ => ?_, fun i r g h e => ?_, fun g t st n h e => ?_, fun i r h _ => ?_, fun i r h _ => ?_⟩
  · obtain ⟨rfl, rfl⟩ := sound_reefer h
    decide
  · obtain ⟨rfl, -⟩ := sound_reefer h
    exact (sound_reefer k).1.symm
  · obtain ⟨rfl, rfl⟩ := sound_reefer h
    have : g = 7 := by simpa [cold] using e.symm
    subst this
    exact ⟨entry 820 (.gateway (.reporting 9000 (some 129000)) 1) (.settled 3), .reporting 9000 (some 129000), 1, by decide +kernel, rfl⟩
  · obtain ⟨rfl, rfl⟩ := sound_term h
    cases e
    decide +kernel
  · obtain ⟨rfl, rfl⟩ := sound_reefer h
    decide
  · obtain ⟨rfl, rfl⟩ := sound_reefer h
    decide

theorem test_witness_pending_ok : PendingOk sound := by
  refine ⟨by decide +kernel, fun i => ⟨fun h => ?_, ?_⟩, by decide +kernel, by decide +kernel, by decide +kernel, by decide +kernel⟩
  · have : i = 14 := by simpa [sound] using h
    subst this
    exact ⟨{ cold with pending := true }, by decide +kernel, rfl⟩
  · rintro ⟨r, h, -⟩
    obtain ⟨rfl, -⟩ := sound_reefer h
    decide +kernel

theorem test_witness_loops_ok : LoopsOk sound := by
  intro k
  have a : ∀ k : HeadIx, (sound.head k).record.winFirst ≤ (sound.head k).record.winLast ∧ (sound.head k).record.winLast ≤ 47 := by
    decide +kernel
  have b : ∀ k : HeadIx, (-16 ≤ (sound.head k).record.trim ∧ (sound.head k).record.trim ≤ 15) ∧
      -40 ≤ (sound.head k).record.baseTarget ∧ (sound.head k).record.baseTarget ≤ 120 := by decide +kernel
  have c : ∀ k : HeadIx, ((sound.head k).record.pMin ≤ (sound.head k).record.pMax ∧ (sound.head k).record.pMax ≤ 120) ∧
      (sound.head k).record.pMin ≤ (sound.head k).record.initial ∧ (sound.head k).record.initial ≤ (sound.head k).record.pMax := by
    decide +kernel
  have d : ∀ k : HeadIx, ((sound.head k).record.kp ≤ 1023 ∧ (sound.head k).record.ki ≤ 1023 ∧ (sound.head k).record.kd ≤ 1023) ∧
      (1 ≤ (sound.head k).record.slew ∧ (sound.head k).record.slew ≤ 40) ∧ (sound.head k).record.guardLimit ≤ 255 ∧
      1 ≤ (sound.head k).record.guardCount ∧ (sound.head k).record.guardCount ≤ 8 := by decide +kernel
  have e : ∀ k : HeadIx, ((sound.head k).record.pMin ≤ (sound.loop k).u ∧ (sound.loop k).u ≤ (sound.head k).record.pMax) ∧
      (-255 ≤ (sound.loop k).e1 ∧ (sound.loop k).e1 ≤ 255 ∧ -255 ≤ (sound.loop k).e2 ∧ (sound.loop k).e2 ≤ 255) ∧
      (sound.loop k).status ≠ .guarded ∧ (sound.loop k).guarded = false ∧ (sound.loop k).run ≤ 8 ∧ (sound.head k).ctlQ = [] := by
    decide +kernel
  obtain ⟨e1, e2, e3, e4, e5, e6⟩ := e k
  exact ⟨⟨a k, (b k).1, (b k).2, (c k).1, (c k).2, (d k).1, (d k).2.1, (d k).2.2⟩, e1, e2, by simp [e3, e4], e5, by simp [e6],
    by simp [e4]⟩

/-- StepsKeepStandbyQuiet: an orphaned gateway in STANDBY, where START waits. -/
theorem test_witness_standby_ok :
    let s := withTerm 7 (entry 820 (.gateway (.reporting 9000 none) 0) .orphan) { State.reset with pending := [.start own] }
    s.part = .standby ∧ StandbyOk s ∧ ∃ t, step s = .next t := by
  refine ⟨rfl, fun _ => ⟨fun i t h => ?_, fun i r h => ?_, rfl, rfl, rfl, rfl, ?_⟩, _, rfl⟩
  · have h' : look (put State.reset.terms 7 (some (entry 820 (.gateway (.reporting 9000 none) 0) .orphan))) i = some t := h
    rw [look_put] at h'
    split at h'
    · cases h'
      decide
    · simp [State.reset] at h'
  · have h' : look State.reset.reef.table i = some r := h
    simp [State.reset, Reefers.hardReset] at h'
  · decide +kernel

end Sys2Proof.Tests
end

section
/-! The frame steering of 3.1 and 3.3 (R45, R51): one equation for each case of Table 3-2, and what STANDBY drops. -/

namespace Sys2Proof.Machine
open Sys2Proof

variable {s : State} {f : BerthFrame} {crane : Bool}

/-! ## Uplink data frames in STANDBY (R45) -/

/-- What the four uplink data commands of head `k` have in common: each goes through the Frame Classifier. -/
theorem exec_uplinkData_classifies {k : HeadIx} {c : Instr}
    (hc : (∃ f, c = .uplinkCrane k f) ∨ (∃ f, c = .uplinkUser k f) ∨ (∃ n g es, c = .meas k n g es) ∨
      ∃ n b, c = .batch k n b) (s : State) :
    ∃ n unlisted listed, exec c s = .next (outsideReset (fromUpHead k (classify n unlisted listed)) s) := by
  rcases hc with ⟨f, rfl⟩ | ⟨f, rfl⟩ | ⟨n, g, es, rfl⟩ | ⟨n, b, rfl⟩ <;> exact ⟨_, _, _, rfl⟩

theorem fromUpHead_of_isUp {k : HeadIx} (hk : s.isUp k = true) (g : State → State) : fromUpHead k g s = g s :=
  if_pos hk

/-- R45: whatever would be done with the frame in RUNNING, STANDBY counts it and drops it. -/
theorem classify_of_standby (hp : s.part = .standby) (n : TermNo) (unlisted : State → State)
    (listed : SlotIx → Term → State → State) :
    classify n unlisted listed s = s.modCls fun c => { c with ulStandbyDrop := inc c.ulStandbyDrop } :=
  if_pos ((State.standby_iff s).mpr hp)

/-! ## The cases of Table 3-2 -/

theorem exec_downlink (hr : s.inReset = false) (f : BerthFrame) (crane : Bool) :
    exec (if crane then .downlinkCrane f else .downlinkUser f) s = .next (steer crane f s) := by
  cases crane with
  | true => exact congrArg Host.Outcome.next (outsideReset_of_running hr (steer true f))
  | false => exact congrArg Host.Outcome.next (outsideReset_of_running hr (steer false f))

theorem steer_of_standby (hp : s.part = .standby) :
    steer crane f s = s.modCls fun c => { c with dlStandbyDrop := inc c.dlStandbyDrop } :=
  if_pos ((State.standby_iff s).mpr hp)

section Running
variable (hp : s.part ≠ .standby)
include hp

/-- Case 1: an invalid terminal number. -/
theorem steer_of_badTerminal (hb : f.terminal = 0 ∨ f.terminal = 65535) :
    steer crane f s = s.modCls fun c => { c with dlBadTerminal := inc c.dlBadTerminal } := by
  rw [steer, if_neg (mt (State.standby_iff s).mp hp), if_pos (badNumber_iff.mpr hb)]

/-- Cases 2 to 4 are a forced frame's. -/
theorem steer_of_forced (hb : ¬(f.terminal = 0 ∨ f.terminal = 65535)) (hf : f.flags.getLsbD 0 = true) :
    steer crane f s = steerForced crane f s := by
  rw [steer, if_neg (mt (State.standby_iff s).mp hp), if_neg (mt badNumber_iff.mp hb), if_pos hf]

/-- Cases 5 to 9 are those of a frame that is not forced. -/
theorem steer_of_not_forced (hb : ¬(f.terminal = 0 ∨ f.terminal = 65535)) (hf : ¬ f.flags.getLsbD 0 = true) :
    steer crane f s = steerLookup crane f s := by
  rw [steer, if_neg (mt (State.standby_iff s).mp hp), if_neg (mt badNumber_iff.mp hb), if_neg hf]

end Running

/-- Case 2: forced to an UP head. -/
theorem steerForced_of_isUp {k : HeadIx} (hx : ix? 12 f.headIndex.toNat = some k) (hk : s.isUp k = true) :
    steerForced crane f s = offerHead crane k f s := by
  rw [steerForced, hx]
  exact if_pos hk

/-- Case 3: forced to a head that is not UP. -/
theorem steerForced_of_notUp {k : HeadIx} (hx : ix? 12 f.headIndex.toNat = some k) (hk : ¬ s.isUp k = true) :
    steerForced crane f s = s.modCls fun c => { c with forcedNotUp := inc c.forcedNotUp } := by
  rw [steerForced, hx]
  exact if_neg hk

/-- Case 4: forced to a head the part does not have. -/
theorem steerForced_of_badHead (hx : ix? 12 f.headIndex.toNat = none) :
    steerForced crane f s = s.modCls fun c => { c with forcedBadHead := inc c.forcedBadHead } := by
  rw [steerForced, hx]

/-- Case 5: the terminal is not listed. -/
theorem steerLookup_of_unlisted (hl : s.lookup f.terminal = none) :
    steerLookup crane f s = s.modCls fun c => { c with dlUnknown := inc c.dlUnknown } := by
  rw [steerLookup, hl]

section Listed
variable {i : SlotIx} {t : Term} (hl : s.lookup f.terminal = some (i, t))
include hl

/-- Case 6: a CRANE frame for an entry of another class. -/
theorem steerLookup_of_mismatch (hm : crane = true ∧ t.isCrane = false) :
    steerLookup crane f s = s.modCls fun c => { c with dlClassMismatch := inc c.dlClassMismatch } := by
  rw [steerLookup, hl]
  exact if_pos (by simp [hm])

/-- Cases 7 to 9 go by the entry's handover state (`steerEntry`). -/
theorem steerLookup_of_match (hm : ¬(crane = true ∧ t.isCrane = false)) :
    steerLookup crane f s = steerEntry crane f t.ho s := by
  rw [steerLookup, hl]
  exact if_neg (by simpa using hm)

end Listed

/-! ## The statement -/

/-- Settles O48: an uplink data frame reaches the classifier, which drops it in STANDBY; a downlink frame is
followed through the cases of Table 3-2 in their order. -/
theorem downlinkFramesAreSteeredByTheFirstCase : Obligations.DownlinkFramesAreSteeredByTheFirstCase := by
  unfold Obligations.DownlinkFramesAreSteeredByTheFirstCase
  constructor
  · intro s k c hr hp hk hc
    obtain ⟨n, unlisted, listed, hexec⟩ := exec_uplinkData_classifies hc s
    rw [hexec, outsideReset_of_running hr, fromUpHead_of_isUp hk, classify_of_standby hp]
    rfl
  · intro s f crane hr drop offer
    rw [exec_downlink hr]
    congr 1
    by_cases hp : s.part = .standby
    · rw [if_pos hp, steer_of_standby hp]
      rfl
    rw [if_neg hp]
    by_cases hb : f.terminal = 0 ∨ f.terminal = 65535
    · rw [if_pos hb, steer_of_badTerminal hp hb]
      rfl
    rw [if_neg hb]
    by_cases hf : f.flags.getLsbD 0 = true
    · rw [if_pos hf, steer_of_forced hp hb hf]
      cases hx : ix? 12 f.headIndex.toNat with
      | none => exact steerForced_of_badHead hx
      | some k =>
        by_cases hk : s.isUp k = true
        · exact (steerForced_of_isUp hx hk).trans (if_pos hk).symm
        · exact (steerForced_of_notUp hx hk).trans (if_neg hk).symm
    · rw [if_neg hf, steer_of_not_forced hp hb hf]
      cases hl : s.lookup f.terminal with
      | none => exact steerLookup_of_unlisted hl
      | some entry =>
        obtain ⟨i, t⟩ := entry
        by_cases hm : crane = true ∧ t.isCrane = false
        · exact (steerLookup_of_mismatch hl hm).trans (if_pos hm).symm
        · refine ((steerLookup_of_match hl hm).trans ?_).trans (if_neg hm).symm
          cases t.ho with
          | orphan => rfl
          | settled v => rfl
          | probing v c => rfl
          | bicast v c d => rfl

end Sys2Proof.Machine
end

section
/-! The loop update of 7.3 (R112 to R115): what each stage computes in the manual's own terms, what rounding to the
nearest means, and which average is the edge quality. -/

namespace Sys2Proof.Machine
open Sys2Proof

variable {s : State} {k : HeadIx} {q : Int}

/-! ## Clamping and rounding (R113) -/

/-- Clamping into a range that is not empty. -/
theorem clampInt_eq_max_min {lo hi : Int} (h : lo ≤ hi) (x : Int) : clampInt lo hi x = max lo (min hi x) := by
  unfold clampInt
  split
  · omega
  · split <;> omega

theorem toNat_clampInt {lo : Nat} {hi : Int} (h : (lo : Int) ≤ hi) (x : Int) :
    ((clampInt lo hi x).toNat : Int) = max (lo : Int) (min hi x) := by
  rw [clampInt_eq_max_min h]
  omega

/-- What is left of `a` after `n` times its rounded quotient is at most half of `n` on either side, and a half is left
only on the side nearer to 0. -/
theorem roundDiv_nearest {a : Int} {n : Nat} (hn : 0 < n) :
    -(n : Int) ≤ 2 * (a - n * roundDiv a n) ∧ 2 * (a - n * roundDiv a n) ≤ n ∧
    (2 * (a - n * roundDiv a n) = n → a < 0) ∧ (2 * (a - n * roundDiv a n) = -n → 0 < a) := by
  have hpos : (0 : Int) < 2 * n := by omega
  by_cases ha : 0 ≤ a
  · have hr : roundDiv a n = (2 * a + n) / (2 * n) := if_pos ha
    have hdiv := Int.mul_ediv_add_emod (2 * a + n) (2 * n)
    have hlt := Int.emod_lt_of_pos (2 * a + n) hpos
    have hnn := Int.emod_nonneg (2 * a + n) hpos.ne'
    have hzero : a = 0 → roundDiv a n = 0 := by
      rintro rfl
      rw [hr]
      exact Int.ediv_eq_zero_of_lt (by omega) (by omega)
    rw [← hr, mul_assoc] at hdiv
    refine ⟨by omega, by omega, by omega, fun h => ?_⟩
    by_contra h0
    have ha0 : a = 0 := by omega
    rw [hzero ha0, ha0] at h
    omega
  · have hr : roundDiv a n = -((-(2 * a) + n) / (2 * n)) := if_neg ha
    have hdiv := Int.mul_ediv_add_emod (-(2 * a) + n) (2 * n)
    have hlt := Int.emod_lt_of_pos (-(2 * a) + n) hpos
    have hnn := Int.emod_nonneg (-(2 * a) + n) hpos.ne'
    rw [show (-(2 * a) + n) / (2 * n) = -roundDiv a n by omega, mul_assoc, mul_neg] at hdiv
    omega

/-! ## The edge quality (R112) -/

theorem foldl_minOpt_eq_min? (l : List Int) : l.foldl minOpt none = l.min? := by
  have key : ∀ (l : List Int) (x : Int), l.foldl minOpt (some x) = some (l.foldl min x) := by
    intro l
    induction l with
    | nil => exact fun x => rfl
    | cons y l ih => exact fun x => ih (min x y)
  cases l with
  | nil => rfl
  | cons x l => exact key l x

theorem freshAverage_eq_some_iff {c : Cell} : freshAverage c = some q ↔ c.state = .fresh ∧ c.avg = some q := by
  unfold freshAverage
  cases c.state <;> simp

/-- The averages the edge quality is taken from are those of the FRESH cells. -/
theorem mem_freshAverages_iff {cells : Vector Cell 48} :
    q ∈ cells.toList.filterMap freshAverage ↔
      ∃ g : SegIx, (look cells g).state = .fresh ∧ (look cells g).avg = some q := by
  have hmem (c : Cell) : c ∈ cells.toList ↔ ∃ g : SegIx, look cells g = c := by
    rw [Vector.mem_toList_iff, Vector.mem_iff_getElem]
    exact ⟨fun ⟨i, hi, h⟩ => ⟨⟨i, hi⟩, h⟩, fun ⟨g, h⟩ => ⟨g.val, g.isLt, h⟩⟩
  simp only [List.mem_filterMap, hmem, freshAverage_eq_some_iff]
  constructor
  · rintro ⟨_, ⟨g, rfl⟩, h⟩
    exact ⟨g, h⟩
  · rintro ⟨g, h⟩
    exact ⟨_, ⟨g, rfl⟩, h⟩

theorem edgeQuality_eq_some_iff {cells : Vector Cell 48} :
    edgeQuality cells = some q ↔
      (∃ g : SegIx, (look cells g).state = .fresh ∧ (look cells g).avg = some q) ∧
      ∀ (g : SegIx) (x : Int), (look cells g).state = .fresh → (look cells g).avg = some x → q ≤ x := by
  rw [edgeQuality, foldl_minOpt_eq_min?, List.min?_eq_some_iff, mem_freshAverages_iff]
  refine and_congr_right fun _ => ?_
  constructor
  · exact fun h g x hf hx => h x (mem_freshAverages_iff.mpr ⟨g, hf, hx⟩)
  · intro h x hx
    obtain ⟨g, hf, hx⟩ := mem_freshAverages_iff.mp hx
    exact h g x hf hx

theorem edgeQuality_eq_none_iff {cells : Vector Cell 48} :
    edgeQuality cells = none ↔ ∀ g : SegIx, (look cells g).state = .fresh → (look cells g).avg = none := by
  rw [edgeQuality, foldl_minOpt_eq_min?, List.min?_eq_none_iff, List.eq_nil_iff_forall_not_mem]
  simp only [mem_freshAverages_iff, Option.eq_none_iff_forall_ne_some]
  exact ⟨fun h g hf x hx => h x ⟨g, hf, hx⟩, fun h x ⟨g, hf, hx⟩ => h g hf x hx⟩

/-! ## The target and the stages of the step (R112, R113) -/

/-- R112, with the CRANE-class entries the head serves counted over the slots. -/
theorem loopTarget_eq (k : HeadIx) (s : State) :
    loopTarget k s = (s.head k).record.baseTarget + s.mgmt.params.craneMargin *
      (min ((List.finRange 256).countP fun i =>
        (s.term i).any fun e => decide (e.part.cls = .crane ∧ e.ho.serving = some k)) 4 : Nat) := by
  rw [loopTarget, cranesServed, countTab_eq]
  simp [State.term, State.params, Term.isCrane]

theorem slewStep_eq (r : HeadRecord) (l : LoopState) (e : Int) :
    slewStep r l e = max (-(r.slew : Int)) (min r.slew (rawStep r l e)) :=
  clampInt_eq_max_min (by omega) _

/-- R113: in a record whose limits are in order the new offset is the sum clamped between them. -/
theorem newOffset_eq {r : HeadRecord} (hr : r.pMin ≤ r.pMax) (l : LoopState) (e : Int) :
    ((newOffset r l e).2 : Int) = max (r.pMin : Int) (min r.pMax (l.u + slewStep r l e)) :=
  toNat_clampInt (by omega) _

/-- R113, stages 1 to 4 with every clamp written out. -/
theorem LoopState.stepped_eq {r : HeadRecord} (hr : r.pMin ≤ r.pMax) (l : LoopState) (e : Int) :
    l.stepped r e =
      let raw := roundDiv (r.kp * (e - l.e1) + r.ki * e + r.kd * (e - 2 * l.e1 + l.e2)) 256
      let step := max (-(r.slew : Int)) (min r.slew raw)
      let u := max (r.pMin : Int) (min r.pMax (l.u + step))
      { l with
        u := u.toNat, e1 := e, e2 := l.e1
        cnt := { l.cnt with
          updates := inc l.cnt.updates
          slewClamps := if step = raw then l.cnt.slewClamps else inc l.cnt.slewClamps
          rangeClamps := if u = l.u + step then l.cnt.rangeClamps else inc l.cnt.rangeClamps } } := by
  have hstep : slewStep r l e = max (-(r.slew : Int)) (min r.slew (rawStep r l e)) := slewStep_eq r l e
  have hu := newOffset_eq hr l e
  have hnat := congrArg Int.toNat hu
  rw [Int.toNat_natCast] at hnat
  rw [LoopState.stepped, hu, hnat, newOffset, hstep]
  rfl

/-! ## The status (R114) -/

/-- COVERAGE_THIN's detail: the error in the high half, the offset in the low half. The two halves are read as Nat by
the model, which is exact for an error and an offset that are not negative. -/
theorem halves_eq_append {e : Int} (he : 0 ≤ e) (u : Nat) :
    halves u e.toNat = BitVec.ofInt 8 e ++ BitVec.ofInt 8 u := by
  obtain ⟨n, rfl⟩ := Int.eq_ofNat_of_zero_le he
  apply BitVec.eq_of_toNat_eq
  have happend := BitVec.toNat_append (BitVec.ofNat 8 n) (BitVec.ofNat 8 u)
  rw [← Nat.shiftLeft_add_eq_or_of_lt (BitVec.isLt _), Nat.shiftLeft_eq] at happend
  simp only [BitVec.toNat_ofNat] at happend
  simp only [halves, Int.toNat_natCast, BitVec.ofInt_natCast, BitVec.toNat_ofNat, happend]
  omega

/-- The status an update leaves: GUARDED stays as it is (R114). -/
def statusAfter (k : HeadIx) (q target : Int) (s : State) : CovStatus :=
  if (s.loop k).guarded then (s.loop k).status
  else statusOf q target (s.loop k).u (s.head k).record.pMax s.params.thinMargin

/-- A head that is not GUARDED is THIN only where the edge quality lies below the target. -/
theorem lt_of_statusAfter_eq_thin {target : Int} (hg : (s.loop k).guarded = false)
    (h : statusAfter k q target s = .thin) : q < target := by
  rw [statusAfter, if_neg (by simp [hg]), statusOf] at h
  split at h
  · cases h
  · omega

theorem State.modLoop_modLoop (s : State) (k : HeadIx) (f g : LoopState → LoopState) :
    (s.modLoop k f).modLoop k g = s.modLoop k fun l => g (f l) := by
  simp [State.modLoop, put_put]

theorem State.modLoop_eq_self {f : LoopState → LoopState} (h : f (s.loop k) = s.loop k) : s.modLoop k f = s := by
  have h' : f (look s.loops k) = look s.loops k := h
  simp [State.modLoop, h']

/-- The status stage writes the status, guarded or not, and announces an entry to THIN. -/
theorem setStatus_eq (target e : Int) :
    setStatus k q target e s =
      if (s.loop k).guarded = false ∧ statusAfter k q target s = .thin ∧ (s.loop k).status ≠ .thin then
        raise .coverageThin k.val (halves (s.loop k).u e.toNat)
          (s.modLoop k fun l => { l with status := statusAfter k q target s })
      else s.modLoop k fun l => { l with status := statusAfter k q target s } := by
  by_cases hg : (s.loop k).guarded = true
  · have hst : statusAfter k q target s = (s.loop k).status := if_pos hg
    rw [hst, if_neg (by simp [hg]), State.modLoop_eq_self rfl]
    exact if_pos hg
  · have hst : statusAfter k q target s =
        statusOf q target (s.loop k).u (s.head k).record.pMax s.params.thinMargin := if_neg hg
    rw [hst, setStatus]
    simp [hg]

theorem setStatus_loop (target e : Int) :
    (setStatus k q target e s).loop k = { s.loop k with status := statusAfter k q target s } := by
  rw [setStatus_eq]
  split
  · rw [State.loop_congr (raise_loops ..), State.loop_modLoop_self]
  · rw [State.loop_modLoop_self]

/-! ## The update -/

theorem loopUpdate_of_unmeasured (hq : edgeQuality (look s.cov.cells k) = none) :
    loopUpdate k s = s.modLoop k fun l =>
      { l with
        status := if l.guarded then l.status else .unmeasured
        cnt := { l.cnt with unmeasuredUpdates := inc l.cnt.unmeasuredUpdates } } := by
  rw [loopUpdate, hq]

/-- The error of an update (R112). -/
def loopError (k : HeadIx) (q : Int) (s : State) : Int := clampInt (-255) 255 (loopTarget k s - q)

theorem loopUpdate_of_measured (hq : edgeQuality (look s.cov.cells k) = some q) :
    loopUpdate k s = updateSetpoint k (setStatus k q (loopTarget k s) (loopError k q s)
      (s.modLoop k fun l => l.stepped (s.head k).record (loopError k q s))) := by
  rw [loopUpdate, hq]
  rfl

/-- R115: the setpoint stage goes by the guard, the offset and the last setpoint that the stages before it leave. -/
theorem updateSetpoint_setStatus (target e : Int) :
    updateSetpoint k (setStatus k q target e s) =
      if (s.loop k).guarded ∨ (s.loop k).lastSet = some (s.loop k).u then setStatus k q target e s
      else offerSetpoint k (s.loop k).u (setStatus k q target e s) := by
  rw [updateSetpoint, setStatus_loop]

/-! ## The statement -/

/-- Settles O27: the update without and with a FRESH average stage by stage, then what the edge quality and the
rounding of the step are. -/
theorem loopUpdateFollowsTheNineStages : Obligations.LoopUpdateFollowsTheNineStages := by
  unfold Obligations.LoopUpdateFollowsTheNineStages
  refine ⟨⟨fun s k hq => loopUpdate_of_unmeasured hq, ?_⟩,
    fun cells => ⟨fun q => edgeQuality_eq_some_iff, edgeQuality_eq_none_iff⟩, fun a n hn => roundDiv_nearest hn⟩
  intro s k q hq r l cranes target e sum raw step u status hr
  have htarget : loopTarget k s = target := loopTarget_eq k s
  have herror : loopError k q s = e := by
    rw [loopError, htarget]
    exact clampInt_eq_max_min (by omega) _
  -- the state after stages 1 to 4, which the status and setpoint stages go by
  let s1 := s.modLoop k fun l => l.stepped r e
  have hloop : s1.loop k = l.stepped r e := State.loop_modLoop_self ..
  have hstep := LoopState.stepped_eq hr l e
  have hu : (s1.loop k).u = u.toNat := by rw [hloop, hstep]
  have hstatus : statusAfter k q target s1 = status := by
    rw [statusAfter, statusOf, hu, hloop]
    rfl
  refine ⟨setStatus k q target e s1, ?_, ?_⟩
  · rw [loopUpdate_of_measured hq, htarget, herror, updateSetpoint_setStatus, hu, hloop]
    rfl
  · have hwritten : (s1.modLoop k fun x => { x with status := status }) =
        { s with loops := put s.loops k { l.stepped r e with status := status } } := State.modLoop_modLoop ..
    rw [setStatus_eq, hstatus, hu, hwritten, hloop, hstep]
    by_cases hthin : l.guarded = false ∧ status = .thin ∧ l.status ≠ .thin
    · obtain ⟨hfree, hst, -⟩ := id hthin
      have he : 0 ≤ e := by
        have hlt : q < target := lt_of_statusAfter_eq_thin (by rw [hloop]; exact hfree) (hstatus.trans hst)
        exact le_max_of_le_right (le_min (by omega) (by omega))
      have hunat : (u.toNat : Int) = u := Int.toNat_of_nonneg (le_max_of_le_left (by omega))
      rw [if_pos hthin, halves_eq_append he, hunat]
      exact (if_pos hthin).symm
    · rw [if_neg hthin]
      exact (if_neg hthin).symm

end Sys2Proof.Machine
end

section
/-! The identity of the part (10.3, R157): what a request that only reads leaves, IDENT's items, and their bytes. -/

namespace Sys2Proof.Machine
open Sys2Proof Sys2Proof.Safety

variable {s : State} {h : Hdr}

/-- An accepted request that only reads is counted and told what it reads, and does nothing else (R155). -/
theorem request_of_read (ha : Accepted s h) (code : Byte) (st : Status) (read : State → ReplyData) :
    request h code (fun a s => answer a st (read s) s) s = told (asked s h) h code st (read (asked s h)) := by
  rw [request_of_accepted ha, answer_eq_told]

/-- IDENT reads the node address, the part state and the uptime, none of which the request's own count touches. -/
theorem exec_ident (ha : Accepted s h) :
    exec (.ident h) s = .next (told (asked s h) h 1 .done (.ident s.node s.running s.seconds)) :=
  congrArg Host.Outcome.next (request_of_read ha 1 .done fun s => .ident s.node s.running s.seconds)

/-- R170: a value that four bytes can hold is what they hold. -/
theorem nat4_of_lt {n : Nat} (hn : n < 4294967296) : nat4 n = bytes4 (BitVec.ofNat 32 n) := by
  rw [nat4, if_pos hn]

/-! ## The statement -/

/-- Settles O8: IDENT only reads, and the last of its items fits its four bytes. -/
theorem identReportsSixItems : Obligations.IdentReportsSixItems := by
  unfold Obligations.IdentReportsSixItems
  refine ⟨fun s h ha => exec_ident ha, fun node running up hup => ?_⟩
  rw [ReplyData.bytes, nat4_of_lt hup]

end Sys2Proof.Machine
end

section
/-! The shell every command runs in: a request, an event outside reset, or an event that reset does not hold back; and
what a command keeps, once its own action keeps it. -/

namespace Sys2Proof.Machine
open Sys2Proof

/-- What a command does: a request with its body (10.1), an event that reset holds back (R161), or one that it does
not (log 4). -/
inductive Act where
  | request (h : Hdr) (code : Byte) (body : Asker → State → State)
  | event (f : State → State)
  | always (f : State → State)

/-- The state after an action. -/
def Act.run : Act → State → State
  | .request h code body => Machine.request h code body
  | .event f => outsideReset f
  | .always f => f

/-- A loss of a head's link: the indication and the frame on the wire, then the consequences of R25 and R34. -/
def headLinkLost (k : HeadIx) (s : State) : State :=
  outsideReset (linkDown k) ((setEth k false s).modHead k fun d => { d with tx := none })

/-- The reset pin asserted. -/
def resetAsserted (s : State) : State :=
  { s with
    inReset := true
    heads := mapTab headHeld s.heads
    trunk := { s.trunk with tx := none }
    reef := { s.reef with purge := none } }

/-- A frame for another node (R154). -/
def otherNodeFrame (dest : Byte) (s : State) : State :=
  if dest = 255 ∨ dest = s.node.setWidth 8 then s
  else s.countMgmt fun c => { c with otherNode := inc c.otherNode }

/-- A request that names none (R155). -/
def badRequestAct (h : Hdr) (code : Byte) : Act :=
  if code.toNat = 0 ∨ 25 < code.toNat then .request h code fun a s => answer a .badRequest .empty s else .always id

/-- The action of each command. -/
def act : Instr → Act
  | .ident h => .request h 1 fun a s => answer a .done (.ident s.node s.running s.seconds) s
  | .start h => .request h 2 fun a s => answer a .done .empty (if s.running then s else startPart s)
  | .stop h => .request h 3 fun a s => answer a .done .empty (if s.running then stopPart s else s)
  | .softReset h => .request h 4 fun a s => answer a .done .empty (softResetPart s)
  | .setParam h p => .request h 5 (setParamBody p)
  | .getParam h p => .request h 6 (getParamBody p)
  | .termLoad h p => .request h 7 (termLoadBody p)
  | .termRemove h p => .request h 8 (termRemoveBody p)
  | .termRead h p => .request h 9 (termReadBody p)
  | .craneDormant h p => .request h 10 (craneDormantBody p)
  | .headLoad h p => .request h 11 (headLoadBody p)
  | .headRead h p => .request h 12 (headReadBody p)
  | .headRestart h p => .request h 13 (headRestartBody p)
  | .headLooptest h p => .request h 14 (headLooptestBody p)
  | .guardRelease h p => .request h 15 (guardReleaseBody p)
  | .cellRead h p => .request h 16 (cellReadBody p)
  | .segRead h p => .request h 17 (segReadBody p)
  | .reeferRegister h p => .request h 18 (reeferRegisterBody p)
  | .reeferRemove h p => .request h 19 (reeferRemoveBody p)
  | .reeferRead h p => .request h 20 (reeferReadBody p)
  | .reeferPurge h p => .request h 21 (reeferPurgeBody p)
  | .bandLoad h p => .request h 22 (bandLoadBody p)
  | .countersRead h p => .request h 23 (countersReadBody p)
  | .noticeMask h p => .request h 24 (noticeMaskBody p)
  | .noticeSummary h => .request h 25 fun a s =>
      answer a .done (.summary s.mgmt.summary) (s.modMgmt fun m => { m with summary := 0 })
  | .badRequest h code => badRequestAct h code
  | .otherNode dest => .event (otherNodeFrame dest)
  | .headstat k noise flags up => .event (headstatFrame k { noise, flags, uptime := up })
  | .echo k bytes => .event (echoFrame k bytes)
  | .uplinkCrane k f => .event (fromUpHead k (classify f.terminal
      (fun s => s.modCls fun c => { c with unlistedCrane := inc c.unlistedCrane }) (craneListed k f)))
  | .uplinkUser k f => .event (fromUpHead k (classify f.terminal
      (fun s => offerTrunkNormal (forwarded k f) (s.modCls fun c => { c with unlistedUser := inc c.unlistedUser }))
      (userListed k f)))
  | .meas k n segment entries => .event (fromUpHead k (classify n
      (fun s => s.modCls fun c => { c with unlistedMeas := inc c.unlistedMeas }) (measListed k segment entries)))
  | .batch k n payload => .event (fromUpHead k (classify n
      (fun s => s.modCls fun c => { c with unlistedBatch := inc c.unlistedBatch }) (batchListed payload)))
  | .mgmtOnHead k => .event (fromUpHead k fun s => s.modCls fun c => { c with mgmtOnHead := inc c.mgmtOnHead })
  | .ulWrongKind k _ => .event (fromUpHead k fun s => s.modCls fun c => { c with ulWrongKind := inc c.ulWrongKind })
  | .rxDamaged k => .event fun s => s.countHead k fun c => { c with rxDamaged := inc c.rxDamaged }
  | .downlinkCrane f => .event (steer true f)
  | .downlinkUser f => .event (steer false f)
  | .trunkWrongKind _ => .event fun s => s.countTrunk fun c => { c with wrongKind := inc c.wrongKind }
  | .trunkDamaged => .event fun s => s.countTrunk fun c => { c with damaged := inc c.damaged }
  | .headLinkUp k => .always (setEth k true)
  | .headLinkDown k => .always (headLinkLost k)
  | .trunkLinkUp => .always fun s => s.modTrunk fun t => { t with linkUp := true }
  | .trunkLinkDown => .always fun s => s.modTrunk fun t => { t with linkUp := false, tx := none }
  | .headSilenceExpiry k => .event (silenceExpiry k)
  | .pulseEnd k => .event (pulseEnds k)
  | .blankingEnd k => .event (blankingEnds k)
  | .restartDeadlineExpiry k => .event (restartExpiry k)
  | .loopTestDeadlineExpiry k => .event (loopTestExpiry k)
  | .craneWatchdogExpiry i => .event (watchdogExpiry i)
  | .bicastDeadlineExpiry i => .event (bicastExpiry i)
  | .coveragePeriodExpiry => .event coverageExpiry
  | .gatewaySilenceExpiry i => .event (gatewayExpiry i)
  | .reeferSilenceExpiry i => .event (reeferExpiry i)
  | .flushDeadlineExpiry => .event flushExpiry
  | .purgeWalkVisit => .event purgeVisit
  | .headEgressService k => .event (egressService k)
  | .trunkGrant => .event grant
  | .hardReset => .always resetAsserted
  | .resetRelease straps => .always fun s => if s.inReset then released straps s else s

theorem exec_badRequest (h : Hdr) (code : Byte) (s : State) :
    execBadRequest h code s = .next ((badRequestAct h code).run s) := by
  unfold execBadRequest badRequestAct
  split <;> rfl

/-- Every command completes: it leaves the state its action makes. -/
theorem exec_eq_run (c : Instr) (s : State) : exec c s = .next ((act c).run s) := by
  cases c with
  | badRequest h code => exact exec_badRequest h code s
  | _ => rfl

/-! ## What a command keeps -/

/-- An action keeps `P`, in the situations in which it is run: a body with room for its reply and outside reset, an
event outside reset. -/
def Act.Keeps (P : State → Prop) : Act → Prop
  | .request _ _ body => ∀ a s, s.inReset = false → (a.own = true → s.trunk.replyQ.length < 8) → P s → P (body a s)
  | .event f => ∀ s, s.inReset = false → P s → P (f s)
  | .always f => ∀ s, P s → P (f s)

/-- `P` is not about what a request counts before or instead of its body. -/
structure CountsKeep (P : State → Prop) : Prop where
  countMgmt : ∀ s f, P s → P (s.countMgmt f)
  countTrunk : ∀ s f, P s → P (s.countTrunk f)

variable {P : State → Prop}

theorem request_keeps (hP : CountsKeep P) {h : Hdr} {code : Byte} {body : Asker → State → State}
    (hb : (Act.request h code body).Keeps P) {s : State} (hs : P s) : P (request h code body s) := by
  unfold request
  split
  · exact hs
  next hr =>
    have hr : s.inReset = false := by simpa using hr
    split
    · exact hb _ _ hr (by simp) (hP.countMgmt s _ hs)
    · split
      · split
        · exact hP.countTrunk s _ hs
        next hq => exact hb _ _ hr (fun _ => Nat.lt_of_not_le hq) (hP.countMgmt s _ hs)
      · exact hP.countMgmt s _ hs

theorem Act.run_keeps (hP : CountsKeep P) {a : Act} (ha : a.Keeps P) {s : State} (hs : P s) : P (a.run s) := by
  cases a with
  | request h code body => exact request_keeps hP ha hs
  | event f =>
    show P (outsideReset f s)
    unfold outsideReset
    split
    · exact hs
    next hr => exact ha s (by simpa using hr) hs
  | always f => exact ha s hs

end Sys2Proof.Machine
end

section
/-! The changes a command is made of: each command's action is a chain of them, so that a statement about the state is
kept by every step once it is kept by each change. -/

namespace Sys2Proof.Machine
open Sys2Proof

/-! ## The changes -/

/-- The handover states an entry may be given (5.1 to 5.5). -/
inductive HoMove (s : State) (t : Term) : Handover → Prop
  | keep : HoMove s t t.ho
  | orphan : HoMove s t .orphan
  | anchor {v} (hr : s.running = true) (hv : s.isUp v = true) : HoMove s t (.settled v)
  | move {v c} (hv : t.ho.serving = some v) (hc : s.isUp c = true) : HoMove s t (.settled c)
  | settle {v} (hv : t.ho.serving = some v) : HoMove s t (.settled v)
  | arrive {c} (hc : t.ho.candidate = some c) : HoMove s t (.settled c)
  | probe {v c} (hv : t.ho.serving = some v) (hc : s.isUp c = true) (hne : c ≠ v) : HoMove s t (.probing v c)
  | bicast {v c d} (hv : t.ho.serving = some v) (hc : s.isUp c = true) (hne : c ≠ v) (ht : t.isCrane = true) :
      HoMove s t (.bicast v c d)

/-- A crane link that needs no watchdog and raised no alarm: what STANDBY leaves (10.4). -/
def CraneLink.quiet : CraneLink → Bool
  | .unheard | .dormant => true
  | .live _ | .lost => false

/-- A gateway state without a silence deadline (10.4). -/
def GatewayState.quiet : GatewayState → Bool
  | .reporting _ d => d.isNone
  | .unheard | .silent _ => true

/-- What a head is given when it leaves UP or RESTARTING, or is restarted (R26, R31). -/
inductive GoneTo : HeadLink → Bool → Prop
  | offline : GoneTo .offline false
  | disabled : GoneTo .disabled false
  | restarting (r : Restart) : GoneTo (.restarting r) (decide (r.kind = .warm))

/-- One change of the state: the smallest ones that keep what the part keeps. -/
inductive Change : State → State → Prop
  -- counters, notices, replies, the management and trunk state
  | mgmt {s} (f : Mgmt → Mgmt) (hf : (f s.mgmt).params = s.mgmt.params) : Change s (s.modMgmt f)
  | param {s} (i : ParamId) (v : Int) (x : Nat) (hx : paramValue i v = some x) :
      Change s (s.modMgmt fun m => { m with params := m.params.set i x })
  | countCls {s} (f : ClassifierCounters → ClassifierCounters) : Change s (s.modCls f)
  | countHo {s} (f : HandoverCounters → HandoverCounters) : Change s (s.modHo f)
  | countCrane {s} (f : CraneCounters → CraneCounters) : Change s (s.modCrane f)
  | countTrunk {s} (f : TrunkCounters → TrunkCounters) : Change s (s.countTrunk f)
  | clear {s} (g : Group) : Change s (clearGroup g s)
  | notice {s} (n : Notice) : Change s (offerNotice n s)
  | reply {s} (r : Reply) (hq : s.trunk.replyQ.length < 8) :
      Change s (s.modTrunk fun t => { t with replyQ := t.replyQ ++ [r] })
  | trunkLink {s} (f : Trunk → Trunk)
      (hf : f s.trunk = { s.trunk with linkUp := (f s.trunk).linkUp, tx := (f s.trunk).tx }) : Change s (s.modTrunk f)
  | trunkCrane {s} (f : BerthFrame) (hr : s.running = true) : Change s (offerTrunkCrane f s)
  | trunkNormal {s} (f : BerthFrame) (hr : s.running = true) : Change s (offerTrunkNormal f s)
  | grantCrane {s f rest} (hq : s.trunk.craneQ = f :: rest) : Change s (grantCrane f rest s)
  | grantNotice {s n rest} (hq : s.trunk.noticeQ = n :: rest) : Change s (grantNotice n rest s)
  | grantReply {s r rest} (hq : s.trunk.replyQ = r :: rest) : Change s (grantReply r rest s)
  | grantNormal {s f rest} (hq : s.trunk.normalQ = f :: rest) (ht : ¬(s.exp.request = true ∧ 16 ≤ s.trunk.exportTurn)) :
      Change s (grantNormal f rest s)
  | grantExport {s} (hr : s.exp.request = true) : Change s (grantExport s)
  -- heads
  | headView {s} (h : HeadIx) (f : Head → Head)
      (hf : f (s.head h) = { s.head h with
        ethUp := (f (s.head h)).ethUp, last := (f (s.head h)).last, alarms := (f (s.head h)).alarms
        tx := (f (s.head h)).tx, cnt := (f (s.head h)).cnt }) :
      Change s (s.modHead h f)
  | ctl {s} (h : HeadIx) (f : CtlFrame) (hf : f.isSetpoint = false) : Change s (offerCtl h f s)
  | headCrane {s} (h : HeadIx) (f : BerthFrame) : Change s (offerHeadCrane h f s)
  | headNormal {s} (h : HeadIx) (f : BerthFrame) : Change s (offerHeadNormal h f s)
  | serve {s} (h : HeadIx) : Change s (s.modHead h Head.serve)
  | withoutTest {s} (h : HeadIx) : Change s (s.modHead h Head.withoutTest)
  | startTest {s} (h : HeadIx) (p : Vector Byte 16) (a : Asker) (hu : s.isUp h = true)
      (hq : ¬(s.running = true ∧ 8 ≤ (s.head h).ctlQ.length)) : Change s (startLoopTest h p a s)
  | goesUp {s} (h : HeadIx) (d : Nat) (hl : (s.head h).link ≠ .disabled) :
      Change s (s.modHead h fun x => { x with link := .up d })
  | timer {s} (h : HeadIx) (r q : Restart) (hl : (s.head h).link = .restarting r) (hk : q.kind = r.kind) :
      Change s (s.modHead h fun x => { x with link := .restarting q })
  | gone {s} (h : HeadIx) (next : HeadLink) (warm : Bool) (hn : GoneTo next warm) (hl : (s.head h).link ≠ .disabled) :
      Change s (headGone h next warm s)
  | apply {s} (h : HeadIx) (r : HeadRecord) (p : HeadLoadP) (hp : checkHeadLoad p = some (h, r)) :
      Change s (applyRecord h r s)
  -- the loop
  | setpoint {s} (h : HeadIx) (v : Nat) (hv : (s.loop h).guarded = true → v = (s.head h).record.pMin) :
      Change s (offerSetpoint h v s)
  | loopStep {s} (h : HeadIx) (e : Int) (he : -255 ≤ e ∧ e ≤ 255) :
      Change s (s.modLoop h fun l => l.stepped (s.head h).record e)
  | loopView {s} (h : HeadIx) (st : CovStatus) (c : LoopCounters)
      (hst : st = (s.loop h).status ∨ (s.loop h).guarded = false ∧ st ≠ .guarded) :
      Change s (s.modLoop h fun l => { l with status := st, cnt := c })
  | history {s} (h : HeadIx) : Change s (s.modLoop h fun l => { l with e1 := 0, e2 := 0 })
  | run {s} (h : HeadIx) (n : Nat) (hn : n ≤ (s.head h).record.guardCount) : Change s (setRun h n s)
  | guard {s} (h : HeadIx) :
      Change s (offerSetpoint h (s.head h).record.pMin (s.modLoop h fun l =>
        { l with guarded := true, status := .guarded, run := 0
                 cnt := { l.cnt with guardEntries := inc l.cnt.guardEntries } }))
  | unguard {s} (h : HeadIx) :
      Change s (s.modLoop h fun l => { l with guarded := false, status := .unmeasured, run := 0 })
  -- coverage
  | cov {s} (f : Coverage → Coverage) (hf : (f s.cov).deadline = s.cov.deadline ∨ s.cov.deadline.isSome = true) :
      Change s (s.modCov f)
  -- terminals
  | term {s} (i : SlotIx) (t t' : Term) (ht : s.term i = some t) (hn : t'.number = t.number) (hp : t'.part = t.part)
      (hg : t'.segment = t.segment) (hm : HoMove s t t'.ho) : Change s (s.setTerm i (some t'))
  | cranePart {s} (i : SlotIx) (t : Term) (c c' : CranePart) (ht : s.term i = some t) (hc : t.part = .crane c)
      (hq : s.running = false → c.link.quiet = true → c'.link.quiet = true) :
      Change s (s.setTerm i (some { t with part := .crane c' }))
  | gatewayState {s} (i : SlotIx) (t : Term) (g g' : GatewayState) (n : Nat) (ht : s.term i = some t)
      (hg : t.part = .gateway g n) (hq : s.running = false → g.quiet = true → g'.quiet = true) :
      Change s (s.setTerm i (some { t with part := .gateway g' n }))
  | segment {s} (i : SlotIx) (b : Byte) : Change s (recordSegment i b s)
  | load {s} (i : SlotIx) (n : TermNo) (c : TermClass) (hi : s.term i = none) (hb : badNumber n = false)
      (hl : s.lookup n = none) : Change s (s.setTerm i (some (newTerm n c)))
  | remove {s} (i : SlotIx) (t : Term) (ht : s.term i = some t) : Change s (removeTerm i t s)
  -- the part state
  | start {s} (hp : s.running = false) : Change s (startPart s)
  | stop {s} (hp : s.running = true) : Change s (stopPart s)
  | soft {s} : Change s (softResetPart s)
  -- reefers and the Export Unit
  | reef {s} (f : Reefers → Reefers) (hf : (f s.reef).table = s.reef.table) : Change s (s.modReef f)
  | learn {s} (i : ReeferIx) (tag : Nat) (c : BandIx) (hi : s.reefer i = none) (ht : 1 ≤ tag ∧ tag ≤ 1048575)
      (hf : s.findTag tag = none) : Change s (s.setReefer i (some (newReefer tag c s.uptime)))
  | place {s} (i : ReeferIx) (r r' : Reefer) (g : SlotIx) (hr : s.reefer i = some r) (hrun : s.running = true)
      (hg : ∃ t st n, s.term g = some t ∧ t.part = .gateway st n)
      (ht : r'.tag = r.tag) (hg' : r'.gateway = some g) (hp : r'.pending = r.pending)
      (ha : (r.state = .alarm → r.setpoint.isSome = true) → r'.state = .alarm → r'.setpoint.isSome = true)
      (hs : r'.silence.isSome = true → isHeard r'.state = true) :
      Change s ((moveReefer r.gateway g s).setReefer i (some r'))
  | reefer {s} (i : ReeferIx) (r r' : Reefer) (hr : s.reefer i = some r) (ht : r'.tag = r.tag)
      (hg : r'.gateway = r.gateway) (hp : r'.pending = r.pending)
      (ha : r'.state = .alarm → r.state = .alarm) (hsp : r'.setpoint = r.setpoint)
      (hs : r'.silence.isSome = true → r.silence.isSome = true ∧ isHeard r'.state = true) :
      Change s (s.setReefer i (some r'))
  | join {s} (i : ReeferIx) (r : Reefer) (why : Reason) (hr : s.reefer i = some r) : Change s (joinList i r why s)
  | flushDue {s} (hd : due s.exp.deadline s.uptime = true) : Change s (flushExpiry s)
  | free {s} (i : ReeferIx) (r : Reefer) (hr : s.reefer i = some r) : Change s (freeReefer i r s)

/-- A chain of changes. -/
abbrev Changes : State → State → Prop := Relation.ReflTransGen Change

namespace Changes

theorem of {s t : State} (h : Change s t) : Changes s t := .single h

theorem rfl {s : State} : Changes s s := .refl

theorem trans {s t u : State} (h : Changes s t) (k : Changes t u) : Changes s u := Relation.ReflTransGen.trans h k

/-- What every change keeps, a chain of changes keeps. -/
theorem keeps {P : State → Prop} (hP : ∀ s t, Change s t → P s → P t) {s t : State} (h : Changes s t) (hs : P s) :
    P t := by
  induction h with
  | refl => exact hs
  | tail _ hc ih => exact hP _ _ hc ih

/-- A fold makes a chain of changes, where each of its steps does. -/
theorem foldl {α : Type} {f : State → α → State} (hf : ∀ s a, Changes s (f s a)) (l : List α) (s : State) :
    Changes s (l.foldl f s) := by
  induction l generalizing s with
  | nil => exact .rfl
  | cons a l ih => exact (hf s a).trans (ih _)

end Changes

end Sys2Proof.Machine
end

section
/-! The operations of the blocks as chains of changes: notices and queues, the Handover Engine and the cranes. -/

namespace Sys2Proof.Machine
open Sys2Proof

/-! ## What a lookup and a selection answer -/

theorem State.lookup_eq_some {s : State} {n : TermNo} {i : SlotIx} {t : Term} (h : s.lookup n = some (i, t)) :
    s.term i = some t ∧ t.number = n := by
  unfold State.lookup at h
  split at h
  next j hj =>
    cases ht : s.term j with
    | none => simp [ht] at h
    | some u =>
      have hp := findIx_some hj
      obtain ⟨rfl, rfl⟩ : j = i ∧ u = t := by simpa [ht] using h
      have ht' : look s.terms j = some u := ht
      simp only [ht', Option.any_some, decide_eq_true_eq] at hp
      exact ⟨ht, hp⟩
  · cases h

theorem State.findTag_eq_some {s : State} {n : Nat} {i : ReeferIx} {r : Reefer} (h : s.findTag n = some (i, r)) :
    s.reefer i = some r ∧ r.tag = n := by
  unfold State.findTag at h
  split at h
  next j hj =>
    cases hr : s.reefer j with
    | none => simp [hr] at h
    | some q =>
      have hp := findIx_some hj
      obtain ⟨rfl, rfl⟩ : j = i ∧ q = r := by simpa [hr] using h
      have hr' : look s.reef.table j = some q := hr
      simp only [hr', Option.any_some, decide_eq_true_eq] at hp
      exact ⟨hr, hp⟩
  · cases h

theorem State.freeReeferIx_eq_some {s : State} {i : ReeferIx} (h : s.freeReeferIx = some i) : s.reefer i = none := by
  have := findIx_some h
  simpa [State.reefer] using this

theorem best_mem {l : List (HeadIx × Int)} {p : HeadIx × Int} (h : best l = some p) : p ∈ l := by
  cases l with
  | nil => cases h
  | cons q l =>
    have key : ∀ (l : List (HeadIx × Int)) (q : HeadIx × Int), l.foldl better q ∈ q :: l := by
      intro l
      induction l with
      | nil => exact fun q => List.mem_singleton_self q
      | cons r l ih =>
        intro q
        have hr : better q r = q ∨ better q r = r := by unfold better; split <;> simp
        have := ih (better q r)
        simp only [List.foldl_cons, List.mem_cons] at this ⊢
        rcases this with h | h
        · rcases hr with e | e <;> rw [e] at h ⊢ <;> simp [h]
        · simp [h]
    obtain rfl : l.foldl better q = p := Option.some.inj h
    exact key l q

theorem eligible_iff {s : State} {crane : Bool} {v t : HeadIx} (h : eligible s crane v t = true) :
    s.isUp t = true ∧ t ≠ v := by
  simp only [eligible, Bool.and_eq_true, decide_eq_true_eq] at h
  exact h.1

theorem qualityTarget_eligible {s : State} {crane : Bool} {v b : HeadIx} {ref : Option Int} {u : List (HeadIx × Int)}
    (h : qualityTarget s crane v ref u = some b) : eligible s crane v b = true := by
  unfold qualityTarget at h
  split at h
  · cases h
  · obtain ⟨p, hp, rfl⟩ := Option.map_eq_some_iff.mp h
    have := List.mem_filter.mp (best_mem hp)
    simp only [Bool.and_eq_true] at this
    exact this.2.1

theorem positionTarget_eligible {s : State} {crane : Bool} {v b : HeadIx} {g : SegIx} {u : List (HeadIx × Int)}
    (h : positionTarget s crane v g u = some b) : eligible s crane v b = true := by
  have hmem : b ∈ (List.finRange 12).filter fun t => eligible s crane v t && (s.head t).record.covers g := by
    unfold positionTarget at h
    dsimp only at h
    split at h
    next p hp =>
      obtain rfl := Option.some.inj h
      simpa using (List.mem_filter.mp (best_mem hp)).2
    · exact List.mem_of_mem_head? h
  have := (List.mem_filter.mp hmem).2
  simp only [Bool.and_eq_true] at this
  exact this.1

/-! ## Link states after the head queues are used -/

section Links
variable (s : State) (h k : HeadIx)

theorem modHead_link {f : Head → Head} (hf : (f (s.head h)).link = (s.head h).link) :
    ((s.modHead h f).head k).link = (s.head k).link := by
  rw [State.head_modHead]
  split
  next e => rw [hf, e]
  · rfl

@[simp] theorem offerCtl_link (f : CtlFrame) : ((offerCtl h f s).head k).link = (s.head k).link := by
  unfold offerCtl
  (repeat' split) <;> exact modHead_link s h k rfl

@[simp] theorem offerSetpoint_link (v : Nat) : ((offerSetpoint h v s).head k).link = (s.head k).link := by
  rw [offerSetpoint, State.head_congr (State.modLoop_heads ..), offerCtl_link]

end Links

/-! ## Notices, replies and queues -/

theorem raise_changes (k : NoticeKind) (u : Nat) (d : BitVec 16) (s : State) : Changes s (raise k u d s) := by
  unfold raise
  dsimp only
  split
  · exact (Changes.of (.mgmt _ rfl)).tail (.notice _)
  · exact (Changes.of (.mgmt _ rfl)).tail (.mgmt _ rfl)

theorem answer_changes {a : Asker} {s : State} (hq : a.own = true → s.trunk.replyQ.length < 8) (st : Status)
    (d : ReplyData) : Changes s (answer a st d s) := by
  unfold answer
  split
  next ho => exact .of (.reply _ (hq ho))
  · exact .rfl

/-- An answer after a chain of changes. -/
theorem answered {a : Asker} {s t : State} {st : Status} {d : ReplyData} (h : Changes s t)
    (hq : a.own = true → t.trunk.replyQ.length < 8) : Changes s (answer a st d t) :=
  h.trans (answer_changes hq st d)

theorem countHead_changes (h : HeadIx) (f : HeadCounters → HeadCounters) (s : State) : Changes s (s.countHead h f) :=
  .of (.headView h _ rfl)

theorem countReef_changes (f : ReeferCounters → ReeferCounters) (s : State) : Changes s (s.countReef f) :=
  .of (.reef _ rfl)

theorem offerHead_changes (crane : Bool) (h : HeadIx) (f : BerthFrame) (s : State) :
    Changes s (offerHead crane h f s) := by
  unfold offerHead
  split
  · exact .of (.headCrane h f)
  · exact .of (.headNormal h f)

/-! ## The Handover Engine -/

section Handover
variable {s : State} {i : SlotIx} {t : Term}

/-- An entry given a handover state and other handover values. -/
theorem setTerm_changes (ht : s.term i = some t) {t' : Term} (hm : HoMove s t t'.ho)
    (hn : t'.number = t.number := by rfl) (hp : t'.part = t.part := by rfl) (hg : t'.segment = t.segment := by rfl) :
    Changes s (s.setTerm i (some t')) :=
  .of (.term i t t' ht hn hp hg hm)

theorem departEntry_changes (d : HeadIx) (warm : Bool) (s : State) (i : SlotIx) :
    Changes s (departEntry d warm s i) := by
  have horphan (t : Term) (ht : s.term i = some t) : Changes s (orphanEntry i t s) :=
    (setTerm_changes ht (t' := t.orphaned) .orphan).tail (.countHo _)
  unfold departEntry
  split
  · exact .rfl
  next t ht =>
    split
    · exact .rfl
    · split
      · exact horphan t ht
      · exact .rfl
    next v c hho =>
      split
      · split
        · exact .rfl
        · exact horphan t ht
      · split
        · exact setTerm_changes ht (.settle (by simp [hho, Handover.serving]))
        · exact .rfl
    next v c x hho =>
      split
      · exact ((setTerm_changes ht (t' := t.movedTo c s.params.holdoff)
          (.arrive (by simp [hho, Handover.candidate]))).tail (.countHo _)).trans (raise_changes ..)
      · split
        · exact ((setTerm_changes ht (t' := t.revertedTo v s.params.holdoff)
            (.settle (by simp [hho, Handover.serving]))).tail (.countHo _)).trans (raise_changes ..)
        · exact .rfl

theorem departure_changes (d : HeadIx) (warm : Bool) (s : State) : Changes s (departure d warm s) :=
  .foldl (departEntry_changes d warm) _ s

theorem strayFrame_changes (ht : s.term i = some t) {g old : HeadIx} (hr : s.running = true) (hg : s.isUp g = true) :
    Changes s (strayFrame i t g old s) := by
  unfold strayFrame
  split
  · exact ((setTerm_changes ht (t' := t.movedTo g s.params.holdoff) (.anchor hr hg)).tail (.countHo _)).trans
      (raise_changes ..)
  · exact setTerm_changes ht .keep

theorem judgeHead_changes {h : HeadIx} (hr : s.running = true) (hh : s.isUp h = true) :
    Changes s (judgeHead i h s) := by
  unfold judgeHead
  split
  · exact .rfl
  next t ht =>
    split
    · exact (setTerm_changes ht (.anchor hr hh)).tail (.countHo _)
    · split
      · exact setTerm_changes ht .keep
      · exact strayFrame_changes ht hr hh
    · split
      · exact setTerm_changes ht .keep
      · exact strayFrame_changes ht hr hh
    next v c x hho =>
      split
      · exact setTerm_changes ht .keep
      · split
        · exact (setTerm_changes ht (t' := t.movedTo c s.params.holdoff)
            (.arrive (by simp [hho, Handover.candidate]))).tail (.countHo _)
        · exact strayFrame_changes ht hr hh

theorem storeLsq_changes (u : List (HeadIx × Int)) (s : State) : Changes s (storeLsq i u s) := by
  unfold storeLsq
  split
  · exact .rfl
  next t ht =>
    split
    · exact .rfl
    · split
      · exact setTerm_changes ht .keep
      · exact .rfl

theorem executeHandover_changes (ht : s.term i = some t) {v target : HeadIx} (hv : t.ho.serving = some v)
    (he : s.isUp target = true ∧ target ≠ v) (u : List (HeadIx × Int)) :
    Changes s (executeHandover i t v target u s) := by
  have hctl : Changes s (offerCtl v (.order t.number target) s) := .of (.ctl v _ rfl)
  have ht' : (offerCtl v (.order t.number target) s).term i = some t := by
    rw [State.term_congr (offerCtl_terms ..), ht]
  have hup : (offerCtl v (.order t.number target) s).isUp target = true := by
    rw [State.isUp, offerCtl_link]
    exact he.1
  unfold executeHandover
  dsimp only
  split
  · split
    next hc => exact (hctl.trans (setTerm_changes ht' (.bicast hv hup he.2 hc))).tail (.countHo _)
    · exact (hctl.trans (setTerm_changes ht' (.move hv hup))).tail (.countHo _)
  · exact hctl

/-- What the probing table of R85 makes of an entry served by v, where b is eligible. -/
theorem probed_ho {v : HeadIx} (hv : t.ho.serving = some v) {b : Option HeadIx}
    (hb : ∀ c, b = some c → s.isUp c = true ∧ c ≠ v) (n : Nat) :
    HoMove s t (t.probed v t.ho.candidate b n).ho ∧
    ∀ w c, (t.probed v t.ho.candidate b n).ho = .probing w c → w = v ∧ b = some c := by
  unfold Term.probed
  split
  next hc =>
    refine ⟨.keep, fun w c hw => ?_⟩
    simp [hw, Handover.candidate] at hc
  next hc => exact ⟨.settle hv, fun w c hw => by cases hw⟩
  next b hc =>
    obtain ⟨hu, hne⟩ := hb b rfl
    exact ⟨.probe hv hu hne, fun w c hw => by cases hw; exact ⟨rfl, rfl⟩⟩
  next b c hc =>
    obtain ⟨hu, hne⟩ := hb b rfl
    split
    next e =>
      refine ⟨.keep, fun w d hw => ?_⟩
      have hw : t.ho = .probing w d := hw
      simp only [hw, Handover.candidate, Handover.serving, Option.some.injEq] at hc hv
      exact ⟨hv, by rw [e, hc]⟩
    · exact ⟨.probe hv hu hne, fun w c hw => by cases hw; exact ⟨rfl, rfl⟩⟩

theorem probed_keeps (t : Term) (v : HeadIx) (c b : Option HeadIx) (n : Nat) :
    (t.probed v c b n).number = t.number ∧ (t.probed v c b n).part = t.part ∧
    (t.probed v c b n).segment = t.segment := by
  unfold Term.probed
  (repeat' split) <;> exact ⟨rfl, rfl, rfl⟩

theorem qualityTrigger_changes (ht : s.term i = some t) {v : HeadIx} (hv : t.ho.serving = some v)
    (u : List (HeadIx × Int)) : Changes s (qualityTrigger i t v u s) := by
  unfold qualityTrigger
  have hb (c : HeadIx) (hc : qualityTarget s t.isCrane v t.lsq u = some c) : s.isUp c = true ∧ c ≠ v :=
    eligible_iff (qualityTarget_eligible hc)
  obtain ⟨hm, hpr⟩ := probed_ho (s := s) hv hb s.params.probeLimit
  obtain ⟨hn, hp, hg⟩ := probed_keeps t v t.ho.candidate (qualityTarget s t.isCrane v t.lsq u) s.params.probeLimit
  generalize t.probed v t.ho.candidate (qualityTarget s t.isCrane v t.lsq u) s.params.probeLimit = t' at *
  have hset : Changes s (s.setTerm i (some t')) := setTerm_changes ht hm hn hp hg
  dsimp only
  split
  next w c hho =>
    split
    · obtain ⟨rfl, hc⟩ := hpr w c hho
      obtain ⟨hu, hne⟩ := hb c hc
      exact hset.trans (executeHandover_changes (State.term_setTerm_self ..) (by simp [hho, Handover.serving])
        ⟨hu, hne⟩ u)
    · exact hset
  all_goals exact hset

theorem positionTrigger_changes (ht : s.term i = some t) {v : HeadIx} (hv : t.ho.serving = some v) (g : SegIx)
    (u : List (HeadIx × Int)) : Changes s (positionTrigger i t v g u s) := by
  unfold positionTrigger
  split
  next target he => exact executeHandover_changes ht hv (eligible_iff (positionTarget_eligible he)) u
  · exact .of (.countHo _)

theorem evaluateServed_changes (ht : s.term i = some t) {v : HeadIx} (hv : t.ho.serving = some v)
    (u : List (HeadIx × Int)) : Changes s (evaluateServed i t v u s) := by
  unfold evaluateServed
  split
  · exact setTerm_changes ht .keep
  · split
    · split
      · exact qualityTrigger_changes ht hv u
      · exact positionTrigger_changes ht hv _ u
    · exact qualityTrigger_changes ht hv u

theorem evaluate_changes (i : SlotIx) (u : List (HeadIx × Int)) (s : State) : Changes s (evaluate i u s) := by
  unfold evaluate
  split
  · exact .rfl
  next t ht =>
    split
    next v hho => exact evaluateServed_changes ht (by simp [hho, Handover.serving]) u
    next v c hho => exact evaluateServed_changes ht (by simp [hho, Handover.serving]) u
    all_goals exact .rfl

theorem engineReport_changes (i : SlotIx) (r : Sorted) (s : State) : Changes s (engineReport i r s) :=
  ((Changes.of (.countHo _)).trans (storeLsq_changes ..)).trans (evaluate_changes ..)

theorem bicastExpiry_changes (i : SlotIx) (s : State) : Changes s (bicastExpiry i s) := by
  unfold bicastExpiry
  split
  · exact .rfl
  next t ht =>
    split
    next v c d hho =>
      split
      · exact ((setTerm_changes ht (t' := t.revertedTo v s.params.holdoff)
          (.settle (by simp [hho, Handover.serving]))).tail (.countHo _)).trans (raise_changes ..)
      · exact .rfl
    all_goals exact .rfl

end Handover

/-! ## Cranes -/

section Cranes
variable {s : State} {i : SlotIx} {t : Term}

theorem craneActivity_changes (hr : s.running = true) (h : HeadIx) : Changes s (craneActivity i h s) := by
  unfold craneActivity
  split
  · exact .rfl
  next t ht =>
    split
    next c hc =>
      have live : Changes s (s.setTerm i
          (some { t with part := .crane { c with link := .live (s.uptime + s.params.craneWatchdog) } })) :=
        .of (.cranePart i t c _ ht hc (by simp [hr]))
      dsimp only
      split
      · exact live
      · exact live
      · exact (live.tail (.countCrane _)).trans (raise_changes ..)
      · exact .rfl
    all_goals exact .rfl

theorem craneLost_changes {c : CranePart} {d : Nat} (ht : s.term i = some t) (hc : t.part = .crane c)
    (hl : c.link = .live d) : Changes s (craneLost i t c s) := by
  unfold craneLost
  have lost : Changes s (s.setTerm i (some { t with part := .crane { c.invalidated with link := .lost } })) :=
    .of (.cranePart i t c _ ht hc (by simp [hl, CraneLink.quiet]))
  dsimp only
  split
  · exact ((lost.tail (.countCrane _)).trans (raise_changes ..)).tail (.ctl _ _ rfl)
  · exact (lost.tail (.countCrane _)).trans (raise_changes ..)

theorem watchdogExpiry_changes (i : SlotIx) (s : State) : Changes s (watchdogExpiry i s) := by
  unfold watchdogExpiry
  split
  · exact .rfl
  next t ht =>
    split
    next c hc =>
      split
      next d hl =>
        split
        · exact craneLost_changes ht hc hl
        · exact .rfl
      all_goals exact .rfl
    all_goals exact .rfl

theorem windowStep_link (c : CranePart) (q : BitVec 16) : (windowStep c q).2.link = c.link := by
  unfold windowStep
  dsimp only
  (repeat' split) <;> rfl

theorem craneListed_changes (ht : s.term i = some t) (hr : s.running = true) {h : HeadIx} (hh : s.isUp h = true)
    (f : BerthFrame) : Changes s (craneListed h f i t s) := by
  unfold craneListed
  split
  next c hc =>
    dsimp only
    have window : Changes s (s.setTerm i (some { t with part := .crane (windowStep c f.seq).2 })) :=
      .of (.cranePart i t c _ ht hc (by rw [windowStep_link]; exact fun _ h => h))
    have active := (window.tail (.countCrane _)).trans
      (craneActivity_changes (i := i) (s := countDecision (windowStep c f.seq).1
        (s.setTerm i (some { t with part := .crane (windowStep c f.seq).2 }))) (by simpa [State.running] using hr) h)
    split
    · exact (active.trans (judgeHead_changes (by simpa [State.running] using hr)
        (by simpa [State.isUp, State.head] using hh))).tail (.trunkCrane _ (by simpa [State.running] using hr))
    · exact active
    · exact active
  all_goals exact .of (.countCls _)

theorem userListed_changes (hr : s.running = true) {h : HeadIx} (hh : s.isUp h = true) (f : BerthFrame) :
    Changes s (userListed h f i t s) :=
  ((craneActivity_changes hr h).trans (judgeHead_changes (by simpa [State.running] using hr)
    (by simpa [State.isUp, State.head] using hh))).tail (.trunkNormal _ (by simpa [State.running] using hr))

theorem craneDormantBody_changes {a : Asker} (hq : a.own = true → s.trunk.replyQ.length < 8)
    (p : Option CraneDormantP) : Changes s (craneDormantBody p a s) := by
  unfold craneDormantBody
  split
  · exact answer_changes hq ..
  · split
    next i on _ _ =>
      split
      · exact answer_changes hq ..
      next t ht =>
        split
        next c hc =>
          have hpark : (c.parked on).link.quiet = true := by cases on <;> rfl
          exact answered (.of (.cranePart i t c _ ht hc fun _ _ => hpark)) hq
        all_goals exact answer_changes hq ..
    · exact answer_changes hq ..

end Cranes

end Sys2Proof.Machine
end

section
/-! The operations of the blocks as chains of changes: reefers and the Export Unit, coverage, the loop. -/

namespace Sys2Proof.Machine
open Sys2Proof

/-! ## What the steps of record processing leave of an entry -/

section Steps
variable (c : Band) (b : RecordBody) (r : Reefer) (d : Nat)

theorem Reefer.heard_keeps : (r.heard b).tag = r.tag ∧ (r.heard b).gateway = r.gateway ∧
    (r.heard b).pending = r.pending ∧ (r.heard b).setpoint = r.setpoint ∧
    ((r.heard b).state = .alarm → r.state = .alarm) := by
  unfold Reefer.heard
  split
  · exact ⟨rfl, rfl, rfl, rfl, fun h => by cases h⟩
  all_goals split <;> simp_all

theorem Reefer.stored_keeps : (r.stored b).tag = r.tag ∧ (r.stored b).gateway = r.gateway ∧
    (r.stored b).pending = r.pending ∧ (r.stored b).state = r.state ∧
    (r.setpoint.isSome = true → (r.stored b).setpoint.isSome = true) := by
  unfold Reefer.stored
  split
  · refine ⟨rfl, rfl, rfl, rfl, fun h => ?_⟩
    dsimp only
    unfold storeSetpoint
    split
    · rfl
    · exact h
  all_goals exact ⟨rfl, rfl, rfl, rfl, id⟩

/-- The band evaluation enters ALARM only with a setpoint (R135). -/
theorem Reefer.evaluated_keeps : (r.evaluated c b).tag = r.tag ∧ (r.evaluated c b).gateway = r.gateway ∧
    (r.evaluated c b).pending = r.pending ∧ (r.evaluated c b).setpoint = r.setpoint ∧
    ((r.evaluated c b).state = .alarm → r.state = .alarm ∨ r.setpoint.isSome = true) := by
  have judged (sp su : Int) (hsp : r.setpoint = some sp) : (r.judged c sp su).tag = r.tag ∧
      (r.judged c sp su).gateway = r.gateway ∧ (r.judged c sp su).pending = r.pending ∧
      (r.judged c sp su).setpoint = r.setpoint ∧
      ((r.judged c sp su).state = .alarm → r.state = .alarm ∨ r.setpoint.isSome = true) := by
    unfold Reefer.judged
    split <;> exact ⟨rfl, rfl, rfl, rfl, fun _ => .inr (by simp [hsp])⟩
  have same : r.tag = r.tag ∧ r.gateway = r.gateway ∧ r.pending = r.pending ∧ r.setpoint = r.setpoint ∧
      (r.state = .alarm → r.state = .alarm ∨ r.setpoint.isSome = true) := ⟨rfl, rfl, rfl, rfl, .inl⟩
  unfold Reefer.evaluated
  split
  · exact same
  · exact same
  all_goals
    split
    next sp su hsp _ =>
      split
      · exact same
      · exact judged sp su hsp
    · exact same

theorem Reefer.processed_keeps : (r.processed c b).tag = r.tag ∧ (r.processed c b).gateway = r.gateway ∧
    (r.processed c b).pending = r.pending ∧
    ((r.state = .alarm → r.setpoint.isSome = true) →
      (r.processed c b).state = .alarm → (r.processed c b).setpoint.isSome = true) := by
  obtain ⟨ht1, hg1, hp1, hsp1, ha1⟩ := r.heard_keeps b
  obtain ⟨ht2, hg2, hp2, hs2, hsp2⟩ := (r.heard b).stored_keeps b
  obtain ⟨ht3, hg3, hp3, hsp3, ha3⟩ := ((r.heard b).stored b).evaluated_keeps c b
  refine ⟨by rw [processed, ht3, ht2, ht1], by rw [processed, hg3, hg2, hg1], by rw [processed, hp3, hp2, hp1], ?_⟩
  intro h hal
  rw [processed, hsp3]
  rcases ha3 hal with ha | hsome
  · rw [hs2] at ha
    exact hsp2 (by rw [hsp1]; exact h (ha1 ha))
  · exact hsome

theorem Reefer.armed_silence (h : (r.armed d).silence.isSome = true) : isHeard (r.armed d).state = true := by
  by_contra hs
  have hs : isHeard r.state = false := by simpa [armed] using hs
  simp [armed, hs] at h

end Steps

/-! ## Reefers and the Export Unit -/

/-- A slot holds a gateway. -/
def GatewayAt (s : State) (g : SlotIx) : Prop := ∃ t st n, s.term g = some t ∧ t.part = .gateway st n

theorem GatewayAt.congr {s u : State} {g : SlotIx} (h : u.terms = s.terms) (hs : GatewayAt s g) : GatewayAt u g := by
  simpa only [GatewayAt, State.term_congr h] using hs

theorem bumpReefers_gatewayAt {s : State} {g : SlotIx} (o : Option SlotIx) (f : Nat → Nat) (h : GatewayAt s g) :
    GatewayAt (bumpReefers o f s) g := by
  unfold bumpReefers
  split
  · exact h
  next i =>
    split
    · exact h
    next t ht =>
      split
      next st n hp =>
        obtain ⟨u, su, m, hu, hup⟩ := h
        unfold GatewayAt
        rw [State.term_setTerm]
        split
        · exact ⟨_, _, _, rfl, rfl⟩
        · exact ⟨u, su, m, hu, hup⟩
      all_goals exact h

theorem moveReefer_gatewayAt {s : State} {g : SlotIx} (o : Option SlotIx) (k : SlotIx) (h : GatewayAt s g) :
    GatewayAt (moveReefer o k s) g := by
  unfold moveReefer
  split
  · exact h
  · exact bumpReefers_gatewayAt _ _ (bumpReefers_gatewayAt _ _ h)

theorem State.running_congr {s t : State} (h : t.part = s.part) : t.running = s.running := by
  rw [State.running, State.running, h]

section Reefers
variable {s : State} {i : ReeferIx} {r : Reefer}

theorem offerExport_changes (i : ReeferIx) (before : ReeferState) (s : State) :
    Changes s (offerExport i before s) := by
  unfold offerExport
  split
  · exact .rfl
  next r hr =>
    split
    · exact .of (.join i r _ hr)
    · exact .rfl

theorem bandNotice_changes (tag : Nat) (b a : Reefer) (s : State) : Changes s (bandNotice tag b a s) := by
  unfold bandNotice
  dsimp only
  split
  · exact (countReef_changes ..).trans (raise_changes ..)
  · split
    · exact raise_changes ..
    · exact .rfl

theorem processRecord_changes (hr : s.reefer i = some r) (hrun : s.running = true) {g : SlotIx} (hg : GatewayAt s g)
    (gno : TermNo) (seg : Option SegIx) (b : RecordBody) : Changes s (processRecord g gno seg i r b s) := by
  unfold processRecord
  dsimp only
  have hpl := Reefer.processed_keeps (look s.reef.bands r.cls) b
    { r with gateway := some g, segment := seg, lastHeard := s.uptime }
  generalize Reefer.processed (look s.reef.bands r.cls) b
    { r with gateway := some g, segment := seg, lastHeard := s.uptime } = done at *
  obtain ⟨ht, hgw, hp, ha⟩ := hpl
  have placed : Changes s ((moveReefer r.gateway g s).setReefer i
      (some (done.armed (s.uptime + s.reeferTimeout)))) :=
    .of (.place i r _ g hr hrun hg ht hgw hp ha (Reefer.armed_silence _ _))
  refine Changes.trans ?_ (offerExport_changes ..)
  refine Changes.trans ?_ (bandNotice_changes ..)
  split
  · exact (placed.trans (countReef_changes ..)).trans (raise_changes ..)
  · exact placed.trans (countReef_changes ..)

theorem processRecord_gatewayAt {g k : SlotIx} (hk : GatewayAt s k) (gno : TermNo) (seg : Option SegIx)
    (b : RecordBody) : GatewayAt (processRecord g gno seg i r b s) k := by
  unfold processRecord
  dsimp only
  refine GatewayAt.congr (s := moveReefer r.gateway g s) ?_ (moveReefer_gatewayAt _ _ hk)
  rw [offerExport_terms, bandNotice_terms]
  split <;> simp

theorem unknownTag_changes (hrun : s.running = true) {g : SlotIx} (hg : GatewayAt s g) (gno : TermNo)
    (seg : Option SegIx) (rec : BatchRecord) (ht : 1 ≤ rec.tag ∧ rec.tag ≤ 1048575) (hf : s.findTag rec.tag = none) :
    Changes s (unknownTag g gno seg rec s) := by
  unfold unknownTag
  split
  · split
    next i hi =>
      dsimp only
      have learned : Changes s (s.setReefer i (some (newReefer rec.tag 0 s.uptime))) :=
        .of (.learn i rec.tag 0 (State.freeReeferIx_eq_some hi) ht hf)
      refine (learned.trans (countReef_changes ..)).trans (processRecord_changes ?_ ?_ ?_ ..)
      · exact State.reefer_setReefer_self ..
      · exact (State.running_congr (by simp)).trans hrun
      · exact hg.congr (by simp)
    · split
      · exact countReef_changes ..
      · exact ((countReef_changes ..).tail (.reef _ rfl)).trans (raise_changes ..)
  · exact countReef_changes ..

theorem unknownTag_gatewayAt {g k : SlotIx} (hk : GatewayAt s k) (gno : TermNo) (seg : Option SegIx)
    (rec : BatchRecord) : GatewayAt (unknownTag g gno seg rec s) k := by
  unfold unknownTag
  split
  · split
    · exact processRecord_gatewayAt (hk.congr (by simp)) ..
    · dsimp only
      split <;> exact hk.congr (by simp)
  · exact hk.congr (by simp)

theorem handleRecord_gatewayAt {g k : SlotIx} (hk : GatewayAt s k) (gno : TermNo) (seg : Option SegIx)
    (rec : BatchRecord) : GatewayAt (handleRecord g gno seg s rec) k := by
  unfold handleRecord
  split
  · exact hk.congr rfl
  · split
    · exact processRecord_gatewayAt hk ..
    · exact unknownTag_gatewayAt hk ..

theorem handleRecord_changes (hrun : s.running = true) {g : SlotIx} (hg : GatewayAt s g) (gno : TermNo)
    (seg : Option SegIx) (rec : BatchRecord) : Changes s (handleRecord g gno seg s rec) := by
  unfold handleRecord
  split
  · exact countReef_changes ..
  next ht =>
    split
    next i r hf => exact processRecord_changes (State.findTag_eq_some hf).1 hrun hg ..
    next hf => exact unknownTag_changes hrun hg gno seg rec (by omega) hf

theorem handleRecords_changes (hrun : s.running = true) {g : SlotIx} (hg : GatewayAt s g) (gno : TermNo)
    (seg : Option SegIx) (recs : List BatchRecord) : Changes s (recs.foldl (handleRecord g gno seg) s) := by
  induction recs generalizing s with
  | nil => exact .rfl
  | cons rec recs ih =>
    exact (handleRecord_changes hrun hg gno seg rec).trans
      (ih ((State.running_congr (handleRecord_part ..)).trans hrun) (handleRecord_gatewayAt hg gno seg rec))

theorem batchListed_changes {i : SlotIx} {t : Term} (ht : s.term i = some t) (hrun : s.running = true)
    (payload : List Byte) : Changes s (batchListed payload i t s) := by
  unfold batchListed
  split
  next st n hp =>
    dsimp only
    have heard : Changes s (s.setTerm i (some { t with
        part := .gateway (.reporting s.uptime (some (s.uptime + s.params.gatewaySilence * 1000))) n })) :=
      .of (.gatewayState i t st _ n ht hp (by simp [hrun]))
    have hgw : Changes s (gatewayHeard i t st n s) := by
      unfold gatewayHeard
      dsimp only
      split
      · exact heard
      · exact heard
      · exact heard.trans (raise_changes ..)
    have hat : GatewayAt (gatewayHeard i t st n s) i := by
      unfold gatewayHeard GatewayAt
      dsimp only
      split <;> simp [State.term]
    have hcount (f : ReeferCounters → ReeferCounters) :
        Changes ((gatewayHeard i t st n s).countReef f) ((readRecords 30 payload).1.foldl
          (handleRecord i t.number t.segment) ((gatewayHeard i t st n s).countReef f)) :=
      handleRecords_changes ((State.running_congr (by simp)).trans hrun) (hat.congr (by simp)) ..
    refine ((hgw.trans (countReef_changes (fun c => { c with batches := inc c.batches }) _)).trans (hcount _)).trans ?_
    unfold countEnd
    split
    · exact .rfl
    · exact countReef_changes ..
    · exact countReef_changes ..
  all_goals exact countReef_changes ..

theorem gatewayExpiry_changes (i : SlotIx) (s : State) : Changes s (gatewayExpiry i s) := by
  unfold gatewayExpiry
  split
  · exact .rfl
  next t ht =>
    split
    next b d n hp =>
      split
      · exact ((Changes.of (.gatewayState i t _ (.silent b) n ht hp fun _ _ => rfl)).trans
          (countReef_changes _ _)).trans (raise_changes ..)
      · exact .rfl
    · exact .rfl

theorem reeferExpiry_changes (i : ReeferIx) (s : State) : Changes s (reeferExpiry i s) := by
  unfold reeferExpiry
  split
  · exact .rfl
  next r hr =>
    split
    next hd =>
      simp only [Bool.and_eq_true] at hd
      obtain ⟨hh, hd⟩ := hd
      have hsome : r.silence.isSome = true := by cases h : r.silence <;> simp_all [due]
      split
      · exact .of (.reefer i r _ hr rfl rfl rfl id rfl fun _ => ⟨hsome, hh⟩)
      · have silent : Changes s (s.setReefer i (some { r with state := .silent, silence := none })) :=
          .of (.reefer i r _ hr rfl rfl rfl (by simp) rfl (by simp))
        exact ((silent.trans (countReef_changes _ _)).trans (raise_changes ..)).trans (offerExport_changes ..)
    · exact .rfl

theorem flushExpiry_changes (s : State) : Changes s (flushExpiry s) := by
  by_cases hd : due s.exp.deadline s.uptime = true
  · exact .of (.flushDue hd)
  · rw [flushExpiry, if_neg (by simp [hd])]

theorem purgeVisit_changes (s : State) : Changes s (purgeVisit s) := by
  unfold purgeVisit
  split
  · exact .rfl
  next p hp =>
    have visit : Changes s (visitEntry p s).1 := by
      unfold visitEntry
      split
      next r hr =>
        split
        · exact Changes.trans (.of (.free _ r hr)) (countReef_changes (fun c => { c with purged := inc c.purged }) _)
        · exact .rfl
      · exact .rfl
    dsimp only
    split
    · exact visit.tail (.reef _ rfl)
    · refine visit.trans ?_
      unfold endPurge
      dsimp only
      split
      · split
        next hq => exact (Changes.of (.reef _ rfl)).tail (.reply _ hq)
        · exact (Changes.of (.reef _ rfl)).trans (countReef_changes ..)
      · exact Changes.of (.reef _ rfl)

end Reefers

/-! ## Coverage -/

section Coverage
variable (s : State)

theorem admitSample_changes (b : Bool) (h : HeadIx) (g : SegIx) (q : Int) : Changes s (admitSample b h g q s) := by
  unfold admitSample
  dsimp only
  split
  · split
    · exact (Changes.of (.cov _ (.inl rfl))).tail (.cov _ (.inl rfl))
    · exact .of (.cov _ (.inl rfl))
  · exact .of (.cov _ (.inl rfl))

theorem sampleEntry_changes (g : SegIx) (p : HeadIx × Int) : Changes s (sampleEntry g s p) := by
  unfold sampleEntry
  split
  · exact admitSample_changes ..
  · exact .of (.cov _ (.inl rfl))

theorem reportSamples_changes (i : SlotIx) (u : List (HeadIx × Int)) : Changes s (reportSamples i u s) := by
  unfold reportSamples
  split
  · split
    · exact .foldl (fun s p => sampleEntry_changes s _ p) u s
    · exact .rfl
  · exact .rfl

theorem penaltySamples_changes (h : HeadIx) (g : SegIx) (n : Nat) : Changes s (penaltySamples h g n s) := by
  induction n generalizing s with
  | zero => exact .rfl
  | succ n ih => exact (admitSample_changes ..).trans (ih _)

theorem penaltyEntry_changes (i : SlotIx) : Changes s (penaltyEntry s i) := by
  unfold penaltyEntry
  split
  · exact .rfl
  · split
    · split
      · split
        · split
          · exact (penaltySamples_changes ..).tail (.cov _ (.inl rfl))
          · exact .of (.cov _ (.inl rfl))
        · exact .rfl
      · exact .rfl
    · exact .rfl

theorem penalty_changes : Changes s (penalty s) := by
  unfold penalty
  split
  · exact .foldl penaltyEntry_changes _ s
  · exact .rfl

theorem admitSample_deadline (b : Bool) (h : HeadIx) (g : SegIx) (q : Int) :
    (admitSample b h g q s).cov.deadline = s.cov.deadline := by
  unfold admitSample
  dsimp only
  (repeat' split) <;> rfl

theorem penaltySamples_deadline (h : HeadIx) (g : SegIx) (n : Nat) :
    (penaltySamples h g n s).cov.deadline = s.cov.deadline := by
  induction n generalizing s with
  | zero => rfl
  | succ n ih => rw [penaltySamples, ih, admitSample_deadline]

theorem penaltyEntry_deadline (i : SlotIx) : (penaltyEntry s i).cov.deadline = s.cov.deadline := by
  unfold penaltyEntry
  (repeat' split) <;> first | rfl | exact penaltySamples_deadline ..

theorem penalty_deadline : (penalty s).cov.deadline = s.cov.deadline := by
  unfold penalty
  split
  · exact foldl_keeps (fun s => s.cov.deadline) penaltyEntry penaltyEntry_deadline _ s
  · rfl

end Coverage

/-! ## The loop -/

section Loop
variable {s : State}

theorem offerOutput_changes (h : HeadIx) (s : State) : Changes s (offerOutput h s) :=
  .of (.setpoint h _ fun hg => if_pos hg)

theorem State.modLoop_congr {h : HeadIx} {f g : LoopState → LoopState} (e : f (s.loop h) = g (s.loop h)) :
    s.modLoop h f = s.modLoop h g := by
  have e' : f (look s.loops h) = g (look s.loops h) := e
  simp [State.modLoop, e']

theorem statusOf_ne_guarded (q target : Int) (u p m : Nat) : statusOf q target u p m ≠ .guarded := by
  unfold statusOf
  (repeat' split) <;> simp

theorem setStatus_changes (h : HeadIx) (q target e : Int) (s : State) : Changes s (setStatus h q target e s) := by
  unfold setStatus
  dsimp only
  split
  · exact .rfl
  next hg =>
    have status : Changes s (s.modLoop h fun l =>
        { l with status := statusOf q target (s.loop h).u (s.head h).record.pMax s.params.thinMargin }) :=
      .of ((State.modLoop_congr rfl : _ = s.modLoop h _) ▸
        .loopView h _ (s.loop h).cnt (.inr ⟨by simpa using hg, statusOf_ne_guarded _ _ _ _ _⟩))
    split
    · exact status.trans (raise_changes ..)
    · exact status

theorem updateSetpoint_changes (h : HeadIx) (s : State) : Changes s (updateSetpoint h s) := by
  unfold updateSetpoint
  dsimp only
  split
  · exact .rfl
  next hn => exact .of (.setpoint h _ fun hg => absurd (.inl hg) hn)

theorem loopUpdate_changes (h : HeadIx) (s : State) : Changes s (loopUpdate h s) := by
  unfold loopUpdate
  split
  · refine .of ((State.modLoop_congr rfl : s.modLoop h _ = _) ▸ .loopView h
      (if (s.loop h).guarded then (s.loop h).status else .unmeasured)
      { (s.loop h).cnt with unmeasuredUpdates := inc (s.loop h).cnt.unmeasuredUpdates } ?_)
    cases (s.loop h).guarded <;> simp
  next q _ =>
    have he : -255 ≤ clampInt (-255) 255 (loopTarget h s - q) ∧ clampInt (-255) 255 (loopTarget h s - q) ≤ 255 := by
      rw [clampInt_eq_max_min (by omega)]
      omega
    exact ((Changes.of (.loopStep h _ he)).trans (setStatus_changes ..)).trans (updateSetpoint_changes ..)

theorem loopClose_changes (n : BitVec 8) (s : State) : Changes s (loopClose n s) := by
  unfold loopClose
  split
  · refine .foldl (fun s h => ?_) _ s
    unfold updateIfLinked
    split
    · exact loopUpdate_changes ..
    · exact loopUpdate_changes ..
    · exact .rfl
    · exact .rfl
  · exact .rfl

theorem coverageExpiry_changes (s : State) : Changes s (coverageExpiry s) := by
  unfold coverageExpiry
  split
  next hd =>
    have hsome : (penalty s).cov.deadline.isSome = true := by
      rw [penalty_deadline]
      cases h : s.cov.deadline <;> simp_all [due]
    unfold coverageClose
    dsimp only
    exact ((penalty_changes s).tail (.cov _ (.inr hsome))).trans (loopClose_changes ..)
  · exact .rfl

theorem leaveGuarded_changes (h : HeadIx) (cause : Nat) (s : State) : Changes s (leaveGuarded h cause s) := by
  unfold leaveGuarded
  exact ((Changes.of (.unguard h)).tail (.setpoint h _ (by simp))).trans (raise_changes ..)

theorem guardEval_changes (h : HeadIx) (noise : Byte) (s : State) : Changes s (guardEval h noise s) := by
  have still : Changes s (setRun h 0 s) := .of (.run h 0 (Nat.zero_le _))
  unfold guardEval
  dsimp only
  split
  · split
    · exact leaveGuarded_changes ..
    · split
      · split
        · exact still
        · split
          · exact leaveGuarded_changes ..
          next hn => exact .of (.run h _ (by omega))
      · exact still
  · split
    · exact still
    · split
      · split
        · exact (Changes.of (.guard h)).trans (raise_changes ..)
        next hn => exact .of (.run h _ (by omega))
      · exact still

end Loop

end Sys2Proof.Machine
end

section
/-! The operations of the blocks as chains of changes: heads, frames, the trunk, requests; and each command's action. -/

namespace Sys2Proof.Machine
open Sys2Proof

/-! ## Heads -/

section Heads
variable {s : State} {h : HeadIx}

theorem State.modHead_modHead (s : State) (h : HeadIx) (f g : Head → Head) :
    (s.modHead h f).modHead h g = s.modHead h fun d => g (f d) := by
  simp [State.modHead, put_put]

theorem endLoopTest_changes (h : HeadIx) (r : LoopResult) (s : State) : Changes s (endLoopTest h r s) := by
  unfold endLoopTest
  split
  · exact .rfl
  next t _ =>
    refine Changes.trans (.of (.withoutTest h)) ?_
    unfold offerLoopReply
    split
    · split
      next hq => exact .of (.reply _ hq)
      · exact countHead_changes ..
    · exact .rfl

theorem echoFrame_changes (h : HeadIx) (b : Vector Byte 16) (s : State) : Changes s (echoFrame h b s) := by
  unfold echoFrame
  split
  · split
    · exact endLoopTest_changes ..
    · exact countHead_changes ..
  · exact countHead_changes ..

theorem loopTestExpiry_changes (h : HeadIx) (s : State) : Changes s (loopTestExpiry h s) := by
  unfold loopTestExpiry
  split
  · split
    · exact endLoopTest_changes ..
    · exact .rfl
  · exact .rfl

/-- A notice raised, and a head's departure from UP or RESTARTING. -/
theorem gone_changes {next : HeadLink} {warm : Bool} (hn : GoneTo next warm) (hl : (s.head h).link ≠ .disabled)
    (k : NoticeKind) (u : Nat) (d : BitVec 16) : Changes s (headGone h next warm (raise k u d s)) :=
  (raise_changes k u d s).tail (.gone h next warm hn (by rwa [State.head_congr (raise_heads ..)]))

theorem goOffline_changes (hl : (s.head h).link ≠ .disabled) (cause : Nat) : Changes s (goOffline h cause s) :=
  gone_changes .offline hl ..

theorem evalAlarms_changes (h : HeadIx) (flags : Byte) (s : State) : Changes s (evalAlarms h flags s) := by
  unfold evalAlarms
  dsimp only
  split
  · exact .of (.headView h _ rfl)
  · exact (Changes.of (.headView h _ rfl)).trans (raise_changes ..)

theorem enterUp_changes (hl : (s.head h).link ≠ .disabled) (st : HeadStat) (tell : Bool) :
    Changes s (enterUp h st tell s) := by
  have up : Changes s (s.modHead h fun d => { d with link := .up s.silenceAt, last := some st, alarms := 0 }) := by
    rw [← State.modHead_modHead s h (fun d => { d with link := .up s.silenceAt })
      (fun d => { d with last := some st, alarms := 0 })]
    exact (Changes.of (.goesUp h _ hl)).tail (.headView h _ rfl)
  unfold enterUp
  dsimp only
  split
  · exact ((up.trans (evalAlarms_changes ..)).trans (raise_changes ..)).trans (offerOutput_changes ..)
  · exact (up.trans (evalAlarms_changes ..)).trans (raise_changes ..)

theorem headRebooted_changes (h : HeadIx) (s : State) : Changes s (headRebooted h s) := by
  unfold headRebooted
  exact (((raise_changes ..).trans (departure_changes ..)).tail (.history h)).trans (offerOutput_changes ..)

theorem last_changes (h : HeadIx) (st : HeadStat) (s : State) :
    Changes s (s.modHead h fun d => { d with last := some st }) :=
  .of (.headView h _ rfl)

theorem statusUp_changes (hl : (s.head h).link ≠ .disabled) (st : HeadStat) : Changes s (statusUp h st s) := by
  have up : Changes s (s.modHead h fun d => { d with link := .up s.silenceAt }) := .of (.goesUp h _ hl)
  unfold statusUp
  dsimp only
  split
  · exact ((up.trans (headRebooted_changes ..)).trans (last_changes ..)).trans (evalAlarms_changes ..)
  · exact (up.trans (last_changes ..)).trans (evalAlarms_changes ..)

theorem headstatFrame_changes (h : HeadIx) (st : HeadStat) (s : State) : Changes s (headstatFrame h st s) := by
  unfold headstatFrame
  split
  · exact countHead_changes ..
  next hl => exact (enterUp_changes (by simp [hl]) ..).trans (guardEval_changes ..)
  next r hl =>
    split
    · exact (last_changes ..).trans (guardEval_changes ..)
    · exact (enterUp_changes (by simp [hl]) ..).trans (guardEval_changes ..)
  next d hl => exact (statusUp_changes (by simp [hl]) ..).trans (guardEval_changes ..)

theorem linkDown_changes (h : HeadIx) (s : State) : Changes s (linkDown h s) := by
  unfold linkDown
  split
  next d hl => exact goOffline_changes (by simp [hl]) ..
  next r hl =>
    split
    · exact goOffline_changes (by simp [hl]) ..
    · exact .rfl
    · exact .rfl
  all_goals exact .rfl

theorem setEth_changes (h : HeadIx) (b : Bool) (s : State) : Changes s (setEth h b s) := .of (.headView h _ rfl)

theorem headLinkLost_changes (h : HeadIx) (s : State) : Changes s (headLinkLost h s) := by
  unfold headLinkLost outsideReset
  refine ((setEth_changes h false s).tail (.headView h (fun d => { d with tx := none }) rfl)).trans ?_
  split
  · exact Changes.rfl
  · exact linkDown_changes ..

theorem silenceExpiry_changes (h : HeadIx) (s : State) : Changes s (silenceExpiry h s) := by
  unfold silenceExpiry
  split
  next d hl =>
    split
    · exact goOffline_changes (by simp [hl]) ..
    · exact .rfl
  all_goals exact .rfl

theorem pulseEnds_changes (h : HeadIx) (s : State) : Changes s (pulseEnds h s) := by
  unfold pulseEnds
  split
  next r hl =>
    split
    · exact .of (.timer h r _ hl rfl)
    · exact .rfl
  all_goals exact .rfl

theorem blankingEnds_changes (h : HeadIx) (s : State) : Changes s (blankingEnds h s) := by
  unfold blankingEnds
  split
  next r hl =>
    split
    · split
      · exact .of (.timer h r _ hl rfl)
      · exact goOffline_changes (by simp [hl]) ..
    · exact .rfl
  all_goals exact .rfl

theorem restartExpiry_changes (h : HeadIx) (s : State) : Changes s (restartExpiry h s) := by
  unfold restartExpiry
  split
  next r hl =>
    split
    · exact gone_changes .offline (by simp [hl]) ..
    · exact .rfl
  all_goals exact .rfl

theorem egressService_changes (h : HeadIx) (s : State) : Changes s (egressService h s) := by
  unfold egressService
  split
  · exact .of (.serve h)
  · exact .rfl

end Heads

/-! ## Frames and the trunk -/

section Steering
variable {s : State}

theorem fromUpHead_changes {h : HeadIx} {f : State → State} (hf : s.isUp h = true → Changes s (f s)) :
    Changes s (fromUpHead h f s) := by
  unfold fromUpHead
  split
  next hu => exact hf hu
  · exact countHead_changes ..

theorem classify_changes {n : TermNo} {unlisted : State → State} {listed : SlotIx → Term → State → State}
    (hu : s.running = true → Changes s (unlisted s))
    (hl : ∀ i t, s.running = true → s.term i = some t → Changes s (listed i t s)) :
    Changes s (classify n unlisted listed s) := by
  unfold classify
  split
  · exact .of (.countCls _)
  next hr =>
    split
    · exact .of (.countCls _)
    · split
      · exact hu (by simpa using hr)
      next i t hi => exact hl i t (by simpa using hr) (State.lookup_eq_some hi).1

theorem measListed_changes {i : SlotIx} {t : Term} (hr : s.running = true) {h : HeadIx} (hh : s.isUp h = true)
    (b : Byte) (es : List MeasEntry) : Changes s (measListed h b es i t s) := by
  have judged : Changes s (judgeHead i h (recordSegment i b (craneActivity i h s))) := by
    refine ((craneActivity_changes hr h).tail (.segment i b)).trans (judgeHead_changes ?_ ?_)
    · exact (State.running_congr (by simp)).trans hr
    · simpa [State.isUp, State.head] using hh
  exact (judged.trans (engineReport_changes ..)).trans (reportSamples_changes ..)

theorem steerEntry_changes (crane : Bool) (f : BerthFrame) (ho : Handover) (s : State) :
    Changes s (steerEntry crane f ho s) := by
  unfold steerEntry
  split
  · exact .of (.countCls _)
  · exact offerHead_changes ..
  · exact offerHead_changes ..
  · split
    · exact (Changes.of (.headCrane _ f)).tail (.headCrane _ f)
    · exact offerHead_changes ..

theorem steer_changes (crane : Bool) (f : BerthFrame) (s : State) : Changes s (steer crane f s) := by
  unfold steer
  split
  · exact .of (.countCls _)
  · split
    · exact .of (.countCls _)
    · split
      · unfold steerForced
        split
        · split
          · exact offerHead_changes ..
          · exact .of (.countCls _)
        · exact .of (.countCls _)
      · unfold steerLookup
        split
        · exact .of (.countCls _)
        · split
          · exact .of (.countCls _)
          · exact steerEntry_changes ..

theorem grant_changes (s : State) : Changes s (grant s) := by
  unfold grant
  split
  · split
    next hq => exact .of (.grantCrane hq)
    next _ hq => exact .of (.grantNotice hq)
    next _ _ hq => exact .of (.grantReply hq)
    · unfold grantFourth
      split
      · split
        next hr => exact .of (.grantExport hr)
        · exact .rfl
      next f fs hq =>
        split
        next hr => exact .of (.grantExport hr.1)
        next hn => exact .of (.grantNormal hq hn)
  · exact .rfl

end Steering

/-! ## Requests -/

section Requests
variable {s : State} {a : Asker} (hq : a.own = true → s.trunk.replyQ.length < 8)
include hq

theorem setParamBody_changes (p : Option SetParamP) : Changes s (setParamBody p a s) := by
  unfold setParamBody
  split
  · exact answer_changes hq ..
  · split
    · exact answer_changes hq ..
    next i _ =>
      split
      · exact answer_changes hq ..
      next x hx => exact answered (.of (.param i _ x hx)) hq

theorem getParamBody_changes (p : Option (Option ParamId)) : Changes s (getParamBody p a s) := by
  unfold getParamBody
  split <;> exact answer_changes hq ..

theorem termLoadBody_changes (p : Option TermLoadP) : Changes s (termLoadBody p a s) := by
  unfold termLoadBody
  split
  · exact answer_changes hq ..
  · split
    next c i _ _ =>
      split
      · exact answer_changes hq ..
      next hb =>
        split
        · exact answer_changes hq ..
        next hi =>
          split
          · exact answer_changes hq ..
          next hl =>
            exact answered (.of (.load i _ c (by simpa using hi) (by simpa using hb) (by simpa using hl))) hq
    · exact answer_changes hq ..

omit hq in
theorem pickTerm_entry {p : Option TermSelP} {i : SlotIx} {t : Term} (h : pickTerm p s = .entry i t) :
    s.term i = some t := by
  unfold pickTerm at h
  repeat' split at h
  all_goals cases h
  · assumption
  next hl => exact (State.lookup_eq_some hl).1

theorem termRemoveBody_changes (p : Option TermSelP) : Changes s (termRemoveBody p a s) := by
  unfold termRemoveBody
  split
  · exact answer_changes hq ..
  next i t hp =>
    refine answered (.of (.remove i t (pickTerm_entry hp))) ?_
    unfold removeTerm clearReferences
    split <;> simpa using hq

theorem termReadBody_changes (p : Option TermSelP) : Changes s (termReadBody p a s) := by
  unfold termReadBody
  split <;> exact answer_changes hq ..

theorem headLoadBody_changes (p : Option HeadLoadP) : Changes s (headLoadBody p a s) := by
  unfold headLoadBody
  split
  · exact answer_changes hq ..
  next p =>
    split
    · exact answer_changes hq ..
    next h r hp => exact (answer_changes hq ..).tail (.apply h r p hp)

theorem headReadBody_changes (p : Option Byte) : Changes s (headReadBody p a s) := by
  unfold headReadBody
  split
  · exact answer_changes hq ..
  · split <;> exact answer_changes hq ..

theorem headRestartBody_changes (p : Option HeadRestartP) : Changes s (headRestartBody p a s) := by
  have started (h : HeadIx) (k : RestartKind) (hl : (s.head h).link ≠ .disabled) :
      Changes s (headGone h (.restarting (startRestart k s)) (decide (k = .warm)) (answer a .done .empty s)) :=
    (answer_changes hq ..).tail (.gone h _ _ (.restarting _) (by rwa [State.head_congr (answer_heads ..)]))
  unfold headRestartBody
  split
  · exact answer_changes hq ..
  · split
    next h k _ _ =>
      split
      · exact answer_changes hq ..
      · exact answer_changes hq ..
      next hl => exact started h k (by simp [hl])
      next hl => exact started h k (by simp [hl])
    · exact answer_changes hq ..

theorem headLooptestBody_changes (p : Option LoopTestP) : Changes s (headLooptestBody p a s) := by
  unfold headLooptestBody
  split
  · exact answer_changes hq ..
  · split
    · exact answer_changes hq ..
    · split
      · exact answer_changes hq ..
      next hu =>
        split
        · exact answer_changes hq ..
        · split
          · exact answer_changes hq ..
          next hn => exact .of (.startTest _ _ a (by simpa using hu) hn)

theorem guardReleaseBody_changes (p : Option Byte) : Changes s (guardReleaseBody p a s) := by
  have released (h : HeadIx) : a.own = true → (leaveGuarded h 2 s).trunk.replyQ.length < 8 := by
    unfold leaveGuarded raise offerNotice
    dsimp only
    (repeat' split) <;> simpa using hq
  unfold guardReleaseBody
  split
  · exact answer_changes hq ..
  · split
    · exact answer_changes hq ..
    next h _ =>
      split
      · exact (leaveGuarded_changes h 2 s).trans (answer_changes (released h) ..)
      · exact answer_changes hq ..

theorem cellReadBody_changes (p : Option CellReadP) : Changes s (cellReadBody p a s) := by
  unfold cellReadBody
  dsimp only
  (repeat' split) <;> exact answer_changes hq ..

theorem segReadBody_changes (p : Option SegReadP) : Changes s (segReadBody p a s) := by
  unfold segReadBody
  dsimp only
  (repeat' split) <;> exact answer_changes hq ..

theorem reeferRegisterBody_changes (p : Option ReeferRegP) : Changes s (reeferRegisterBody p a s) := by
  unfold reeferRegisterBody
  split
  · exact answer_changes hq ..
  · split
    · exact answer_changes hq ..
    next c _ =>
      split
      · exact answer_changes hq ..
      next ht =>
        split
        · exact answer_changes hq ..
        · split
          · exact answer_changes hq ..
          next hf =>
            split
            · exact answer_changes hq ..
            next i hi =>
              exact answered (.of (.learn i _ c (State.freeReeferIx_eq_some hi) (by omega) (by simpa using hf))) hq

omit hq in
theorem pickReefer_entry {p : Option ReeferSelP} {i : ReeferIx} {r : Reefer} (h : pickReefer p s = .entry i r) :
    s.reefer i = some r := by
  unfold pickReefer at h
  repeat' split at h
  all_goals cases h
  next hf => exact (State.findTag_eq_some hf).1
  · assumption

theorem reeferRemoveBody_changes (p : Option ReeferSelP) : Changes s (reeferRemoveBody p a s) := by
  unfold reeferRemoveBody
  split
  · exact answer_changes hq ..
  next i r hp =>
    refine answered (.of (.free i r (pickReefer_entry hp))) ?_
    unfold freeReefer removePending judgeRequest
    dsimp only
    (repeat' split) <;> simpa using hq

theorem reeferReadBody_changes (p : Option ReeferSelP) : Changes s (reeferReadBody p a s) := by
  unfold reeferReadBody
  split <;> exact answer_changes hq ..

theorem reeferPurgeBody_changes (p : Option PurgeP) : Changes s (reeferPurgeBody p a s) := by
  unfold reeferPurgeBody
  split
  · exact answer_changes hq ..
  · split
    · exact answer_changes hq ..
    · split
      · exact answer_changes hq ..
      · split
        · exact answer_changes hq ..
        · exact .of (.reef _ rfl)

theorem bandLoadBody_changes (p : Option BandP) : Changes s (bandLoadBody p a s) := by
  unfold bandLoadBody
  split
  · exact answer_changes hq ..
  · split
    · exact answer_changes hq ..
    · split
      · exact answer_changes hq ..
      · exact answered (.of (.reef _ rfl)) hq

theorem countersReadBody_changes (p : Option CountersP) : Changes s (countersReadBody p a s) := by
  unfold countersReadBody
  split
  · exact answer_changes hq ..
  · split
    next g c _ _ =>
      split
      · refine answered (.of (.clear g)) ?_
        cases g <;> simpa [clearGroup] using hq
      · exact answer_changes hq ..
    · exact answer_changes hq ..

theorem noticeMaskBody_changes (p : Option (BitVec 32)) : Changes s (noticeMaskBody p a s) := by
  unfold noticeMaskBody
  split
  · exact answer_changes hq ..
  · split
    · exact answer_changes hq ..
    · exact answered (.of (.mgmt _ rfl)) hq

theorem noticeSummary_changes (d : ReplyData) :
    Changes s (answer a .done d (s.modMgmt fun m => { m with summary := 0 })) :=
  answered (.of (.mgmt _ rfl)) hq

theorem startBody_changes : Changes s (answer a .done .empty (if s.running then s else startPart s)) := by
  split
  · exact answer_changes hq ..
  next hr =>
    refine answered (.of (.start (by simpa using hr))) ?_
    unfold startPart judgeRequest
    dsimp only
    split <;> simpa using hq

theorem stopBody_changes : Changes s (answer a .done .empty (if s.running then stopPart s else s)) := by
  split
  next hr =>
    refine answered (.of (.stop hr)) ?_
    simpa [stopPart, trunkStopped] using hq
  · exact answer_changes hq ..

omit hq in
theorem softResetBody_changes : Changes s (answer a .done .empty (softResetPart s)) :=
  answered (.of .soft) (by simp [softResetPart])

end Requests

/-! ## The action of each command -/

/-- What is left of an action to show: its chain of changes, but for the two that move the reset pin. -/
def Act.Chained : Act → Prop
  | .request _ _ body => ∀ a s, (a.own = true → s.trunk.replyQ.length < 8) → Changes s (body a s)
  | .event f => ∀ s, Changes s (f s)
  | .always f => ∀ s, Changes s (f s)

theorem act_chained {c : Instr} (hr : c ≠ .hardReset) (hl : ∀ b, c ≠ .resetRelease b) : (act c).Chained := by
  cases c with
  | hardReset => exact absurd rfl hr
  | resetRelease b => exact absurd rfl (hl b)
  | ident h => exact fun a s hq => answer_changes hq ..
  | start h => exact fun a s hq => startBody_changes hq
  | stop h => exact fun a s hq => stopBody_changes hq
  | softReset h => exact fun a s _ => softResetBody_changes
  | setParam h p => exact fun a s hq => setParamBody_changes hq p
  | getParam h p => exact fun a s hq => getParamBody_changes hq p
  | termLoad h p => exact fun a s hq => termLoadBody_changes hq p
  | termRemove h p => exact fun a s hq => termRemoveBody_changes hq p
  | termRead h p => exact fun a s hq => termReadBody_changes hq p
  | craneDormant h p => exact fun a s hq => craneDormantBody_changes hq p
  | headLoad h p => exact fun a s hq => headLoadBody_changes hq p
  | headRead h p => exact fun a s hq => headReadBody_changes hq p
  | headRestart h p => exact fun a s hq => headRestartBody_changes hq p
  | headLooptest h p => exact fun a s hq => headLooptestBody_changes hq p
  | guardRelease h p => exact fun a s hq => guardReleaseBody_changes hq p
  | cellRead h p => exact fun a s hq => cellReadBody_changes hq p
  | segRead h p => exact fun a s hq => segReadBody_changes hq p
  | reeferRegister h p => exact fun a s hq => reeferRegisterBody_changes hq p
  | reeferRemove h p => exact fun a s hq => reeferRemoveBody_changes hq p
  | reeferRead h p => exact fun a s hq => reeferReadBody_changes hq p
  | reeferPurge h p => exact fun a s hq => reeferPurgeBody_changes hq p
  | bandLoad h p => exact fun a s hq => bandLoadBody_changes hq p
  | countersRead h p => exact fun a s hq => countersReadBody_changes hq p
  | noticeMask h p => exact fun a s hq => noticeMaskBody_changes hq p
  | noticeSummary h => exact fun a s hq => noticeSummary_changes hq _
  | badRequest h code =>
    show (badRequestAct h code).Chained
    unfold badRequestAct
    split
    · exact fun a s hq => answer_changes hq ..
    · exact fun s => .rfl
  | otherNode dest =>
    intro s
    unfold otherNodeFrame
    split
    · exact .rfl
    · exact .of (.mgmt _ rfl)
  | headstat k n fl up => exact headstatFrame_changes k _
  | echo k b => exact echoFrame_changes k b
  | uplinkCrane k f => exact fun s => fromUpHead_changes fun hu => classify_changes (fun _ => .of (.countCls _)) fun i t hr ht =>
      craneListed_changes ht hr hu f
  | uplinkUser k f => exact fun s => fromUpHead_changes fun hu =>
      classify_changes (fun hr => (Changes.of (.countCls _)).tail (.trunkNormal _ hr)) fun i t hr _ =>
        userListed_changes hr hu f
  | meas k n b es => exact fun s => fromUpHead_changes fun hu => classify_changes (fun _ => .of (.countCls _)) fun i t hr _ =>
      measListed_changes hr hu b es
  | batch k n b => exact fun s => fromUpHead_changes fun _ => classify_changes (fun _ => .of (.countCls _)) fun i t hr ht =>
      batchListed_changes ht hr b
  | mgmtOnHead k => exact fun s => fromUpHead_changes fun _ => .of (.countCls _)
  | ulWrongKind k q => exact fun s => fromUpHead_changes fun _ => .of (.countCls _)
  | rxDamaged k => exact countHead_changes k _
  | downlinkCrane f => exact steer_changes true f
  | downlinkUser f => exact steer_changes false f
  | trunkWrongKind q => exact fun s => .of (.countTrunk _)
  | trunkDamaged => exact fun s => .of (.countTrunk _)
  | headLinkUp k => exact setEth_changes k true
  | headLinkDown k => exact headLinkLost_changes k
  | trunkLinkUp => exact fun s => .of (.trunkLink _ rfl)
  | trunkLinkDown => exact fun s => .of (.trunkLink _ rfl)
  | headSilenceExpiry k => exact silenceExpiry_changes k
  | pulseEnd k => exact pulseEnds_changes k
  | blankingEnd k => exact blankingEnds_changes k
  | restartDeadlineExpiry k => exact restartExpiry_changes k
  | loopTestDeadlineExpiry k => exact loopTestExpiry_changes k
  | craneWatchdogExpiry i => exact watchdogExpiry_changes i
  | bicastDeadlineExpiry i => exact bicastExpiry_changes i
  | coveragePeriodExpiry => exact coverageExpiry_changes
  | gatewaySilenceExpiry i => exact gatewayExpiry_changes i
  | reeferSilenceExpiry i => exact reeferExpiry_changes i
  | flushDeadlineExpiry => exact flushExpiry_changes
  | purgeWalkVisit => exact purgeVisit_changes
  | headEgressService k => exact egressService_changes k
  | trunkGrant => exact grant_changes

/-! ## What a step keeps, change by change -/

/-- Every command but those that move the reset pin makes a chain of changes. -/
theorem run_changes {c : Instr} (hr : c ≠ .hardReset) (hl : ∀ b, c ≠ .resetRelease b) (s : State) :
    Changes s ((act c).run s) := by
  have hc := act_chained hr hl
  refine Act.run_keeps (P := Changes s) ⟨fun t f h => h.tail (.mgmt _ rfl), fun t f h => h.tail (.countTrunk f)⟩ ?_ .rfl
  cases ha : act c with
  | request h code body =>
    rw [ha] at hc
    exact fun a t _ hq ht => ht.trans (hc a t hq)
  | event f =>
    rw [ha] at hc
    exact fun t _ ht => ht.trans (hc t)
  | always f =>
    rw [ha] at hc
    exact fun t ht => ht.trans (hc t)

/-- What a step needs to keep `P`: every change keeps it, and so do the waiting commands, the passing of time and the
reset pin. -/
structure Kept (P : State → Prop) : Prop where
  change : ∀ s t, Change s t → P s → P t
  queue : ∀ s l n, P s → P { s with pending := l, choice := n }
  time : ∀ s, P s → P { s with uptime := s.uptime + 1 }
  asserted : ∀ s, P s → P (resetAsserted s)
  released : ∀ b s, P (released b s)

theorem Kept.run {P : State → Prop} (hP : Kept P) (c : Instr) {s : State} (hs : P s) : P ((act c).run s) := by
  by_cases hr : c = .hardReset
  · subst hr
    exact hP.asserted s hs
  · by_cases hl : ∃ b, c = .resetRelease b
    · obtain ⟨b, rfl⟩ := hl
      show P (if s.inReset then Machine.released b s else s)
      split
      · exact hP.released b s
      · exact hs
    · exact (run_changes hr (fun b e => hl ⟨b, e⟩) s).keeps hP.change hs

theorem Kept.step {P : State → Prop} (hP : Kept P) {s t : State} (hs : P s) (h : step s = .next t) : P t := by
  unfold Machine.step at h
  split at h
  · cases h
    unfold idle
    split
    · exact hs
    · split
      · exact hP.time s hs
      · exact hP.queue s _ _ hs
  next c rest hc =>
    rw [exec_eq_run] at h
    cases h
    exact hP.run c (hP.queue s rest s.choice hs)

end Sys2Proof.Machine
end

section
/-! Terminal numbers, classes and segments, and the global parameters: which changes touch them, and that no step breaks
what chapter 1 and Table 10-3 say of them. -/

namespace Sys2Proof.Machine
open Sys2Proof Sys2Proof.Safety

/-! ## A departure entry by entry (Table 5-3) -/

/-- Table 5-3 for one entry: what the departure of head d leaves of it. -/
def Term.departed (d : HeadIx) (warm : Bool) (holdoff : Nat) (t : Term) : Term :=
  match t.ho with
  | .orphan => t
  | .settled v => if v = d ∧ warm = false then t.orphaned else t
  | .probing v c =>
    if v = d then if warm then t else t.orphaned
    else if c = d then { t with ho := .settled v, probe := 0 }
    else t
  | .bicast v c _ =>
    if v = d then t.movedTo c holdoff
    else if c = d then t.revertedTo v holdoff
    else t

theorem Term.departed_keeps (d : HeadIx) (warm : Bool) (n : Nat) (t : Term) :
    (t.departed d warm n).number = t.number ∧ (t.departed d warm n).part = t.part ∧
    (t.departed d warm n).segment = t.segment := by
  unfold departed
  (repeat' split) <;> exact ⟨rfl, rfl, rfl⟩

@[simp] theorem raise_params (k : NoticeKind) (u : Nat) (d : BitVec 16) (s : State) :
    (raise k u d s).mgmt.params = s.mgmt.params := by
  unfold raise
  dsimp only
  split <;> simp

@[simp] theorem raise_mask (k : NoticeKind) (u : Nat) (d : BitVec 16) (s : State) :
    (raise k u d s).mgmt.mask = s.mgmt.mask := by
  unfold raise
  dsimp only
  split <;> simp

@[simp] theorem raise_term (k : NoticeKind) (u : Nat) (d : BitVec 16) (s : State) (i : SlotIx) :
    (raise k u d s).term i = s.term i :=
  State.term_congr (raise_terms ..) i

section Departure
variable (d : HeadIx) (warm : Bool) (s : State)

@[simp] theorem departEntry_params (i : SlotIx) : (departEntry d warm s i).mgmt.params = s.mgmt.params := by
  unfold departEntry orphanEntry forceBicast loseCandidate
  (repeat' split) <;> simp

/-- Writing back what a slot holds changes nothing. -/
theorem State.put_term {s : State} {i : SlotIx} {o : Option Term} (h : s.term i = o) : put s.terms i o = s.terms := by
  rw [← h]
  exact put_look ..

/-- One entry of a departure touches its own slot alone. -/
theorem departEntry_terms {i : SlotIx} {t : Term} (ht : s.term i = some t) :
    (departEntry d warm s i).terms = put s.terms i (some (t.departed d warm s.mgmt.params.holdoff)) := by
  have same : s.terms = put s.terms i (some t) := (State.put_term ht).symm
  unfold departEntry Term.departed
  rw [ht]
  dsimp only
  cases t.ho with
  | orphan => exact same
  | settled v =>
    dsimp only
    split
    · rfl
    · exact same
  | probing v c =>
    dsimp only
    split
    · split
      · exact same
      · rfl
    · split
      · rfl
      · exact same
  | bicast v c x =>
    dsimp only
    split
    · rw [forceBicast, raise_terms]; rfl
    · split
      · rw [loseCandidate, raise_terms]; rfl
      · exact same

theorem departEntry_term (i j : SlotIx) : (departEntry d warm s i).term j =
    if j = i then (s.term i).map (Term.departed d warm s.mgmt.params.holdoff) else s.term j := by
  cases ht : s.term i with
  | none =>
    have : departEntry d warm s i = s := by rw [departEntry, ht]
    rw [this]
    split
    next e => rw [e, ht]; rfl
    · rfl
  | some t => rw [State.term, departEntry_terms d warm s ht, look_put]; rfl

theorem departEntries_term (l : List SlotIx) (hl : l.Nodup) (j : SlotIx) :
    (l.foldl (departEntry d warm) s).term j =
      if j ∈ l then (s.term j).map (Term.departed d warm s.mgmt.params.holdoff) else s.term j := by
  induction l generalizing s with
  | nil => simp
  | cons i l ih =>
    obtain ⟨hi, hl⟩ := List.nodup_cons.mp hl
    rw [List.foldl_cons, ih _ hl, departEntry_term, departEntry_params]
    by_cases hj : j = i
    · subst hj; simp [hi]
    · simp [hj]

/-- R80: every entry changes by its row of Table 5-3. -/
theorem departure_term (j : SlotIx) :
    (departure d warm s).term j = (s.term j).map (Term.departed d warm s.mgmt.params.holdoff) := by
  rw [departure, departEntries_term d warm s _ (List.nodup_finRange _), if_pos (List.mem_finRange j)]

@[simp] theorem departure_params : (departure d warm s).mgmt.params = s.mgmt.params := by
  unfold departure
  exact foldl_keeps (fun s => s.mgmt.params) (departEntry d warm) (departEntry_params d warm) _ s

end Departure

/-! ## A head gone, and a record applied -/

section Gone
variable (h : HeadIx) (next : HeadLink) (warm : Bool) (s : State)

theorem headGone_term (j : SlotIx) :
    (headGone h next warm s).term j = (s.term j).map (Term.departed h warm s.mgmt.params.holdoff) := by
  have e : (headGone h next warm s).terms = (departure h warm (s.modHead h fun d => { d with link := next })).terms := by
    unfold headGone
    dsimp only
    split <;> simp
  rw [State.term_congr e, departure_term]
  rfl

@[simp] theorem headGone_params : (headGone h next warm s).mgmt.params = s.mgmt.params := by
  unfold headGone
  dsimp only
  split <;> simp

/-- A record applied is no departure unless it disables the head. -/
theorem applyRecord_terms (r : HeadRecord) (s : State) :
    (applyRecord h r s).terms = s.terms ∨ ∃ u : State, u.terms = s.terms ∧ u.mgmt = s.mgmt ∧
      (applyRecord h r s).terms = (headGone h .disabled false u).terms := by
  have hu : (windowChange h (s.head h).record r (s.modHead h fun d => { d with record := r })).terms = s.terms ∧
      (windowChange h (s.head h).record r (s.modHead h fun d => { d with record := r })).mgmt = s.mgmt := by simp
  unfold applyRecord
  dsimp only
  split
  · split <;> exact .inl (by simp [loopEnabled, clampOffset])
  all_goals
    split
    · refine .inl ?_
      unfold loadSetpoint
      dsimp only
      (repeat' split) <;> simp [clampOffset]
    · exact .inr ⟨_, hu.1, hu.2, State.modLoop_terms ..⟩

@[simp] theorem applyRecord_params (r : HeadRecord) : (applyRecord h r s).mgmt.params = s.mgmt.params := by
  unfold applyRecord loadSetpoint
  dsimp only
  (repeat' split) <;> simp [loopEnabled, clampOffset]

@[simp] theorem applyRecord_segs (r : HeadRecord) : (applyRecord h r s).segs = s.segs := by
  unfold applyRecord loadSetpoint
  dsimp only
  (repeat' split) <;> simp [loopEnabled, clampOffset]

end Gone

/-! ## What names an entry -/

/-- What the Terminal Table says of an entry whatever the links do: its number, class and segment. -/
def Term.name (t : Term) : TermNo × TermClass × Option SegIx := (t.number, t.part.cls, t.segment)

/-- Every slot is named in both states alike. -/
structure SameNames (s t : State) : Prop where
  eq : ∀ i, (t.term i).map Term.name = (s.term i).map Term.name

namespace SameNames
variable {s t u : State}

theorem of_terms (h : t.terms = s.terms) : SameNames s t := ⟨fun i => by rw [State.term_congr h]⟩

theorem trans (h : SameNames s t) (k : SameNames t u) : SameNames s u :=
  ⟨fun i => (k.eq i).trans (h.eq i)⟩

theorem of_map {f : Term → Term} (hf : ∀ x, (f x).name = x.name) (h : ∀ i, t.term i = (s.term i).map f) :
    SameNames s t := ⟨fun i => by rw [h i, Option.map_map]; exact congrArg (Option.map · _) (funext hf)⟩

theorem setTerm {i : SlotIx} {x y : Term} (hx : s.term i = some x) (hn : y.name = x.name) :
    SameNames s (s.setTerm i (some y)) := by
  constructor
  intro j
  rw [State.term_setTerm]
  split
  next e => rw [e, hx]; exact congrArg some hn
  · rfl

theorem some (h : SameNames s t) {i : SlotIx} {y : Term} (hy : t.term i = .some y) :
    ∃ x, s.term i = .some x ∧ y.name = x.name := by
  have := h.eq i
  rw [hy] at this
  cases hx : s.term i with
  | none => simp [hx] at this
  | some x => exact ⟨x, rfl, by simpa [hx] using this⟩

theorem gone (h : HeadIx) (next : HeadLink) (warm : Bool) (s : State) : SameNames s (headGone h next warm s) := by
  refine of_map (fun x => ?_) (headGone_term h next warm s)
  obtain ⟨hn, hp, hg⟩ := x.departed_keeps h warm s.mgmt.params.holdoff
  simp [Term.name, hn, hp, hg]

theorem bumpReefers (o : Option SlotIx) (f : Nat → Nat) (s : State) : SameNames s (bumpReefers o f s) := by
  unfold Machine.bumpReefers
  split
  · exact of_terms rfl
  · split
    · exact of_terms rfl
    next t ht =>
      split
      next st n hp => exact setTerm ht (by simp [Term.name, hp, ClassPart.cls])
      all_goals exact of_terms rfl

theorem moveReefer (o : Option SlotIx) (g : SlotIx) (s : State) : SameNames s (moveReefer o g s) := by
  unfold Machine.moveReefer
  split
  · exact of_terms rfl
  · exact (bumpReefers ..).trans (bumpReefers ..)

end SameNames

@[simp] theorem clearGroup_terms (g : Group) (s : State) : (clearGroup g s).terms = s.terms := by cases g <;> rfl
@[simp] theorem clearGroup_segs (g : Group) (s : State) : (clearGroup g s).segs = s.segs := by cases g <;> rfl
@[simp] theorem clearGroup_params (g : Group) (s : State) : (clearGroup g s).mgmt.params = s.mgmt.params := by
  cases g <;> rfl

/-- The names and the Segment Table change only where a segment is recorded, an entry is loaded or removed, and in a
SOFT_RESET. -/
theorem Change.names {s t : State} (h : Change s t) :
    SameNames s t ∧ t.segs = s.segs ∨ (∃ i b, t = recordSegment i b s) ∨
    (∃ i n c, s.term i = none ∧ badNumber n = false ∧ s.lookup n = none ∧ t = s.setTerm i (some (newTerm n c))) ∨
    (∃ i x, s.term i = some x ∧ t = removeTerm i x s) ∨ t = softResetPart s := by
  have keeps {t : State} (ht : SameNames s t) (hs : t.segs = s.segs) :
      SameNames s t ∧ t.segs = s.segs ∨ (∃ i b, t = recordSegment i b s) ∨
      (∃ i n c, s.term i = none ∧ badNumber n = false ∧ s.lookup n = none ∧ t = s.setTerm i (some (newTerm n c))) ∨
      (∃ i x, s.term i = some x ∧ t = removeTerm i x s) ∨ t = softResetPart s := .inl ⟨ht, hs⟩
  cases h with
  | segment i b => exact .inr (.inl ⟨i, b, rfl⟩)
  | load i n c hi hb hl => exact .inr (.inr (.inl ⟨i, n, c, hi, hb, hl, rfl⟩))
  | remove i x hx => exact .inr (.inr (.inr (.inl ⟨i, x, hx, rfl⟩)))
  | soft => exact .inr (.inr (.inr (.inr rfl)))
  | term i x y hx hn hp hg hm => exact keeps (.setTerm hx (by simp [Term.name, hn, hp, hg])) rfl
  | cranePart i x c c' hx hc hq => exact keeps (.setTerm hx (by simp [Term.name, hc, ClassPart.cls])) rfl
  | gatewayState i x g g' n hx hg hq => exact keeps (.setTerm hx (by simp [Term.name, hg, ClassPart.cls])) rfl
  | gone h next warm hn hl => exact keeps (.gone ..) (by simp)
  | apply h r p hp =>
    refine keeps ?_ (by simp)
    rcases applyRecord_terms h r s with e | ⟨u, hu, -, e⟩
    · exact .of_terms e
    · exact ((SameNames.of_terms hu).trans (.gone ..)).trans (.of_terms e)
  | start hp =>
    refine keeps (.of_map (f := termStarted (s.uptime + s.params.gatewaySilence * 1000)) (fun x => ?_) fun i => ?_) ?_
    · unfold termStarted
      split
      next hx => simp [Term.name, hx, ClassPart.cls]
      · rfl
    · simp [startPart, State.term]
    · simp [startPart]
  | stop hp =>
    refine keeps (.of_map (f := termStopped) (fun x => ?_) fun i => ?_) ?_
    · have : x.part.stopped.cls = x.part.cls := by unfold ClassPart.stopped; split <;> simp_all [ClassPart.cls]
      simp [Term.name, termStopped, Term.orphaned, this]
    · simp [stopPart, State.term]
    · simp [stopPart]
  | place i r r' g hr hrun hg ht hg' hp ha hs => exact keeps ((SameNames.moveReefer ..).trans (.of_terms rfl)) (by simp)
  | free i r hr =>
    have e : (freeReefer i r s).terms = (bumpReefers r.gateway (· - 1) (s.setReefer i none)).terms := by
      unfold freeReefer
      dsimp only
      split <;> simp
    have bumped := SameNames.bumpReefers r.gateway (· - 1) (s.setReefer i none)
    exact keeps (((SameNames.of_terms (State.modReef_terms ..)).trans bumped).trans (.of_terms e)) (by simp)
  | flushDue hd => exact keeps (.of_terms (by unfold flushExpiry; split <;> simp)) (by unfold flushExpiry; split <;> simp)
  | _ =>
    refine keeps (.of_terms ?_) ?_ <;>
      simp [Machine.grantCrane, Machine.grantNotice, Machine.grantReply, Machine.grantNormal, startLoopTest, setRun]

/-! ## Lookups, removals and recorded segments -/


theorem State.lookup_eq_none {s : State} {n : TermNo} : s.lookup n = none ↔ ∀ i e, s.term i = some e → e.number ≠ n := by
  unfold State.lookup
  constructor
  · intro h i e he hn
    split at h
    next j hj =>
      have hp := findIx_some hj
      have hj' : s.term j = none := by simpa using h
      rw [show look s.terms j = none from hj'] at hp
      simp at hp
    next hj =>
      have hp := findIx_none hj i
      rw [show look s.terms i = some e from he] at hp
      simp [hn] at hp
  · intro h
    split
    next j hj =>
      have hp := findIx_some hj
      cases he : s.term j with
      | none => rfl
      | some e =>
        rw [show look s.terms j = some e from he] at hp
        exact absurd (by simpa using hp) (h j e he)
    · rfl

theorem removeTerm_terms (i : SlotIx) (x : Term) (s : State) : (removeTerm i x s).terms = put s.terms i none := by
  unfold removeTerm clearReferences
  split <;> simp

theorem recordSegment_terms {s : State} {i : SlotIx} {x : Term} (hx : s.term i = some x) (b : Byte) :
    (recordSegment i b s).terms = put s.terms i (some { x with segment := segmentOf b }) := by
  unfold recordSegment
  rw [hx]
  dsimp only
  split <;> simp

theorem recordSegment_free {s : State} {i : SlotIx} (hx : s.term i = none) (b : Byte) : recordSegment i b s = s := by
  rw [recordSegment, hx]

theorem released_term (b : BitVec 6) (s : State) (i : SlotIx) : (released b s).term i = none := by
  simp [released, State.reset, State.term]

@[simp] theorem offerHeadCrane_params (h : HeadIx) (f : BerthFrame) (s : State) :
    (offerHeadCrane h f s).mgmt.params = s.mgmt.params := by
  unfold offerHeadCrane
  dsimp only
  (repeat' split) <;> simp

@[simp] theorem offerTrunkCrane_params (f : BerthFrame) (s : State) :
    (offerTrunkCrane f s).mgmt.params = s.mgmt.params := by
  unfold offerTrunkCrane
  dsimp only
  (repeat' split) <;> simp

@[simp] theorem removeTerm_mgmt (i : SlotIx) (x : Term) (s : State) : (removeTerm i x s).mgmt = s.mgmt := by
  unfold removeTerm clearReferences
  split <;> simp

@[simp] theorem flushExpiry_mgmt (s : State) : (flushExpiry s).mgmt = s.mgmt := by
  unfold flushExpiry
  split <;> simp

/-- The parameters change only where one of them is set. -/
theorem Change.params {s t : State} (h : Change s t) :
    t.mgmt.params = s.mgmt.params ∨
    ∃ i v x, paramValue i v = some x ∧ t.mgmt.params = s.mgmt.params.set i x := by
  cases h with
  | param i v x hx => exact .inr ⟨i, v, x, hx, rfl⟩
  | mgmt f hf => exact .inl hf
  | _ =>
    refine .inl ?_
    simp [Machine.grantCrane, Machine.grantNotice, Machine.grantReply, Machine.grantNormal, startLoopTest, setRun,
      startPart, stopPart, softResetPart]

theorem look_modSeg (p : ClassPart) (f : Nat → Nat) (o : Option SegIx) (v : Vector Seg 48) (g : SegIx) :
    look (modSeg p f o v) g = if o = some g then bumpSeg p f (look v g) else look v g := by
  unfold modSeg
  split
  next k =>
    rw [look_put]
    by_cases e : g = k
    · subst e; simp
    · simp [e, Ne.symm e]
  · simp

end Sys2Proof.Machine

namespace Sys2Proof.Safety
open Sys2Proof Sys2Proof.Machine

/-! ## Numbers (R1) -/

theorem NumbersOk.congr {s t : State} (h : SameNames s t) (hs : NumbersOk s) : NumbersOk t where
  range i y hy := by
    obtain ⟨x, hx, e⟩ := h.some hy
    obtain ⟨hn, -⟩ := Prod.ext_iff.mp e
    rw [show y.number = x.number from hn]
    exact hs.range i x hx
  unique i j y z hy hz hn := by
    obtain ⟨x, hx, e⟩ := h.some hy
    obtain ⟨w, hw, k⟩ := h.some hz
    obtain ⟨hy', -⟩ := Prod.ext_iff.mp e
    obtain ⟨hz', -⟩ := Prod.ext_iff.mp k
    exact hs.unique i j x w hx hw (hy'.symm.trans (hn.trans hz'))

/-- Entries that keep their numbers, where some may be gone. -/
theorem NumbersOk.of_sub {s t : State} (hs : NumbersOk s)
    (h : ∀ i y, t.term i = some y → ∃ x, s.term i = some x ∧ y.number = x.number) : NumbersOk t where
  range i y hy := by
    obtain ⟨x, hx, e⟩ := h i y hy
    rw [e]
    exact hs.range i x hx
  unique i j y z hy hz hn := by
    obtain ⟨x, hx, e⟩ := h i y hy
    obtain ⟨w, hw, k⟩ := h j z hz
    exact hs.unique i j x w hx hw (e.symm.trans (hn.trans k))

theorem NumbersOk.load {s : State} (hs : NumbersOk s) {i : SlotIx} {n : TermNo} (c : TermClass)
    (hb : badNumber n = false) (hl : s.lookup n = none) : NumbersOk (s.setTerm i (some (newTerm n c))) where
  range j y hy := by
    rw [State.term_setTerm] at hy
    split at hy
    · cases hy; exact hb
    · exact hs.range j y hy
  unique j k y z hy hz hn := by
    have new := State.lookup_eq_none.mp hl
    rw [State.term_setTerm] at hy hz
    split at hy <;> split at hz
    next hj hk => exact hj.trans hk.symm
    · cases hy; exact absurd hn.symm (new k z hz)
    · cases hz; exact absurd hn (new j y hy)
    · exact hs.unique j k y z hy hz hn

theorem NumbersOk.change {s t : State} (h : Change s t) (hs : NumbersOk s) : NumbersOk t := by
  rcases h.names with ⟨h, -⟩ | ⟨i, b, rfl⟩ | ⟨i, n, c, -, hb, hl, rfl⟩ | ⟨i, x, -, rfl⟩ | rfl
  · exact hs.congr h
  · cases hx : s.term i with
    | none => rwa [recordSegment_free hx]
    | some x =>
      refine hs.of_sub fun j y hy => ?_
      rw [State.term, recordSegment_terms hx, look_put] at hy
      split at hy
      next e => cases hy; exact ⟨x, e ▸ hx, rfl⟩
      · exact ⟨y, hy, rfl⟩
  · exact hs.load c hb hl
  · refine hs.of_sub fun j y hy => ?_
    rw [State.term, removeTerm_terms, look_put] at hy
    split at hy
    · cases hy
    · exact ⟨y, hy, rfl⟩
  · refine hs.of_sub fun j y hy => ?_
    have e : (softResetPart s).term j = (s.term j).map termSoftReset := by simp [softResetPart, State.term]
    obtain ⟨x, hx, rfl⟩ := Option.map_eq_some_iff.mp (e.symm.trans hy)
    exact ⟨x, hx, rfl⟩

theorem numbersOk_kept : Kept NumbersOk where
  change _ _ h hs := hs.change h
  queue s _ _ hs := hs.congr (.of_terms (s := s) rfl)
  time s hs := hs.congr (.of_terms (s := s) rfl)
  asserted s hs := hs.congr (.of_terms (s := s) rfl)
  released b s := ⟨fun i y hy => by simp [released_term] at hy, fun i j y z hy => by simp [released_term] at hy⟩

/-! ## Parameters (Table 10-3) -/

/-- R162: a value stored lies within its parameter's range. -/
theorem ParamsOk.set {p : Params} (hp : ParamsOk p) {i : ParamId} {v : Int} {x : Nat} (hx : paramValue i v = some x) :
    ParamsOk (p.set i x) := by
  have range {lo hi : Nat} (h : lo ≤ hi) (e : some (clampInt lo hi v).toNat = some x) : lo ≤ x ∧ x ≤ hi := by
    have := toNat_clampInt (lo := lo) (hi := hi) (by omega) v
    cases e
    omega
  have divider (e : (if v = 1 ∨ v = 2 ∨ v = 4 ∨ v = 8 then some v.toNat else none) = some x) :
      x = 1 ∨ x = 2 ∨ x = 4 ∨ x = 8 := by
    split at e <;> cases e
    omega
  cases i with
  | hysteresis => exact { hp with hysteresis := (range (by decide) hx).2 }
  | probeLimit => exact { hp with probeLimit := range (by decide) hx }
  | holdoff => exact { hp with holdoff := (range (by decide) hx).2 }
  | strayLimit => exact { hp with strayLimit := range (by decide) hx }
  | bicastTimeout => exact { hp with bicastTimeout := range (by decide) hx }
  | craneWatchdog => exact { hp with craneWatchdog := range (by decide) hx }
  | craneMargin => exact { hp with craneMargin := (range (by decide) hx).2 }
  | thinMargin => exact { hp with thinMargin := (range (by decide) hx).2 }
  | loopDivider => exact { hp with loopDivider := divider hx }
  | coveragePeriod => exact { hp with coveragePeriod := range (by decide) hx }
  | minSamples => exact { hp with minSamples := range (by decide) hx }
  | penaltyEnable => exact { hp with }
  | penaltyWeight => exact { hp with penaltyWeight := range (by decide) hx }
  | headSilence => exact { hp with headSilence := range (by decide) hx }
  | restartTimeout => exact { hp with restartTimeout := range (by decide) hx }
  | gatewaySilence => exact { hp with gatewaySilence := range (by decide) hx }
  | reeferSilence => exact { hp with reeferSilence := range (by decide) hx }
  | autoLearn => exact { hp with }
  | batchLimit => exact { hp with batchLimit := range (by decide) hx }
  | flushInterval => exact { hp with flushInterval := range (by decide) hx }

theorem paramsOk_hardReset : ParamsOk Params.hardReset := by
  constructor <;> decide

theorem paramsOk_kept : Kept fun s => ParamsOk s.mgmt.params where
  change s t h hs := by
    rcases h.params with e | ⟨i, v, x, hx, e⟩
    · rwa [e]
    · rw [e]; exact hs.set hx
  queue _ _ _ hs := hs
  time _ hs := hs
  asserted _ hs := hs
  released _ _ := paramsOk_hardReset

/-- Settles O54, change by change: numbers come in through a TERM_LOAD alone, values through a SET_PARAM alone. -/
theorem stepsKeepNumbersAndParameters : Obligations.StepsKeepNumbersAndParameters := by
  unfold Obligations.StepsKeepNumbersAndParameters
  exact ⟨fun s t hs h => numbersOk_kept.step hs h, fun s t hs h => paramsOk_kept.step hs h⟩

/-! ## Segments (R13) -/

theorem countIn_eq (s : State) (c : TermClass) (g : SegIx) :
    countIn s c g = (List.finRange 256).countP fun i =>
      ((s.term i).map Term.name).any fun n => decide (n.2.1 = c ∧ n.2.2 = some g) := by
  rw [countIn, countTab_eq]
  simp [State.term, Term.name, Option.any_map]
  rfl

theorem SegmentsOk.congr {s t : State} (h : SameNames s t) (hg : t.segs = s.segs) (hs : SegmentsOk s) :
    SegmentsOk t := by
  intro g
  simpa only [hg, countIn_eq, h.eq] using hs g

/-- One slot rewritten changes a count by its own entries alone. -/
theorem countIn_setTerm (s : State) (i : SlotIx) (o : Option Term) (c : TermClass) (g : SegIx) :
    countIn (s.setTerm i o) c g + (if (s.term i).any (fun t => decide (t.part.cls = c ∧ t.segment = some g)) then 1 else 0) =
      countIn s c g + (if o.any (fun t => decide (t.part.cls = c ∧ t.segment = some g)) then 1 else 0) :=
  countTab_put _ s.terms i o

/-- R15: the counts follow the entry of a slot to another segment, or out of the table. -/
theorem SegmentsOk.move {s : State} (hs : SegmentsOk s) {i : SlotIx} {x : Term} (hx : s.term i = some x)
    (new : Option SegIx) {o : Option Term}
    (ho : ∀ (c : TermClass) (g : SegIx),
      o.any (fun t => decide (t.part.cls = c ∧ t.segment = some g)) = decide (x.part.cls = c ∧ new = some g)) :
    SegmentsOk (moveSeg x.part x.segment new (s.setTerm i o)) := by
  intro g
  obtain ⟨hc, hg⟩ := hs g
  have crane := countIn_setTerm s i o .crane g
  have gateway := countIn_setTerm s i o .gateway g
  rw [hx, ho] at crane gateway
  have hcount (c : TermClass) : countIn (moveSeg x.part x.segment new (s.setTerm i o)) c g =
      countIn (s.setTerm i o) c g := by rw [countIn, countIn, moveSeg_terms]
  have hsegs : look (moveSeg x.part x.segment new (s.setTerm i o)).segs g =
      if x.segment = new then look s.segs g
      else look (modSeg x.part (· + 1) new (modSeg x.part (· - 1) x.segment s.segs)) g := by
    unfold moveSeg
    split <;> rfl
  rw [hcount, hcount, hsegs, look_modSeg, look_modSeg]
  simp only [Option.any_some, decide_eq_true_eq] at crane gateway
  generalize x.part = p at *
  generalize x.segment = old at *
  by_cases hn : old = new
  · subst hn
    cases p <;> simp_all [ClassPart.cls]
  · by_cases ho : old = some g
    · have hn' : new ≠ some g := fun e => hn (ho.trans e.symm)
      cases p <;> simp_all [ClassPart.cls, bumpSeg] <;> omega
    · by_cases hn' : new = some g
      · cases p <;> simp_all [ClassPart.cls, bumpSeg]
      · cases p <;> simp_all [ClassPart.cls]

theorem SegmentsOk.change {s t : State} (h : Change s t) (hs : SegmentsOk s) : SegmentsOk t := by
  rcases h.names with ⟨h, hg⟩ | ⟨i, b, rfl⟩ | ⟨i, n, c, hi, -, -, rfl⟩ | ⟨i, x, hx, rfl⟩ | rfl
  · exact hs.congr h hg
  · cases hx : s.term i with
    | none => rwa [recordSegment_free hx]
    | some x =>
      have moved : SegmentsOk (moveSeg x.part x.segment (segmentOf b)
          (s.setTerm i (some { x with segment := segmentOf b }))) := hs.move hx _ fun c g => rfl
      unfold recordSegment
      rw [hx]
      dsimp only
      split
      · exact moved.congr (.of_terms rfl) rfl
      · exact moved
  · intro g
    have new (k : TermClass) := countIn_setTerm s i (some (newTerm n c)) k g
    simp only [hi, Option.any_none, Option.any_some, newTerm, reduceCtorEq, and_false, decide_false] at new
    have crane := new .crane
    have gateway := new .gateway
    obtain ⟨hc, hg⟩ := hs g
    exact ⟨hc.trans crane.symm, hg.trans gateway.symm⟩
  · have moved : SegmentsOk (moveSeg x.part x.segment none (s.setTerm i none)) := hs.move hx _ (by simp)
    unfold removeTerm clearReferences
    split
    · exact moved.congr (.of_terms rfl) rfl
    · exact moved
    · exact moved
    · exact moved
  · intro g
    have none (c : TermClass) : countIn (softResetPart s) c g = 0 := by
      rw [countIn_eq, List.countP_eq_zero]
      intro i _
      have e : (softResetPart s).term i = (s.term i).map termSoftReset := by simp [softResetPart, State.term]
      rw [e]
      cases s.term i <;> simp [Term.name, termSoftReset]
    rw [none, none]
    simp [softResetPart, Seg.hardReset]

theorem segmentsOk_kept : Kept SegmentsOk where
  change _ _ h hs := hs.change h
  queue _ _ _ hs := hs
  time _ hs := hs
  asserted _ hs := hs
  released b s g := by
    have none (c : TermClass) : countIn (released b s) c g = 0 := by
      rw [countIn_eq, List.countP_eq_zero]
      intro i _
      simp [released_term]
    rw [none, none]
    simp [released, State.reset, Seg.hardReset]

/-- Settles O55: an entry's segment and its counts change together, in a report and in a removal. -/
theorem stepsKeepTheSegmentCounts : Obligations.StepsKeepTheSegmentCounts := by
  unfold Obligations.StepsKeepTheSegmentCounts
  exact fun s t hs h => segmentsOk_kept.step hs h

end Sys2Proof.Safety
end

section
/-! Steps and the shell around every command: the queue of commands, the choices made, the clock, the node address and
the reset pin (00_scope 5.5, 10.4). -/

namespace Sys2Proof.Machine
open Sys2Proof

/-- No change of a block touches the shell. -/
theorem Change.shell {s t : State} (h : Change s t) :
    t.pending = s.pending ∧ t.choice = s.choice ∧ t.node = s.node ∧ t.inReset = s.inReset ∧ t.uptime = s.uptime := by
  cases h with
  | clear g => cases g <;> exact ⟨rfl, rfl, rfl, rfl, rfl⟩
  | flushDue hd => unfold flushExpiry; split <;> simp
  | apply h r p hp =>
    unfold applyRecord loadSetpoint
    dsimp only
    (repeat' split) <;> simp [loopEnabled, clampOffset]
  | remove i x hx => unfold removeTerm clearReferences; split <;> simp
  | _ =>
    simp [Machine.grantCrane, Machine.grantNotice, Machine.grantReply, Machine.grantNormal, startLoopTest, setRun,
      startPart, stopPart, softResetPart]

theorem Changes.shell {s t : State} (h : Changes s t) :
    t.pending = s.pending ∧ t.choice = s.choice ∧ t.node = s.node ∧ t.inReset = s.inReset ∧ t.uptime = s.uptime := by
  refine h.keeps (P := fun t => t.pending = s.pending ∧ t.choice = s.choice ∧ t.node = s.node ∧
    t.inReset = s.inReset ∧ t.uptime = s.uptime) (fun t u hc ht => ?_) (by simp)
  obtain ⟨h1, h2, h3, h4, h5⟩ := ht
  obtain ⟨k1, k2, k3, k4, k5⟩ := hc.shell
  exact ⟨k1.trans h1, k2.trans h2, k3.trans h3, k4.trans h4, k5.trans h5⟩

/-- The queue and the choices are the shell's own, even where the reset pin is moved. -/
theorem run_queue (c : Instr) (s : State) :
    ((act c).run s).pending = s.pending ∧ ((act c).run s).choice = s.choice := by
  by_cases hr : c = .hardReset
  · subst hr
    exact ⟨rfl, rfl⟩
  · by_cases hl : ∃ b, c = .resetRelease b
    · obtain ⟨b, rfl⟩ := hl
      show (if s.inReset then released b s else s).pending = _ ∧ (if s.inReset then released b s else s).choice = _
      split <;> exact ⟨rfl, rfl⟩
    · obtain ⟨hp, hc, -⟩ := (run_changes hr (fun b e => hl ⟨b, e⟩) s).shell
      exact ⟨hp, hc⟩

theorem run_node {c : Instr} (hl : ∀ b, c ≠ .resetRelease b) (s : State) : ((act c).run s).node = s.node := by
  by_cases hr : c = .hardReset
  · subst hr
    rfl
  · obtain ⟨-, -, hn, -⟩ := (run_changes hr hl s).shell
    exact hn

/-- Settles O1: by the definition of a step. -/
theorem stepTakesTheFrontCommand : Obligations.StepTakesTheFrontCommand := by
  unfold Obligations.StepTakesTheFrontCommand
  intro c rest s h
  rw [step, h]

/-- Settles O2: every command leaves the state its action makes, and no change in it is the shell's. -/
theorem everyCommandCompletesAndLeavesTheQueue : Obligations.EveryCommandCompletesAndLeavesTheQueue := by
  unfold Obligations.EveryCommandCompletesAndLeavesTheQueue
  exact fun c s => ⟨_, exec_eq_run c s, run_queue c s⟩

/-! ## Reset -/

/-- While the reset pin is asserted a command does nothing, unless it is one that reset does not hold back (log 4). -/
theorem run_inReset {c : Instr} {s : State} (hs : s.inReset = true) (hc : ∀ f, act c = .always f → f s = s) :
    (act c).run s = s := by
  cases ha : act c with
  | request h code body => simp [Act.run, request, hs]
  | event f => simp [Act.run, outsideReset, hs]
  | always f => exact hc f ha

theorem resetAsserted_head (s : State) (h : HeadIx) : (resetAsserted s).head h = headHeld (s.head h) :=
  look_mapTab ..

/-- Settles O5: the assertion as it stands, what an asserted pin holds back by the kind of the action, the release by
its definition, and the node address as part of the shell. -/
theorem hardResetHoldsThePartUntilRelease : Obligations.HardResetHoldsThePartUntilRelease := by
  unfold Obligations.HardResetHoldsThePartUntilRelease
  refine ⟨fun s => ⟨resetAsserted s, rfl, rfl, rfl, fun h => ?_⟩, ?_, ?_, ?_⟩
  · rw [resetAsserted_head]
    exact ⟨rfl, rfl, rfl⟩
  · intro c s hs hr hl hlink hup hdown
    rw [exec_eq_run, run_inReset hs]
    intro f hf
    cases c with
    | hardReset => exact absurd rfl hr
    | resetRelease b => exact absurd rfl (hl b)
    | headLinkUp h => exact absurd rfl (hlink h).1
    | headLinkDown h => exact absurd rfl (hlink h).2
    | trunkLinkUp => exact absurd rfl hup
    | trunkLinkDown => exact absurd rfl hdown
    | badRequest h code =>
      change badRequestAct h code = _ at hf
      unfold badRequestAct at hf
      split at hf <;> cases hf
      rfl
    | _ => cases hf
  · intro s b hs
    have heads : (tabulate fun h => Head.hardReset (s.head h).ethUp) =
        tabulate fun h => { State.reset.head h with ethUp := (s.head h).ethUp } := by
      congr 1
      funext h
      simp [State.reset, State.head, Head.hardReset]
    show exec (.resetRelease b) s = _
    rw [exec_eq_run]
    show Host.Outcome.next (if s.inReset then released b s else s) = _
    rw [if_pos hs, released, heads]
    rfl
  · intro c s t hl h
    rw [exec_eq_run] at h
    cases h
    exact run_node hl s

end Sys2Proof.Machine
end

section
/-! The queues of the heads and of the trunk (2.7, 3.4): what each operation makes of a head and of the trunk, and that
no step overfills a queue or leaves one filled where the manual says it is empty. -/

namespace Sys2Proof.Machine
open Sys2Proof

/-! ## What the operations make of a head -/

@[simp] theorem raise_head (k : NoticeKind) (u : Nat) (d : BitVec 16) (s : State) (h : HeadIx) :
    (raise k u d s).head h = s.head h :=
  State.head_congr (raise_heads ..) h

@[simp] theorem State.head_modTrunk (f : Trunk → Trunk) (s : State) (h : HeadIx) : (s.modTrunk f).head h = s.head h :=
  rfl

@[simp] theorem State.head_modLoop (k : HeadIx) (f : LoopState → LoopState) (s : State) (h : HeadIx) :
    (s.modLoop k f).head h = s.head h :=
  rfl

section Heads
variable (s : State) (h : HeadIx)

section Others
variable {h} {k : HeadIx} (hk : k ≠ h)
include hk

theorem offerCtl_head_of_ne (f : CtlFrame) : (offerCtl h f s).head k = s.head k := by
  unfold offerCtl State.countHead
  (repeat' split) <;> rw [State.head_modHead_of_ne _ _ hk]

theorem offerHeadNormal_head_of_ne (f : BerthFrame) : (offerHeadNormal h f s).head k = s.head k := by
  unfold offerHeadNormal State.countHead
  (repeat' split) <;> rw [State.head_modHead_of_ne _ _ hk]

theorem offerHeadCrane_head_of_ne (f : BerthFrame) : (offerHeadCrane h f s).head k = s.head k := by
  unfold offerHeadCrane State.countHead
  dsimp only
  (repeat' split) <;> simp [State.head_modHead_of_ne _ _ hk]

theorem endLoopTest_head_of_ne (r : LoopResult) : (endLoopTest h r s).head k = s.head k := by
  unfold endLoopTest offerLoopReply State.countHead
  (repeat' split) <;> simp [State.head_modHead_of_ne _ _ hk]

theorem flush_head_of_ne : (flush h s).head k = s.head k := by
  unfold flush
  dsimp only
  split <;> simp [State.head_modHead_of_ne _ _ hk]

theorem headGone_head_of_ne (next : HeadLink) (warm : Bool) : (headGone h next warm s).head k = s.head k := by
  have hdep : (departure h warm (s.modHead h fun d => { d with link := next })).head k = s.head k := by
    rw [State.head_congr (departure_heads ..), State.head_modHead_of_ne _ _ hk]
  unfold headGone
  dsimp only
  rw [State.head_modHead_of_ne _ _ hk, endLoopTest_head_of_ne _ hk]
  split
  · exact hdep
  · rw [flush_head_of_ne _ hk, hdep]

end Others

/-- A frame offered to a control queue goes in where it is admitted, else only a counter moves (R38). -/
theorem offerCtl_head (f : CtlFrame) : ∃ c, (offerCtl h f s).head h =
    { s.head h with
      ctlQ := if s.ctlAdmits h f = true then pushCtl f (s.head h).ctlQ else (s.head h).ctlQ, cnt := c } := by
  unfold offerCtl State.countHead
  split
  · exact ⟨(s.head h).cnt, by simp⟩
  · (repeat' split) <;> exact ⟨_, by simp; rfl⟩

theorem offerHeadNormal_head (f : BerthFrame) : ∃ c, (offerHeadNormal h f s).head h =
    { s.head h with
      normalQ := if s.headOpen h = true ∧ (s.head h).normalQ.length < 64 then (s.head h).normalQ ++ [f]
        else (s.head h).normalQ
      cnt := c } := by
  unfold offerHeadNormal State.countHead
  split
  next ho =>
    split
    next hl => exact ⟨(s.head h).cnt, by simp [ho, hl]⟩
    next hl => exact ⟨_, by simp [hl]; rfl⟩
  next ho => exact ⟨_, by simp [ho]; rfl⟩

/-- A crane frame goes in below 16 frames, else its overrun episode is open (R39). -/
theorem offerHeadCrane_head (f : BerthFrame) : ∃ c, (offerHeadCrane h f s).head h =
    { s.head h with
      craneQ := if s.headOpen h = true ∧ (s.head h).craneQ.length < 16 then (s.head h).craneQ ++ [f]
        else (s.head h).craneQ
      overrun := (s.head h).overrun || decide (s.headOpen h = true ∧ 16 ≤ (s.head h).craneQ.length)
      cnt := c } := by
  unfold offerHeadCrane State.countHead
  split
  next ho =>
    split
    next hl => exact ⟨(s.head h).cnt, by rw [State.head_modHead_self]; simp [ho, hl, Nat.not_le_of_lt hl]⟩
    next hl =>
      refine ⟨{ (s.head h).cnt with craneDrop := inc (s.head h).cnt.craneDrop }, ?_⟩
      dsimp only
      split
      next hv => rw [State.head_modHead_self]; simp [hl, hv]
      next hv => rw [raise_head, State.head_modHead_self, State.head_modHead_self]; simp [ho, hl, Nat.le_of_not_lt hl]
  next ho =>
    exact ⟨{ (s.head h).cnt with notUpDrop := inc (s.head h).cnt.notUpDrop },
      by rw [State.head_modHead_self]; simp [ho]⟩

/-- R41: a head's queues emptied and counted. -/
def Head.flushed (d : Head) : Head :=
  { d with
    ctlQ := [], craneQ := [], normalQ := [], overrun := false
    cnt := { d.cnt with flushed := satAdd d.cnt.flushed (d.ctlQ.length + d.craneQ.length + d.normalQ.length) } }

@[simp] theorem flush_head : (flush h s).head h = (s.head h).flushed := by
  unfold flush
  dsimp only
  split <;> simp [Head.flushed]

/-- The control queue without the frame of a test that ends. -/
def Head.untested (d : Head) : List CtlFrame :=
  if d.loopTest.isSome then d.ctlQ.filter fun f => !f.isLoopTest else d.ctlQ

theorem Head.untested_sublist (d : Head) : d.untested.Sublist d.ctlQ := by
  unfold untested
  split
  · exact List.filter_sublist
  · exact .refl _

theorem endLoopTest_head (r : LoopResult) : ∃ c, (endLoopTest h r s).head h =
    { s.head h with loopTest := none, ctlQ := (s.head h).untested, cnt := c } := by
  unfold endLoopTest
  split
  next hn =>
    refine ⟨(s.head h).cnt, ?_⟩
    generalize s.head h = d at hn
    cases d
    simp_all [Head.untested]
  next t ht =>
    unfold offerLoopReply State.countHead
    (repeat' split) <;> exact ⟨_, by simp [ht, Head.withoutTest, Head.untested]; rfl⟩

/-- R26: a head gone has its new link state, no test and no alarms; it keeps its queues on WARM, but for the test's
frame. -/
theorem headGone_head (next : HeadLink) (warm : Bool) : ∃ c, (headGone h next warm s).head h =
    { s.head h with
      link := next, loopTest := none, alarms := 0, cnt := c
      ctlQ := if warm then (s.head h).untested else [], craneQ := if warm then (s.head h).craneQ else []
      normalQ := if warm then (s.head h).normalQ else [], overrun := warm && (s.head h).overrun } := by
  have hdep : (departure h warm (s.modHead h fun d => { d with link := next })).head h =
      { s.head h with link := next } := by
    rw [State.head_congr (departure_heads ..), State.head_modHead_self]
  unfold headGone
  dsimp only
  generalize departure h warm (s.modHead h fun d => { d with link := next }) = s1 at *
  obtain ⟨c, hc⟩ := endLoopTest_head (if warm then s1 else flush h s1) h .headLost
  rw [State.head_modHead_self, hc]
  cases warm
  · exact ⟨c, by simp [hdep, Head.flushed, Head.untested]⟩
  · exact ⟨c, by simp [hdep, Head.untested]⟩

end Heads

/-! ## A head record applied (2.1) -/

/-- The state with a head's new record and the cells its window change clears (R20, R105). -/
def recorded (h : HeadIx) (r : HeadRecord) (s : State) : State :=
  windowChange h (s.head h).record r (s.modHead h fun d => { d with record := r })

section Recorded
variable (s : State) (h : HeadIx) {r : HeadRecord}

@[simp] theorem recorded_heads : (recorded h r s).heads = (s.modHead h fun d => { d with record := r }).heads := by
  simp [recorded]

@[simp] theorem recorded_head_self : (recorded h r s).head h = { s.head h with record := r } := by
  rw [State.head_congr (recorded_heads ..), State.head_modHead_self]

theorem recorded_head_of_ne {k : HeadIx} (hk : k ≠ h) : (recorded h r s).head k = s.head k := by
  rw [State.head_congr (recorded_heads ..), State.head_modHead_of_ne _ _ hk]

@[simp] theorem recorded_link (k : HeadIx) : ((recorded h r s).head k).link = (s.head k).link := by
  by_cases hk : k = h
  · subst hk; simp
  · rw [recorded_head_of_ne s h hk]

@[simp] theorem recorded_part : (recorded h r s).part = s.part := by simp [recorded]
@[simp] theorem recorded_uptime : (recorded h r s).uptime = s.uptime := by simp [recorded]
@[simp] theorem recorded_mgmt : (recorded h r s).mgmt = s.mgmt := by simp [recorded]
@[simp] theorem recorded_trunk : (recorded h r s).trunk = s.trunk := by simp [recorded]
@[simp] theorem recorded_terms : (recorded h r s).terms = s.terms := by simp [recorded]
@[simp] theorem recorded_loops : (recorded h r s).loops = s.loops := by simp [recorded]
@[simp] theorem recorded_reef : (recorded h r s).reef = s.reef := by simp [recorded]
@[simp] theorem recorded_exp : (recorded h r s).exp = s.exp := by simp [recorded]

/-- A head enabled from DISABLED. -/
theorem applyRecord_of_enabled (hl : (s.head h).link = .disabled) (he : r.enabled = true) :
    applyRecord h r s = loopEnabled h r ((recorded h r s).modHead h fun d => { d with link := .offline }) := by
  unfold applyRecord recorded
  simp only [hl, he, if_true]

/-- A head that stays DISABLED. -/
theorem applyRecord_of_idle (hl : (s.head h).link = .disabled) (he : r.enabled = false) :
    applyRecord h r s = clampOffset h r (recorded h r s) := by
  unfold applyRecord recorded
  simp only [hl, he, Bool.false_eq_true, if_false]

/-- A head that stays enabled. -/
theorem applyRecord_of_stays (hl : (s.head h).link ≠ .disabled) (he : r.enabled = true) :
    applyRecord h r s = loadSetpoint h (s.head h).record r (recorded h r s) := by
  unfold applyRecord recorded
  cases hk : (s.head h).link <;> simp_all

/-- An enabled head that goes to DISABLED. -/
theorem applyRecord_of_gone (hl : (s.head h).link ≠ .disabled) (he : r.enabled = false) :
    applyRecord h r s = clampOffset h r (headGone h .disabled false (recorded h r s)) := by
  unfold applyRecord recorded
  cases hk : (s.head h).link <;> simp_all

end Recorded

/-! ## What the operations make of the trunk -/

/-- The data queues of the trunk stand as they were, the notices and replies stay within their places, and the Export Unit
turn stands or is 0. -/
structure TrunkSteady (t u : Trunk) : Prop where
  craneQ : u.craneQ = t.craneQ
  normalQ : u.normalQ = t.normalQ
  overrun : u.overrun = t.overrun
  notice : t.noticeQ.length ≤ 32 → u.noticeQ.length ≤ 32
  reply : t.replyQ.length ≤ 8 → u.replyQ.length ≤ 8
  turn : u.exportTurn = t.exportTurn ∨ u.exportTurn = 0

namespace TrunkSteady

theorem refl (t : Trunk) : TrunkSteady t t := ⟨rfl, rfl, rfl, id, id, .inl rfl⟩

theorem of_eq {t u : Trunk} (h : u = t) : TrunkSteady t u := h ▸ refl t

theorem trans {t u v : Trunk} (h : TrunkSteady t u) (k : TrunkSteady u v) : TrunkSteady t v where
  craneQ := k.craneQ.trans h.craneQ
  normalQ := k.normalQ.trans h.normalQ
  overrun := k.overrun.trans h.overrun
  notice := k.notice ∘ h.notice
  reply := k.reply ∘ h.reply
  turn := k.turn.elim (fun e => h.turn.imp e.trans e.trans) .inr

end TrunkSteady

section Trunk
variable (s : State)

theorem offerNotice_trunk (n : Notice) : TrunkSteady s.trunk (offerNotice n s).trunk := by
  unfold offerNotice
  split
  next ha =>
    refine ⟨rfl, rfl, rfl, fun _ => ?_, id, .inl rfl⟩
    have : s.trunk.noticeQ.length < 32 := by
      simp only [noticeAdmitted, Bool.or_eq_true, Bool.and_eq_true, decide_eq_true_eq] at ha
      omega
    simpa using this
  · exact ⟨rfl, rfl, rfl, id, id, .inl rfl⟩

theorem raise_trunk (k : NoticeKind) (u : Nat) (d : BitVec 16) : TrunkSteady s.trunk (raise k u d s).trunk := by
  unfold raise
  dsimp only
  split
  · exact (TrunkSteady.of_eq (by simp)).trans (offerNotice_trunk _ _)
  · exact .refl _

theorem appendReply_trunk (r : Reply) (hq : s.trunk.replyQ.length < 8) :
    TrunkSteady s.trunk { s.trunk with replyQ := s.trunk.replyQ ++ [r] } :=
  ⟨rfl, rfl, rfl, id, fun _ => by simpa using hq, .inl rfl⟩

theorem departEntry_trunk (d : HeadIx) (warm : Bool) (i : SlotIx) :
    TrunkSteady s.trunk (departEntry d warm s i).trunk := by
  unfold departEntry forceBicast loseCandidate orphanEntry
  (repeat' split) <;> first | exact .of_eq (by simp) | exact (TrunkSteady.of_eq (by simp)).trans (raise_trunk _ _ _ _)

theorem departure_trunk (d : HeadIx) (warm : Bool) : TrunkSteady s.trunk (departure d warm s).trunk := by
  unfold departure
  generalize List.finRange 256 = l
  induction l generalizing s with
  | nil => exact .refl _
  | cons i l ih => exact (departEntry_trunk s d warm i).trans (ih _)

theorem endLoopTest_trunk (h : HeadIx) (r : LoopResult) : TrunkSteady s.trunk (endLoopTest h r s).trunk := by
  unfold endLoopTest
  split
  · exact .refl _
  · unfold offerLoopReply
    (repeat' split) <;> first | exact .refl _ | exact appendReply_trunk _ _ ‹_›

theorem headGone_trunk (h : HeadIx) (next : HeadLink) (warm : Bool) :
    TrunkSteady s.trunk (headGone h next warm s).trunk := by
  unfold headGone
  dsimp only
  have gone : TrunkSteady s.trunk (departure h warm (s.modHead h fun d => { d with link := next })).trunk :=
    departure_trunk (s.modHead h fun d => { d with link := next }) h warm
  generalize departure h warm (s.modHead h fun d => { d with link := next }) = s1 at *
  have flushed : TrunkSteady s.trunk (if warm = true then s1 else flush h s1).trunk := by
    split
    · exact gone
    · exact gone.trans (.of_eq (by simp))
  rw [State.modHead_trunk]
  exact flushed.trans (endLoopTest_trunk ..)

theorem offerHeadCrane_trunk (h : HeadIx) (f : BerthFrame) : TrunkSteady s.trunk (offerHeadCrane h f s).trunk := by
  unfold offerHeadCrane
  dsimp only
  split
  · split
    · exact .of_eq (by simp)
    · split
      · exact .of_eq (by simp)
      · exact (TrunkSteady.of_eq (by simp)).trans (raise_trunk _ _ _ _)
  · exact .of_eq (by simp)

theorem judgeRequest_trunk : TrunkSteady s.trunk (judgeRequest s).trunk := by
  unfold judgeRequest
  dsimp only
  split
  · exact ⟨rfl, rfl, rfl, id, id, .inr rfl⟩
  · exact .refl _

theorem joinList_trunk (i : ReeferIx) (r : Reefer) (why : Reason) : TrunkSteady s.trunk (joinList i r why s).trunk := by
  unfold joinList
  dsimp only
  split
  · exact .refl _
  · refine .trans (.of_eq ?_) (judgeRequest_trunk _)
    split <;> simp

theorem removePending_trunk (i : ReeferIx) : TrunkSteady s.trunk (removePending i s).trunk := by
  unfold removePending
  dsimp only
  refine .trans (.of_eq ?_) (judgeRequest_trunk _)
  (repeat' split) <;> simp

theorem freeReefer_trunk (i : ReeferIx) (r : Reefer) : TrunkSteady s.trunk (freeReefer i r s).trunk := by
  unfold freeReefer
  dsimp only
  split
  · exact (TrunkSteady.of_eq (by simp)).trans (removePending_trunk _ i)
  · exact .of_eq (by simp)

theorem flushExpiry_trunk : TrunkSteady s.trunk (flushExpiry s).trunk := by
  unfold flushExpiry
  split
  · exact judgeRequest_trunk (s.modExp fun x => { x with expired := true })
  · exact .refl _

theorem startPart_trunk : TrunkSteady s.trunk (startPart s).trunk := by
  unfold startPart
  exact .trans (.of_eq (by simp)) (judgeRequest_trunk _)

theorem applyRecord_trunk (h : HeadIx) (r : HeadRecord) : TrunkSteady s.trunk (applyRecord h r s).trunk := by
  rcases Bool.eq_false_or_eq_true r.enabled with he | he <;> by_cases hl : (s.head h).link = .disabled
  · rw [applyRecord_of_enabled s h hl he]
    exact .of_eq (by simp [loopEnabled])
  · rw [applyRecord_of_stays s h hl he]
    exact .of_eq (by unfold loadSetpoint; dsimp only; (repeat' split) <;> simp [clampOffset])
  · rw [applyRecord_of_idle s h hl he]
    exact .of_eq (by simp [clampOffset])
  · rw [applyRecord_of_gone s h hl he, clampOffset, State.modLoop_trunk]
    have gone := headGone_trunk (recorded h r s) h .disabled false
    rwa [recorded_trunk] at gone

end Trunk

end Sys2Proof.Machine
end

section
/-! That no step overfills a queue, nor leaves one filled where the manual says it is empty (2.7, 3.4). -/

namespace Sys2Proof.Safety
open Sys2Proof Sys2Proof.Machine

/-! ## One head -/

/-- No frame waits for the head. -/
structure NoFrames (d : Head) : Prop where
  ctl : d.ctlQ = []
  crane : d.craneQ = []
  normal : d.normalQ = []

/-- A head's queues stay sound, and stay empty while the part is not RUNNING. -/
structure HeadSteady (run : Bool) (d e : Head) : Prop where
  ok : HeadQueuesOk d → HeadQueuesOk e
  empty : run = false → NoFrames d → NoFrames e

namespace HeadSteady
variable {run : Bool} {d e : Head}

theorem refl (d : Head) : HeadSteady run d d := ⟨id, fun _ => id⟩

theorem of_eq (h : e = d) : HeadSteady run d e := h ▸ refl e

theorem trans {f : Head} (h : HeadSteady run d e) (k : HeadSteady run e f) : HeadSteady run d f :=
  ⟨k.ok ∘ h.ok, fun hr => k.empty hr ∘ h.empty hr⟩

/-- The other fields of a head say nothing of its queues. -/
theorem of_queues (hl : e.link = d.link) (ht : e.loopTest.isSome = true → d.loopTest.isSome = true)
    (hc : e.ctlQ.Sublist d.ctlQ) (hk : e.craneQ = d.craneQ) (hn : e.normalQ = d.normalQ) (ho : e.overrun = d.overrun) :
    HeadSteady run d e where
  ok h :=
    { ctl := hc.length_le.trans h.ctl
      crane := hk ▸ h.crane
      normal := hn ▸ h.normal
      oneSetpoint := (hc.countP_le).trans h.oneSetpoint
      episode := by rw [hk, ho]; exact h.episode
      testOnlyUp := fun e => hl ▸ h.testOnlyUp (ht e)
      closedEmpty := fun e => by
        obtain ⟨ctl, crane, normal⟩ := h.closedEmpty (hl ▸ e)
        exact ⟨List.sublist_nil.mp (ctl ▸ hc), hk ▸ crane, hn ▸ normal⟩ }
  empty _ h := ⟨List.sublist_nil.mp (h.ctl ▸ hc), hk.trans h.crane, hn.trans h.normal⟩

end HeadSteady

/-- A head that left UP and RESTARTING keeps its queues on WARM alone. -/
theorem HeadSteady.gone {run : Bool} {d : Head} {next : HeadLink} {warm : Bool} (hn : GoneTo next warm)
    {e : Head} (hl : e.link = next) (ht : e.loopTest = none)
    (hw : warm = true → e.ctlQ.Sublist d.ctlQ ∧ e.craneQ = d.craneQ ∧ e.normalQ = d.normalQ ∧ e.overrun = d.overrun)
    (hc : warm = false → NoFrames e ∧ e.overrun = false) : HeadSteady run d e := by
  cases warm
  · obtain ⟨none, ho⟩ := hc rfl
    refine ⟨fun _ => ?_, fun _ _ => none⟩
    exact
      { ctl := by simp [none.ctl], crane := by simp [none.crane], normal := by simp [none.normal]
        oneSetpoint := by simp [none.ctl], episode := by simp [ho], testOnlyUp := by simp [ht]
        closedEmpty := fun _ => ⟨none.ctl, none.crane, none.normal⟩ }
  · obtain ⟨ctl, crane, normal, overrun⟩ := hw rfl
    refine ⟨fun h => ?_, fun _ h => ⟨List.sublist_nil.mp (h.ctl ▸ ctl), crane.trans h.crane, normal.trans h.normal⟩⟩
    exact
      { ctl := ctl.length_le.trans h.ctl, crane := crane ▸ h.crane, normal := normal ▸ h.normal
        oneSetpoint := ctl.countP_le.trans h.oneSetpoint, episode := by rw [crane, overrun]; exact h.episode
        testOnlyUp := by simp [ht]
        closedEmpty := fun e => by
          exfalso
          rw [hl] at e
          generalize hw : true = w at hn
          cases hn <;> simp_all }

/-! ## Frames offered -/

/-- An open head is neither closed nor in STANDBY (R38). -/
theorem headOpen_iff {s : State} {h : HeadIx} : s.headOpen h = true ↔
    s.running = true ∧ (s.head h).link ≠ .disabled ∧ (s.head h).link ≠ .offline := by
  unfold State.headOpen
  cases (s.head h).link <;> simp

theorem length_pushCtl (f : CtlFrame) (q : List CtlFrame) :
    (pushCtl f q).length = if f.isSetpoint && q.any CtlFrame.isSetpoint then q.length else q.length + 1 := by
  unfold pushCtl
  split <;> simp

/-- A queued SETPOINT is replaced, so a queue holds at most one. -/
theorem countP_pushCtl {f : CtlFrame} {q : List CtlFrame} (h : q.countP CtlFrame.isSetpoint ≤ 1) :
    (pushCtl f q).countP CtlFrame.isSetpoint ≤ 1 := by
  unfold pushCtl
  split
  next hf =>
    rw [List.countP_map]
    refine le_trans (List.countP_mono_left fun c _ hc => ?_) h
    by_cases hs : c.isSetpoint = true
    · exact hs
    · simp [hs] at hc
  next hf =>
    rw [List.countP_append, List.countP_singleton]
    by_cases hs : f.isSetpoint = true
    · have : q.countP CtlFrame.isSetpoint = 0 := by
        rw [List.countP_eq_zero]
        intro c hc hs'
        exact hf (by simp [hs, List.any_eq_true]; exact ⟨c, hc, hs'⟩)
      simp [this, hs]
    · simpa [hs] using h

theorem offerCtl_steady (s : State) (h : HeadIx) (f : CtlFrame) :
    HeadSteady s.running (s.head h) ((offerCtl h f s).head h) := by
  obtain ⟨c, hc⟩ := offerCtl_head s h f
  rw [hc]
  by_cases ha : s.ctlAdmits h f = true
  · have hopen := (Bool.and_eq_true _ _).mp ha
    obtain ⟨hr, hd, ho⟩ := headOpen_iff.mp hopen.1
    refine ⟨fun ok => ?_, fun hf => absurd hr (by simp [hf])⟩
    simp only [ha, if_true]
    refine { ok with ctl := ?_, oneSetpoint := countP_pushCtl ok.oneSetpoint, closedEmpty := ?_ }
    · have room := hopen.2
      have := ok.ctl
      simp only [length_pushCtl]
      split
      · exact ok.ctl
      next hs => simp only [hs, Bool.false_or, decide_eq_true_eq] at room; omega
    · exact fun e => (e.elim hd ho).elim
  · simp only [ha]
    exact .of_queues rfl id (.refl _) rfl rfl rfl

theorem offerHeadNormal_steady (s : State) (h : HeadIx) (f : BerthFrame) :
    HeadSteady s.running (s.head h) ((offerHeadNormal h f s).head h) := by
  obtain ⟨c, hc⟩ := offerHeadNormal_head s h f
  rw [hc]
  by_cases ha : s.headOpen h = true ∧ (s.head h).normalQ.length < 64
  · obtain ⟨hr, hd, ho⟩ := headOpen_iff.mp ha.1
    refine ⟨fun ok => ?_, fun hf => absurd hr (by simp [hf])⟩
    rw [if_pos ha]
    exact { ok with normal := by simpa using ha.2, closedEmpty := fun e => (e.elim hd ho).elim }
  · rw [if_neg ha]
    exact .of_queues rfl id (.refl _) rfl rfl rfl

theorem offerHeadCrane_steady (s : State) (h : HeadIx) (f : BerthFrame) :
    HeadSteady s.running (s.head h) ((offerHeadCrane h f s).head h) := by
  obtain ⟨c, hc⟩ := offerHeadCrane_head s h f
  rw [hc]
  by_cases ho : s.headOpen h = true
  · obtain ⟨hr, hd, hf⟩ := headOpen_iff.mp ho
    refine ⟨fun ok => ?_, fun hf => absurd hr (by simp [hf])⟩
    by_cases hl : (s.head h).craneQ.length < 16
    · rw [if_pos ⟨ho, hl⟩]
      exact { ok with
        crane := by simpa using hl, episode := fun _ => by simp
        closedEmpty := fun e => (e.elim hd hf).elim }
    · rw [if_neg (fun e => hl e.2)]
      have full : (s.head h).craneQ ≠ [] := fun e => hl (by simp [e])
      exact { ok with episode := fun _ => full }
  · rw [if_neg (fun e => ho e.1)]
    exact .of_queues rfl id (.refl _) rfl rfl (by simp [ho])

/-! ## Other changes of one head -/

theorem serve_steady (run : Bool) (d : Head) : HeadSteady run d d.serve := by
  have queues : HeadSteady run d d.serveQueues := by
    unfold Head.serveQueues
    split
    next c cs hc => exact .of_queues rfl id (by rw [hc]; exact List.sublist_cons_self ..) rfl rfl rfl
    next f fs hc hk =>
      refine ⟨fun ok => ?_, fun _ h => ?_⟩
      · exact { ok with
          crane := by have := ok.crane; rw [hk] at this; simp at this; show fs.length ≤ 16; omega
          episode := by
            intro h
            simp only [Bool.and_eq_true, Bool.not_eq_true', List.isEmpty_eq_false_iff] at h
            exact h.2
          closedEmpty := fun e => absurd (ok.closedEmpty e).2.1 (by simp [hk]) }
      · exact absurd h.crane (by simp [hk])
    next f fs hc hk hn =>
      refine ⟨fun ok => ?_, fun _ h => absurd h.normal (by simp [hn])⟩
      exact { ok with
        normal := by have := ok.normal; rw [hn] at this; simp at this; show fs.length ≤ 64; omega
        closedEmpty := fun e => absurd (ok.closedEmpty e).2.2 (by simp [hn]) }
    · exact .refl _
  unfold Head.serve
  split
  next t ht =>
    split
    · exact .of_queues rfl (by simp [ht]) (.refl _) rfl rfl rfl
    · exact queues
  · exact queues

theorem withoutTest_steady (run : Bool) (d : Head) : HeadSteady run d d.withoutTest :=
  .of_queues rfl (by simp [Head.withoutTest]) List.filter_sublist rfl rfl rfl

theorem goesUp_steady (run : Bool) (d : Head) (n : Nat) : HeadSteady run d { d with link := .up n } where
  ok h := { h with testOnlyUp := fun _ => rfl, closedEmpty := by rintro (e | e) <;> cases e }
  empty _ h := ⟨h.ctl, h.crane, h.normal⟩

theorem timer_steady {run : Bool} {d : Head} {r : Restart} (hl : d.link = .restarting r) (q : Restart) :
    HeadSteady run d { d with link := .restarting q } where
  ok h := { h with
    testOnlyUp := fun e => by simpa [hl, HeadLink.isUp] using h.testOnlyUp e
    closedEmpty := by rintro (e | e) <;> cases e }
  empty _ h := ⟨h.ctl, h.crane, h.normal⟩

theorem startTest_steady {s : State} {h : HeadIx} (p : Vector Byte 16) (a : Asker) (hu : s.isUp h = true)
    (hq : ¬(s.running = true ∧ 8 ≤ (s.head h).ctlQ.length)) :
    HeadSteady s.running (s.head h) ((startLoopTest h p a s).head h) := by
  have up : ∃ n, (s.head h).link = .up n := by
    unfold State.isUp HeadLink.isUp at hu
    split at hu
    next n hn => exact ⟨n, hn⟩
    · cases hu
  obtain ⟨n, hn⟩ := up
  rw [startLoopTest, State.head_modHead_self]
  constructor
  · intro ok
    refine { ok with
      ctl := ?_, oneSetpoint := ?_, testOnlyUp := fun _ => hu
      closedEmpty := by intro e; simp [hn] at e }
    · show (if s.running = true then (s.head h).ctlQ ++ [.loopTest p] else (s.head h).ctlQ).length ≤ 8
      split
      next hr =>
        have room : ¬8 ≤ (s.head h).ctlQ.length := fun h => hq ⟨hr, h⟩
        simp only [List.length_append, List.length_singleton]
        omega
      · exact ok.ctl
    · show (if s.running = true then (s.head h).ctlQ ++ [.loopTest p] else (s.head h).ctlQ).countP _ ≤ 1
      split
      · simpa [CtlFrame.isSetpoint, List.countP_append] using ok.oneSetpoint
      · exact ok.oneSetpoint
  · intro hr e
    exact ⟨by simp [hr, e.ctl], e.crane, e.normal⟩

theorem headGone_steady (s : State) (h : HeadIx) {next : HeadLink} {warm : Bool} (hn : GoneTo next warm) (run : Bool) :
    HeadSteady run (s.head h) ((headGone h next warm s).head h) := by
  obtain ⟨c, hc⟩ := headGone_head s h next warm
  rw [hc]
  refine .gone hn rfl rfl (fun hw => ?_) (fun hw => ?_) <;> subst hw
  · exact ⟨(s.head h).untested_sublist, rfl, rfl, rfl⟩
  · exact ⟨⟨rfl, rfl, rfl⟩, rfl⟩

@[simp] theorem recorded_running (s : State) (h : HeadIx) (r : HeadRecord) : (recorded h r s).running = s.running :=
  State.running_congr (by simp)

theorem recorded_steady (s : State) (h : HeadIx) (r : HeadRecord) (run : Bool) :
    HeadSteady run (s.head h) ((recorded h r s).head h) := by
  rw [recorded_head_self]
  exact .of_queues rfl id (.refl _) rfl rfl rfl

theorem loadSetpoint_steady (s : State) (h : HeadIx) (old new : HeadRecord) :
    HeadSteady s.running (s.head h) ((loadSetpoint h old new s).head h) := by
  have offered (v : Nat) : HeadSteady s.running (s.head h) ((offerSetpoint h v (clampOffset h new s)).head h) := by
    rw [offerSetpoint, State.head_modLoop]
    exact offerCtl_steady (clampOffset h new s) h (.setpoint v)
  unfold loadSetpoint
  dsimp only
  (repeat' split) <;> first | exact offered _ | exact .refl _

theorem applyRecord_steady (s : State) (h : HeadIx) (r : HeadRecord) :
    HeadSteady s.running (s.head h) ((applyRecord h r s).head h) := by
  have new := recorded_steady s h r s.running
  rcases Bool.eq_false_or_eq_true r.enabled with he | he <;> by_cases hl : (s.head h).link = .disabled
  · rw [applyRecord_of_enabled s h hl he, loopEnabled, State.head_modLoop, State.head_modHead_self]
    refine new.trans ⟨fun ok => ?_, fun _ e => ⟨e.ctl, e.crane, e.normal⟩⟩
    have closed : ((recorded h r s).head h).link = .disabled := by rw [recorded_link, hl]
    exact { ok with
      testOnlyUp := fun e => by
        have up := ok.testOnlyUp e
        rw [closed] at up
        cases up
      closedEmpty := fun _ => ok.closedEmpty (.inl closed) }
  · rw [applyRecord_of_stays s h hl he]
    have load := loadSetpoint_steady (recorded h r s) h (s.head h).record r
    rw [recorded_running] at load
    exact new.trans load
  · rw [applyRecord_of_idle s h hl he, clampOffset, State.head_modLoop]
    exact new
  · rw [applyRecord_of_gone s h hl he, clampOffset, State.head_modLoop]
    exact new.trans (headGone_steady (recorded h r s) h .disabled s.running)

theorem applyRecord_head_of_ne (s : State) {h k : HeadIx} (hk : k ≠ h) (r : HeadRecord) :
    (applyRecord h r s).head k = s.head k := by
  have new := recorded_head_of_ne s h (r := r) hk
  rcases Bool.eq_false_or_eq_true r.enabled with he | he <;> by_cases hl : (s.head h).link = .disabled
  · rw [applyRecord_of_enabled s h hl he, loopEnabled, State.head_modLoop, State.head_modHead_of_ne _ _ hk, new]
  · rw [applyRecord_of_stays s h hl he]
    unfold loadSetpoint offerSetpoint clampOffset
    dsimp only
    (repeat' split) <;>
      simp only [State.head_modLoop, offerCtl_head_of_ne _ hk, new]
  · rw [applyRecord_of_idle s h hl he, clampOffset, State.head_modLoop, new]
  · rw [applyRecord_of_gone s h hl he, clampOffset, State.head_modLoop, headGone_head_of_ne _ hk, new]

/-! ## The whole state -/

namespace QueuesOk
variable {s t : State}

/-- What leaves the part state, the heads' queues and the trunk's sound. -/
theorem mono (hs : QueuesOk s) (hp : t.part = s.part) (hh : ∀ k, HeadSteady s.running (s.head k) (t.head k))
    (ht : TrunkSteady s.trunk t.trunk) : QueuesOk t where
  heads k := (hh k).ok (hs.heads k)
  crane := ht.craneQ ▸ hs.crane
  notice := ht.notice hs.notice
  reply := ht.reply hs.reply
  normal := ht.normalQ ▸ hs.normal
  episode := by rw [ht.craneQ, ht.overrun]; exact hs.episode
  turn := by
    rcases ht.turn with e | e
    · exact e ▸ hs.turn
    · omega
  standbyHeads e k := by
    rw [hp] at e
    obtain ⟨ctl, crane, normal⟩ := hs.standbyHeads e k
    have none := (hh k).empty (by simp [State.running, e]) ⟨ctl, crane, normal⟩
    exact ⟨none.ctl, none.crane, none.normal⟩
  standbyTrunk e := by rw [ht.craneQ, ht.normalQ]; exact hs.standbyTrunk (hp ▸ e)

/-- A change of one head. -/
theorem one (hs : QueuesOk s) (k : HeadIx) (hp : t.part = s.part) (hk : HeadSteady s.running (s.head k) (t.head k))
    (ho : ∀ j, j ≠ k → t.head j = s.head j) (ht : TrunkSteady s.trunk t.trunk) : QueuesOk t :=
  hs.mono hp (fun j => if e : j = k then e ▸ hk else .of_eq (ho j e)) ht

theorem modHead (hs : QueuesOk s) (k : HeadIx) {f : Head → Head} (hf : ∀ d, HeadSteady s.running d (f d)) :
    QueuesOk (s.modHead k f) := by
  refine hs.one k rfl ?_ (fun j hj => State.head_modHead_of_ne _ _ hj) (.refl _)
  rw [State.head_modHead_self]
  exact hf _

/-- A change of the trunk's own queues, where the rest stands. -/
theorem trunk (hs : QueuesOk s) (hp : t.part = s.part) (hh : t.heads = s.heads)
    (crane : t.trunk.craneQ.length ≤ 16) (notice : t.trunk.noticeQ.length ≤ 32) (reply : t.trunk.replyQ.length ≤ 8)
    (normal : t.trunk.normalQ.length ≤ 128) (episode : t.trunk.overrun = true → t.trunk.craneQ ≠ [])
    (turn : t.trunk.exportTurn ≤ 16) (standby : s.part = .standby → t.trunk.craneQ = [] ∧ t.trunk.normalQ = []) :
    QueuesOk t :=
  { heads := fun k => State.head_congr hh k ▸ hs.heads k
    crane, notice, reply, normal, episode, turn
    standbyHeads := fun e k => by rw [State.head_congr hh k]; exact hs.standbyHeads (hp ▸ e) k
    standbyTrunk := fun e => standby (hp ▸ e) }

end QueuesOk


end Sys2Proof.Safety
end

section
/-! The part state changed (10.4), and that every change keeps the queues sound (2.7, 3.4). -/

namespace Sys2Proof.Machine
open Sys2Proof

/-! ## What the removal of an entry and the flush expiry leave alone -/

section Frame
variable (s : State)

@[simp] theorem removeTerm_part (i : SlotIx) (x : Term) : (removeTerm i x s).part = s.part := by
  unfold removeTerm clearReferences; split <;> simp
@[simp] theorem removeTerm_uptime (i : SlotIx) (x : Term) : (removeTerm i x s).uptime = s.uptime := by
  unfold removeTerm clearReferences; split <;> simp
@[simp] theorem removeTerm_heads (i : SlotIx) (x : Term) : (removeTerm i x s).heads = s.heads := by
  unfold removeTerm clearReferences; split <;> simp
@[simp] theorem removeTerm_trunk (i : SlotIx) (x : Term) : (removeTerm i x s).trunk = s.trunk := by
  unfold removeTerm clearReferences; split <;> simp
@[simp] theorem removeTerm_loops (i : SlotIx) (x : Term) : (removeTerm i x s).loops = s.loops := by
  unfold removeTerm clearReferences; split <;> simp
@[simp] theorem removeTerm_exp (i : SlotIx) (x : Term) : (removeTerm i x s).exp = s.exp := by
  unfold removeTerm clearReferences; split <;> simp
@[simp] theorem removeTerm_cov (i : SlotIx) (x : Term) : (removeTerm i x s).cov = s.cov := by
  unfold removeTerm clearReferences; split <;> simp
@[simp] theorem flushExpiry_part : (flushExpiry s).part = s.part := by unfold flushExpiry; split <;> simp
@[simp] theorem flushExpiry_uptime : (flushExpiry s).uptime = s.uptime := by unfold flushExpiry; split <;> simp
@[simp] theorem flushExpiry_heads : (flushExpiry s).heads = s.heads := by unfold flushExpiry; split <;> simp
@[simp] theorem flushExpiry_loops : (flushExpiry s).loops = s.loops := by unfold flushExpiry; split <;> simp
@[simp] theorem flushExpiry_cov : (flushExpiry s).cov = s.cov := by unfold flushExpiry; split <;> simp
@[simp] theorem flushExpiry_terms : (flushExpiry s).terms = s.terms := by unfold flushExpiry; split <;> simp
@[simp] theorem flushExpiry_reef : (flushExpiry s).reef = s.reef := by unfold flushExpiry; split <;> simp
@[simp] theorem clearGroup_part (g : Group) : (clearGroup g s).part = s.part := by cases g <;> rfl
@[simp] theorem clearGroup_uptime (g : Group) : (clearGroup g s).uptime = s.uptime := by cases g <;> rfl
@[simp] theorem applyRecord_part (h : HeadIx) (r : HeadRecord) : (applyRecord h r s).part = s.part := by
  unfold applyRecord loadSetpoint
  dsimp only
  (repeat' split) <;> simp [loopEnabled, clampOffset]

theorem clearGroup_head (g : Group) (k : HeadIx) : ∃ c, (clearGroup g s).head k = { s.head k with cnt := c } := by
  cases g <;> first | exact ⟨_, rfl⟩ | exact ⟨_, by simp only [clearGroup, State.head, look_mapTab]; rfl⟩

theorem clearGroup_trunk (g : Group) : ∃ c, (clearGroup g s).trunk = { s.trunk with cnt := c } := by
  cases g <;> exact ⟨_, rfl⟩

@[simp] theorem offerTrunkCrane_head (f : BerthFrame) (k : HeadIx) : (offerTrunkCrane f s).head k = s.head k :=
  State.head_congr (offerTrunkCrane_heads ..) k

end Frame

/-- The part state moves in START, STOP and SOFT_RESET alone (10.4). -/
theorem Change.part_eq {s t : State} (h : Change s t) :
    t.part = s.part ∨ s.running = false ∧ t = startPart s ∨ t = stopPart s ∨ t = softResetPart s := by
  cases h with
  | start hp => exact .inr (.inl ⟨hp, rfl⟩)
  | stop _ => exact .inr (.inr (.inl rfl))
  | soft => exact .inr (.inr (.inr rfl))
  | clear g => exact .inl (by cases g <;> rfl)
  | flushDue hd => exact .inl (by unfold flushExpiry; split <;> simp)
  | remove i x hx => exact .inl (by unfold removeTerm clearReferences; split <;> simp)
  | apply h r p hp =>
    refine .inl ?_
    unfold applyRecord loadSetpoint
    dsimp only
    (repeat' split) <;> simp [loopEnabled, clampOffset]
  | _ =>
    exact .inl (by
      simp [Machine.grantCrane, Machine.grantNotice, Machine.grantReply, Machine.grantNormal, startLoopTest, setRun])

section Part
variable (s : State)

theorem State.part_of_running_false {s : State} (h : s.running = false) : s.part = .standby := by
  cases hp : s.part
  · rfl
  · simp [State.running, hp] at h

theorem foldl_flush_head (l : List HeadIx) (hl : l.Nodup) (k : HeadIx) :
    (l.foldl (fun s h => flush h s) s).head k = if k ∈ l then (s.head k).flushed else s.head k := by
  induction l generalizing s with
  | nil => rfl
  | cons a l ih =>
    obtain ⟨ha, hl⟩ := List.nodup_cons.mp hl
    rw [List.foldl_cons, ih _ hl]
    by_cases hk : k = a
    · subst hk
      simp [ha]
    · simp [hk, flush_head_of_ne s hk]

@[simp] theorem flushAll_head (k : HeadIx) : (flushAll s).head k = (s.head k).flushed := by
  rw [flushAll, foldl_flush_head s _ (List.nodup_finRange 12)]
  simp

theorem startPart_head (k : HeadIx) : (startPart s).head k = headStarted (s.head k) := by simp [startPart, State.head]

@[simp] theorem startPart_part : (startPart s).part = .running := by simp [startPart]

@[simp] theorem stopPart_part : (stopPart s).part = .standby := rfl

@[simp] theorem stopPart_trunk : (stopPart s).trunk = trunkStopped s.trunk := by simp [stopPart]

theorem stopPart_head (k : HeadIx) : (stopPart s).head k = (s.head k).flushed := by
  have e : (stopPart s).heads = (flushAll s).heads := by simp only [stopPart]
  rw [State.head_congr e, flushAll_head]

@[simp] theorem softResetPart_part : (softResetPart s).part = .standby := rfl

@[simp] theorem softResetPart_trunk :
    (softResetPart s).trunk = { trunkStopped s.trunk with noticeQ := [], replyQ := [] } := by
  simp [softResetPart]

theorem softResetPart_head (k : HeadIx) : (softResetPart s).head k = headSoftReset (s.head k).flushed := by
  have e : (softResetPart s).heads = mapTab headSoftReset (flushAll s).heads := rfl
  rw [State.head, e, look_mapTab, ← State.head, flushAll_head]

end Part

end Sys2Proof.Machine

namespace Sys2Proof.Safety
open Sys2Proof Sys2Proof.Machine

theorem flushed_ok {d : Head} (h : HeadQueuesOk d) : HeadQueuesOk d.flushed where
  ctl := by simp [Head.flushed]
  crane := by simp [Head.flushed]
  normal := by simp [Head.flushed]
  oneSetpoint := by simp [Head.flushed]
  episode := by simp [Head.flushed]
  testOnlyUp := h.testOnlyUp
  closedEmpty _ := ⟨rfl, rfl, rfl⟩

theorem headStarted_ok {d : Head} (h : HeadQueuesOk d) (he : d.ctlQ = []) : HeadQueuesOk (headStarted d) := by
  unfold headStarted
  split
  next t ht =>
    split
    · exact { h with
        ctl := by simp [he]
        oneSetpoint := by simp [he, CtlFrame.isSetpoint]
        testOnlyUp := fun _ => h.testOnlyUp (by simp [ht])
        closedEmpty := fun e => by
          have up := h.testOnlyUp (by simp [ht])
          rcases e with e | e <;> (dsimp only at e; rw [e] at up; cases up) }
    · exact h
  · exact h

theorem softReset_ok {d : Head} (h : HeadQueuesOk d) : HeadQueuesOk (headSoftReset d.flushed) :=
  { flushed_ok h with testOnlyUp := fun e => by cases e }

theorem headHeld_steady (run : Bool) (d : Head) : HeadSteady run d (headHeld d) := by
  refine ⟨fun h => ?_, fun _ h => ⟨h.ctl, h.crane, h.normal⟩⟩
  refine { h with testOnlyUp := (fun e => nomatch e), closedEmpty := fun e => h.closedEmpty ?_ }
  unfold headHeld at e
  revert e
  cases d.link <;> simp

namespace QueuesOk
variable {s t : State}

theorem start (hs : QueuesOk s) (hp : s.running = false) : QueuesOk (startPart s) := by
  have hst := State.part_of_running_false hp
  have ht := startPart_trunk s
  have standby : (startPart s).part ≠ .standby := by simp
  refine
    { heads := fun k => ?_
      crane := ht.craneQ ▸ hs.crane, notice := ht.notice hs.notice, reply := ht.reply hs.reply
      normal := ht.normalQ ▸ hs.normal, episode := by rw [ht.craneQ, ht.overrun]; exact hs.episode
      turn := ?_, standbyHeads := fun e => (standby e).elim, standbyTrunk := fun e => (standby e).elim }
  · rw [startPart_head]
    exact headStarted_ok (hs.heads k) (hs.standbyHeads hst k).1
  · rcases ht.turn with e | e
    · exact e ▸ hs.turn
    · omega

/-- The queues of data frames and of the heads emptied. -/
theorem quieted {n : List Notice} {q : List Reply}
    (ht : t.trunk = { trunkStopped s.trunk with noticeQ := n, replyQ := q }) (hn : n.length ≤ 32) (hq : q.length ≤ 8)
    (hh : ∀ k, HeadQueuesOk (t.head k)) (he : ∀ k, NoFrames (t.head k)) : QueuesOk t where
  heads := hh
  crane := by simp [ht, trunkStopped]
  notice := by simpa [ht] using hn
  reply := by simpa [ht] using hq
  normal := by simp [ht, trunkStopped]
  episode := by simp [ht, trunkStopped]
  turn := by simp [ht, trunkStopped]
  standbyHeads _ k := ⟨(he k).ctl, (he k).crane, (he k).normal⟩
  standbyTrunk _ := by simp [ht, trunkStopped]

theorem stop (hs : QueuesOk s) : QueuesOk (stopPart s) := by
  refine quieted (stopPart_trunk s) hs.notice hs.reply (fun k => ?_) fun k => ?_ <;> rw [stopPart_head]
  · exact flushed_ok (hs.heads k)
  · exact ⟨rfl, rfl, rfl⟩

theorem soft (hs : QueuesOk s) : QueuesOk (softResetPart s) := by
  refine quieted (softResetPart_trunk s) (by simp) (by simp) (fun k => ?_) fun k => ?_ <;> rw [softResetPart_head]
  · exact softReset_ok (hs.heads k)
  · exact ⟨rfl, rfl, rfl⟩

theorem hardReset_ok (b : Bool) : HeadQueuesOk (Head.hardReset b) := by
  constructor <;> simp [Head.hardReset]

theorem trunkCrane (hs : QueuesOk s) (f : BerthFrame) (hr : s.part ≠ .standby) : QueuesOk (offerTrunkCrane f s) := by
  have standby {p : Prop} (h : s.part = .standby) : p := (hr h).elim
  unfold offerTrunkCrane
  split
  next hl =>
    exact hs.trunk rfl rfl (by simpa using hl) hs.notice hs.reply hs.normal (fun _ => by simp) hs.turn standby
  next hl =>
    have full : s.trunk.craneQ ≠ [] := fun e => hl (by simp [e])
    have counted : QueuesOk (s.countTrunk fun c => { c with craneDrop := inc c.craneDrop }) :=
      hs.mono rfl (fun k => .refl _) ⟨rfl, rfl, rfl, id, id, .inl rfl⟩
    dsimp only
    split
    · exact counted
    · have opened : QueuesOk ((s.countTrunk fun c => { c with craneDrop := inc c.craneDrop }).modTrunk fun t =>
          { t with overrun := true }) :=
        counted.trunk rfl rfl hs.crane hs.notice hs.reply hs.normal (fun _ => full) hs.turn standby
      exact opened.mono (by simp) (fun k => .of_eq (raise_head ..)) (raise_trunk ..)

theorem trunkNormal (hs : QueuesOk s) (f : BerthFrame) (hr : s.part ≠ .standby) : QueuesOk (offerTrunkNormal f s) := by
  unfold offerTrunkNormal
  split
  next hl =>
    exact hs.trunk rfl rfl hs.crane hs.notice hs.reply (by simpa using hl) hs.episode hs.turn fun h => (hr h).elim
  · exact hs.mono rfl (fun k => .refl _) ⟨rfl, rfl, rfl, id, id, .inl rfl⟩

theorem setpoint (hs : QueuesOk s) (h : HeadIx) (v : Nat) : QueuesOk (offerSetpoint h v s) := by
  refine hs.one h (by simp) ?_ (fun j hj => ?_) (.of_eq (by simp)) <;> rw [offerSetpoint, State.head_modLoop]
  · exact offerCtl_steady s h _
  · exact offerCtl_head_of_ne s hj _

theorem loop (hs : QueuesOk s) (h : HeadIx) (f : LoopState → LoopState) : QueuesOk (s.modLoop h f) :=
  hs.mono rfl (fun _ => .refl _) (.refl _)

theorem grantExport (hs : QueuesOk s) : QueuesOk (grantExport s) := by
  refine hs.mono (by simp) (fun k => .of_eq (State.head_congr (by simp) k)) ?_
  unfold Machine.grantExport
  dsimp only
  refine .trans (.trans ?_ (.of_eq (armFlush_trunk _))) (judgeRequest_trunk _)
  rw [State.modTrunk_trunk, State.modExp_trunk,
    foldl_keeps State.trunk markExported (fun s p => markExported_trunk s p)]
  exact ⟨rfl, rfl, rfl, id, id, .inr rfl⟩

theorem change {s t : State} (h : Change s t) (hs : QueuesOk s) : QueuesOk t := by
  have hr (h : s.running = true) : s.part ≠ .standby := by
    intro e
    simp [State.running, e] at h
  cases h with
  | start hp => exact hs.start hp
  | stop _ => exact hs.stop
  | soft => exact hs.soft
  | clear g =>
    obtain ⟨c, hc⟩ := clearGroup_trunk s g
    refine hs.mono (by simp) (fun k => ?_) (by rw [hc]; exact ⟨rfl, rfl, rfl, id, id, .inl rfl⟩)
    obtain ⟨c, hc⟩ := clearGroup_head s g k
    rw [hc]
    exact .of_queues rfl id (.refl _) rfl rfl rfl
  | notice n => exact hs.mono (by simp) (fun k => .of_eq (State.head_congr (by simp) k)) (offerNotice_trunk s n)
  | reply r hq => exact hs.mono rfl (fun k => .refl _) (appendReply_trunk s r hq)
  | trunkLink f hf =>
    refine hs.mono rfl (fun k => .refl _) ?_
    rw [State.modTrunk_trunk, hf]
    exact ⟨rfl, rfl, rfl, id, id, .inl rfl⟩
  | countTrunk f => exact hs.mono rfl (fun k => .refl _) ⟨rfl, rfl, rfl, id, id, .inl rfl⟩
  | trunkCrane f hrun => exact hs.trunkCrane f (hr hrun)
  | trunkNormal f hrun => exact hs.trunkNormal f (hr hrun)
  | @grantCrane f rest hq =>
    have len : rest.length ≤ 16 := by have := hs.crane; rw [hq] at this; simp at this; omega
    refine hs.trunk rfl rfl len hs.notice hs.reply hs.normal (fun e => ?_) hs.turn fun e => ?_
    · simp only [Machine.grantCrane, State.modTrunk_trunk, Bool.and_eq_true, Bool.not_eq_true',
        List.isEmpty_eq_false_iff] at e
      exact e.2
    · exact absurd (hs.standbyTrunk e).1 (by simp [hq])
  | @grantNotice n rest hq =>
    have len : rest.length ≤ 32 := by have := hs.notice; rw [hq] at this; simp at this; omega
    exact hs.trunk rfl rfl hs.crane len hs.reply hs.normal hs.episode hs.turn hs.standbyTrunk
  | @grantReply r rest hq =>
    have len : rest.length ≤ 8 := by have := hs.reply; rw [hq] at this; simp at this; omega
    exact hs.trunk rfl rfl hs.crane hs.notice len hs.normal hs.episode hs.turn hs.standbyTrunk
  | @grantNormal f rest hq ht =>
    have len : rest.length ≤ 128 := by have := hs.normal; rw [hq] at this; simp at this; omega
    refine hs.trunk rfl rfl hs.crane hs.notice hs.reply len hs.episode ?_ fun e => ?_
    · show (if s.exp.request = true then s.trunk.exportTurn + 1 else s.trunk.exportTurn) ≤ 16
      have turn := hs.turn
      split
      next he =>
        have low : ¬16 ≤ s.trunk.exportTurn := fun h => ht ⟨he, h⟩
        omega
      · exact turn
    · exact absurd (hs.standbyTrunk e).2 (by simp [hq])
  | grantExport hreq => exact hs.grantExport
  | headView k f hf =>
    refine hs.one k rfl ?_ (fun j hj => State.head_modHead_of_ne _ _ hj) (.refl _)
    rw [State.head_modHead_self, hf]
    exact .of_queues rfl id (.refl _) rfl rfl rfl
  | ctl k f hf =>
    exact hs.one k (by simp) (offerCtl_steady s k f) (fun j hj => offerCtl_head_of_ne s hj f) (.of_eq (by simp))
  | headCrane k f =>
    exact hs.one k (by simp) (offerHeadCrane_steady s k f) (fun j hj => offerHeadCrane_head_of_ne s hj f)
      (offerHeadCrane_trunk s k f)
  | headNormal k f =>
    exact hs.one k (by simp) (offerHeadNormal_steady s k f) (fun j hj => offerHeadNormal_head_of_ne s hj f)
      (.of_eq (by simp))
  | serve k => exact hs.modHead k fun d => serve_steady _ d
  | withoutTest k => exact hs.modHead k fun d => withoutTest_steady _ d
  | startTest k p a hu hq =>
    exact hs.one k rfl (startTest_steady p a hu hq) (fun j hj => State.head_modHead_of_ne _ _ hj) (.refl _)
  | goesUp k d hl => exact hs.modHead k fun x => goesUp_steady _ x d
  | timer k r q hl hk =>
    refine hs.one k rfl ?_ (fun j hj => State.head_modHead_of_ne _ _ hj) (.refl _)
    rw [State.head_modHead_self]
    exact timer_steady hl q
  | gone k next warm hn hl =>
    exact hs.one k (by simp) (headGone_steady s k hn _) (fun j hj => headGone_head_of_ne s hj next warm)
      (headGone_trunk s k next warm)
  | apply k r p hp =>
    exact hs.one k (by simp) (applyRecord_steady s k r) (fun j hj => applyRecord_head_of_ne s hj r)
      (applyRecord_trunk s k r)
  | setpoint k v hv => exact hs.setpoint k v
  | guard k => exact (hs.loop k _).setpoint k _
  | join i r why hr => exact hs.mono (by simp) (fun k => .of_eq (State.head_congr (by simp) k)) (joinList_trunk s i r why)
  | flushDue hd => exact hs.mono (by simp) (fun k => .of_eq (State.head_congr (by simp) k)) (flushExpiry_trunk s)
  | free i r hr => exact hs.mono (by simp) (fun k => .of_eq (State.head_congr (by simp) k)) (freeReefer_trunk s i r)
  | _ =>
    refine hs.mono ?_ (fun k => .of_eq (State.head_congr ?_ k)) (.of_eq ?_) <;> simp [setRun]

end QueuesOk

theorem queuesOk_kept : Kept QueuesOk where
  change _ _ h hs := hs.change h
  queue _ _ _ hs := hs.mono rfl (fun _ => .refl _) (.refl _)
  time _ hs := hs.mono rfl (fun _ => .refl _) (.refl _)
  asserted s hs := by
    refine hs.mono rfl (fun k => ?_) ⟨rfl, rfl, rfl, id, id, .inl rfl⟩
    have e : (resetAsserted s).head k = headHeld (s.head k) := by simp [resetAsserted, State.head]
    rw [e]
    exact headHeld_steady ..
  released b s :=
    { heads := fun k => by
        have e : (released b s).head k = Head.hardReset (s.head k).ethUp := by simp [released, State.head]
        rw [e]
        exact QueuesOk.hardReset_ok _
      crane := by simp [released, Trunk.hardReset], notice := by simp [released, Trunk.hardReset]
      reply := by simp [released, Trunk.hardReset], normal := by simp [released, Trunk.hardReset]
      episode := by simp [released, Trunk.hardReset], turn := by simp [released, Trunk.hardReset]
      standbyHeads := fun _ k => by simp [released, State.head, Head.hardReset]
      standbyTrunk := fun _ => by simp [released, Trunk.hardReset] }

/-- Settles O52: a change moves one head's queues or the trunk's, and each keeps them sound. -/
theorem stepsKeepTheQueues : Obligations.StepsKeepTheQueues := by
  unfold Obligations.StepsKeepTheQueues
  exact fun s t hs h => queuesOk_kept.step hs h

end Sys2Proof.Safety
end

section
/-! Terminal entries and head links, change by change, and that no step breaks what follows Table 5-1 of serving and
candidate heads. -/

namespace Sys2Proof.Machine
open Sys2Proof Sys2Proof.Safety

/-! ## The reefer count of a gateway entry (R132) -/

/-- A gateway entry's reefer count changed. -/
def Term.bumped (f : Nat → Nat) (t : Term) : Term :=
  match t.part with
  | .gateway st n => { t with part := .gateway st (f n) }
  | .crane _ | .vehicle | .other => t

theorem Term.bumped_ho (f : Nat → Nat) (t : Term) : (t.bumped f).ho = t.ho := by
  unfold bumped
  split <;> rfl

theorem Term.bumped_cls (f : Nat → Nat) (t : Term) : (t.bumped f).part.cls = t.part.cls := by
  unfold bumped
  split
  next h => rw [h]; rfl
  all_goals rfl

section Bump
variable (s : State)

theorem bumpReefers_term (o : Option SlotIx) (f : Nat → Nat) (j : SlotIx) :
    (bumpReefers o f s).term j = if o = some j then (s.term j).map (Term.bumped f) else s.term j := by
  unfold bumpReefers
  cases o with
  | none => simp
  | some i =>
    dsimp only
    split
    next ht =>
      split
      next e => cases e; rw [ht]; rfl
      · rfl
    next t ht =>
      by_cases e : some i = some j
      · cases e
        rw [if_pos rfl, ht, Option.map_some]
        unfold Term.bumped
        cases hp : t.part <;> simp [ht]
      · have hj : j ≠ i := fun h => e (by rw [h])
        rw [if_neg e]
        split <;> simp [State.term_setTerm, hj]

theorem moveReefer_term (o : Option SlotIx) (g j : SlotIx) : (moveReefer o g s).term j =
    if o = some g then s.term j
    else if g = j then (s.term j).map (Term.bumped (· + 1))
    else if o = some j then (s.term j).map (Term.bumped (· - 1))
    else s.term j := by
  unfold moveReefer
  split
  · rfl
  next hg =>
    rw [bumpReefers_term, bumpReefers_term]
    by_cases e : g = j
    · subst e
      simp [hg]
    · simp [e]

theorem freeReefer_terms (i : ReeferIx) (r : Reefer) :
    (freeReefer i r s).terms = (bumpReefers r.gateway (· - 1) (s.setReefer i none)).terms := by
  unfold freeReefer
  dsimp only
  split <;> simp

theorem freeReefer_term (i : ReeferIx) (r : Reefer) (j : SlotIx) : (freeReefer i r s).term j =
    if r.gateway = some j then (s.term j).map (Term.bumped (· - 1)) else s.term j := by
  rw [State.term_congr (freeReefer_terms s i r), bumpReefers_term]
  rfl

/-! ## The part state -/

theorem startPart_term (j : SlotIx) : (startPart s).term j =
    (s.term j).map (termStarted (s.uptime + s.params.gatewaySilence * 1000)) := by
  simp [startPart, State.term]

theorem stopPart_term (j : SlotIx) : (stopPart s).term j = (s.term j).map termStopped := by
  simp [stopPart, State.term]

theorem softResetPart_term (j : SlotIx) : (softResetPart s).term j = (s.term j).map termSoftReset := by
  simp [softResetPart, State.term]

end Bump

/-! ## Head links -/

/-- A head that was servable is, and one that was UP is. -/
structure LinkHolds (l m : HeadLink) : Prop where
  servable : servable l = true → servable m = true
  up : l.isUp = true → m.isUp = true

theorem LinkHolds.refl (l : HeadLink) : LinkHolds l l := ⟨id, id⟩

theorem LinkHolds.of_eq {l m : HeadLink} (h : m = l) : LinkHolds l m := h ▸ refl m

theorem LinkHolds.of_disabled {l : HeadLink} (h : l = .disabled) (m : HeadLink) : LinkHolds l m := by
  subst h
  constructor <;> intro h <;> cases h

theorem LinkHolds.goesUp (l : HeadLink) (d : Nat) : LinkHolds l (.up d) := ⟨fun _ => rfl, fun _ => rfl⟩

theorem LinkHolds.timer {l : HeadLink} {r q : Restart} (h : l = .restarting r) (hk : q.kind = r.kind) :
    LinkHolds l (.restarting q) := by
  subst h
  constructor
  · intro h
    simpa [Safety.servable, hk] using h
  · intro h
    cases h

section Links
variable {s : State}

theorem modHead_holds (h : HeadIx) {f : Head → Head} (hf : LinkHolds (s.head h).link (f (s.head h)).link) (k : HeadIx) :
    LinkHolds (s.head k).link ((s.modHead h f).head k).link := by
  by_cases e : k = h
  · subst e
    rwa [State.head_modHead_self]
  · rw [State.head_modHead_of_ne _ _ e]
    exact .refl _

theorem loadSetpoint_link (h : HeadIx) (old new : HeadRecord) (k : HeadIx) :
    ((loadSetpoint h old new s).head k).link = (s.head k).link := by
  unfold loadSetpoint
  dsimp only
  (repeat' split) <;> first | rfl | exact offerSetpoint_link ..

theorem offerHeadCrane_link (h : HeadIx) (f : BerthFrame) (k : HeadIx) :
    ((offerHeadCrane h f s).head k).link = (s.head k).link := by
  by_cases e : k = h
  · subst e
    obtain ⟨c, hc⟩ := offerHeadCrane_head s k f
    rw [hc]
  · rw [offerHeadCrane_head_of_ne s e]

theorem offerHeadNormal_link (h : HeadIx) (f : BerthFrame) (k : HeadIx) :
    ((offerHeadNormal h f s).head k).link = (s.head k).link := by
  by_cases e : k = h
  · subst e
    obtain ⟨c, hc⟩ := offerHeadNormal_head s k f
    rw [hc]
  · rw [offerHeadNormal_head_of_ne s e]

theorem headGone_link (h : HeadIx) (next : HeadLink) (warm : Bool) (k : HeadIx) :
    ((headGone h next warm s).head k).link = if k = h then next else (s.head k).link := by
  split
  next e =>
    subst e
    obtain ⟨c, hc⟩ := headGone_head s k next warm
    rw [hc]
  next e => rw [headGone_head_of_ne s e]

theorem clearGroup_link (g : Group) (k : HeadIx) : ((clearGroup g s).head k).link = (s.head k).link := by
  obtain ⟨c, hc⟩ := clearGroup_head s g k
  rw [hc]

theorem startPart_link (k : HeadIx) : ((startPart s).head k).link = (s.head k).link := by
  rw [startPart_head]
  unfold headStarted
  (repeat' split) <;> rfl

theorem serve_link (d : Head) : d.serve.link = d.link := by
  unfold Head.serve Head.serveQueues
  (repeat' split) <;> rfl

end Links

/-- A link goes down when its head is gone, alone. -/
theorem Change.links {s t : State} (h : Change s t) : (∀ k, LinkHolds (s.head k).link (t.head k).link) ∨
    (∃ h next warm, GoneTo next warm ∧ t = headGone h next warm s) ∨ ∃ h r, t = applyRecord h r s := by
  cases h with
  | gone k next warm hn hl => exact .inr (.inl ⟨k, next, warm, hn, rfl⟩)
  | apply k r p hp => exact .inr (.inr ⟨k, r, rfl⟩)
  | headView k f hf => exact .inl (modHead_holds k (.of_eq (by rw [hf])))
  | ctl k f hf => exact .inl fun j => .of_eq (offerCtl_link ..)
  | headCrane k f => exact .inl fun j => .of_eq (offerHeadCrane_link ..)
  | headNormal k f => exact .inl fun j => .of_eq (offerHeadNormal_link ..)
  | serve k => exact .inl (modHead_holds k (.of_eq (serve_link _)))
  | withoutTest k => exact .inl (modHead_holds k (.of_eq rfl))
  | startTest k p a hu hq => exact .inl (modHead_holds k (.of_eq rfl))
  | goesUp k d hl => exact .inl (modHead_holds k (.goesUp _ d))
  | timer k r q hl hk => exact .inl (modHead_holds k (.timer hl hk))
  | setpoint k v hv => exact .inl fun j => .of_eq (offerSetpoint_link ..)
  | guard k => exact .inl fun j => .of_eq (offerSetpoint_link ..)
  | clear g => exact .inl fun j => .of_eq (clearGroup_link g j)
  | start hp => exact .inl fun j => .of_eq (startPart_link j)
  | stop hp => exact .inl fun j => .of_eq (by rw [stopPart_head]; rfl)
  | soft => exact .inl fun j => .of_eq (by rw [softResetPart_head]; rfl)
  | _ =>
    refine .inl fun j => .of_eq (congrArg Head.link (State.head_congr ?_ j))
    simp [Machine.grantCrane, Machine.grantNotice, Machine.grantReply, Machine.grantNormal, setRun]

end Sys2Proof.Machine
end

section
/-! O53: serving and candidate heads (Table 5-1). -/

namespace Sys2Proof.Safety
open Sys2Proof Sys2Proof.Machine

namespace HandoverOk
variable {s t : State} {x y : Term}

theorem mono (h : HandoverOk s x) (hl : ∀ k, LinkHolds (s.head k).link (t.head k).link) (hh : y.ho = x.ho)
    (hc : y.part.cls = x.part.cls) : HandoverOk t y where
  serving v e := (hl v).servable (h.serving v (hh ▸ e))
  candidate c e := by
    obtain ⟨up, ne⟩ := h.candidate c (hh ▸ e)
    exact ⟨(hl c).up up, hh ▸ ne⟩
  bicastCrane e := by
    have := h.bicastCrane (hh ▸ e)
    rw [Term.isCrane] at this ⊢
    rwa [hc]

theorem servable_of_isUp {k : HeadIx} (h : s.isUp k = true) : servable (s.head k).link = true := by
  unfold State.isUp HeadLink.isUp at h
  split at h
  next n hn => rw [hn]; rfl
  · cases h

theorem orphan (h : x.ho = .orphan) : HandoverOk s x where
  serving v e := by rw [h] at e; cases e
  candidate c e := by rw [h] at e; cases e
  bicastCrane e := by rw [h] at e; cases e

theorem settled {v : HeadIx} (h : x.ho = .settled v) (hv : servable (s.head v).link = true) : HandoverOk s x where
  serving w e := by rw [h] at e; cases e; exact hv
  candidate c e := by rw [h] at e; cases e
  bicastCrane e := by rw [h] at e; cases e

/-- A handover moves an entry to states that Table 5-1 allows. -/
theorem move (h : HandoverOk s x) (hm : HoMove s x y.ho) (hp : y.part = x.part) : HandoverOk s y := by
  generalize hy : y.ho = ho at hm
  cases hm with
  | keep => exact h.mono (fun k => .refl _) hy (by rw [hp])
  | orphan => exact .orphan hy
  | anchor hr hv => exact .settled hy (servable_of_isUp hv)
  | move hv hc => exact .settled hy (servable_of_isUp hc)
  | settle hv => exact .settled hy (h.serving _ hv)
  | arrive hc => exact .settled hy (servable_of_isUp (h.candidate _ hc).1)
  | probe hv hc hne =>
    exact
      { serving := fun w e => by rw [hy] at e; cases e; exact h.serving _ hv
        candidate := fun c e => by
          rw [hy] at e ⊢
          cases e
          exact ⟨hc, fun e => hne (Option.some.inj e).symm⟩
        bicastCrane := fun e => by rw [hy] at e; cases e }
  | bicast hv hc hne ht =>
    exact
      { serving := fun w e => by rw [hy] at e; cases e; exact h.serving _ hv
        candidate := fun c e => by
          rw [hy] at e ⊢
          cases e
          exact ⟨hc, fun e => hne (Option.some.inj e).symm⟩
        bicastCrane := fun _ => by rw [Term.isCrane, hp]; exact ht }

/-- After a departure no entry is served by a head that left, unless on WARM, and none has it for a candidate
(Table 5-3). -/
theorem departed (h : HandoverOk s x) {d : HeadIx} {next : HeadLink} {warm : Bool} (hn : GoneTo next warm)
    (ht : ∀ k, (t.head k).link = if k = d then next else (s.head k).link) (n : Nat) :
    HandoverOk t (x.departed d warm n) := by
  have warmOk (hw : warm = true) : servable next = true := by cases hn <;> simp_all [servable]
  have other {k : HeadIx} (hk : k ≠ d) : (t.head k).link = (s.head k).link := by rw [ht k, if_neg hk]
  have served {k : HeadIx} (hs : servable (s.head k).link = true) (hw : k = d → warm = true) :
      servable (t.head k).link = true := by
    rw [ht k]
    split
    next e => exact warmOk (hw e)
    · exact hs
  have up {k : HeadIx} (hs : s.isUp k = true) (hk : k ≠ d) : t.isUp k = true := by
    rw [State.isUp, other hk]
    exact hs
  unfold Term.departed
  cases hx : x.ho with
  | orphan => exact .orphan hx
  | settled v =>
    dsimp only
    split
    · exact .orphan rfl
    next hv => exact .settled hx (served (h.serving v (by rw [hx]; rfl)) fun e => by simpa [e] using hv)
  | probing v c =>
    have hv := h.serving v (by rw [hx]; rfl)
    obtain ⟨hc, hne⟩ := h.candidate c (by rw [hx]; rfl)
    have hne : c ≠ v := fun e => hne (by rw [hx, e]; rfl)
    have stay (hw : v = d → warm = true) (hcd : c ≠ d) : HandoverOk t x :=
      { serving := fun w e => by rw [hx] at e; cases e; exact served hv hw
        candidate := fun w e => by
          rw [hx] at e ⊢
          cases e
          exact ⟨up hc hcd, fun e => hne (Option.some.inj e).symm⟩
        bicastCrane := fun e => by rw [hx] at e; cases e }
    dsimp only
    split
    next e =>
      split
      next hw => exact stay (fun _ => hw) (e ▸ hne)
      · exact .orphan rfl
    next hvd =>
      split
      · exact .settled rfl (served hv fun e => absurd e hvd)
      next hcd => exact stay (fun e => absurd e hvd) hcd
  | bicast v c w =>
    have hv := h.serving v (by rw [hx]; rfl)
    obtain ⟨hc, hne⟩ := h.candidate c (by rw [hx]; rfl)
    have hne : c ≠ v := fun e => hne (by rw [hx, e]; rfl)
    dsimp only
    split
    next e => exact .settled rfl (servable_of_isUp (up hc (e ▸ hne)))
    next hvd =>
      split
      · exact .settled rfl (served hv fun e => absurd e hvd)
      next hcd =>
        exact
          { serving := fun w e => by rw [hx] at e; cases e; exact served hv fun e => absurd e hvd
            candidate := fun w e => by
              rw [hx] at e ⊢
              cases e
              exact ⟨up hc hcd, fun e => hne (Option.some.inj e).symm⟩
            bicastCrane := fun _ => h.bicastCrane (by rw [hx]; rfl) }

end HandoverOk

namespace HandoversOk
variable {s t : State}

theorem of_map (hs : HandoversOk s) (hl : ∀ k, LinkHolds (s.head k).link (t.head k).link)
    (ht : ∀ i y, t.term i = some y → ∃ x, s.term i = some x ∧ (HandoverOk s x → HandoverOk s y)) : HandoversOk t := by
  intro i y hy
  obtain ⟨x, hx, hxy⟩ := ht i y hy
  exact (hxy (hs i x hx)).mono hl rfl rfl

theorem mono (hs : HandoversOk s) (hl : ∀ k, LinkHolds (s.head k).link (t.head k).link) (ht : t.terms = s.terms) :
    HandoversOk t :=
  hs.of_map hl fun i y hy => ⟨y, by rwa [State.term_congr ht] at hy, id⟩

/-- One slot written. -/
theorem set (hs : HandoversOk s) (i : SlotIx) {y : Term} (hy : HandoverOk s y) :
    HandoversOk (s.setTerm i (some y)) := by
  intro j z hz
  rw [State.term_setTerm] at hz
  split at hz
  · cases hz
    exact hy.mono (fun k => .refl _) rfl rfl
  · exact (hs j z hz).mono (fun k => .refl _) rfl rfl

theorem mapped (hs : HandoversOk s) {f : SlotIx → Term → Term} (hl : ∀ k, LinkHolds (s.head k).link (t.head k).link)
    (hf : ∀ i x, HandoverOk s x → HandoverOk s (f i x)) (ht : ∀ i, t.term i = (s.term i).map (f i)) :
    HandoversOk t := by
  refine hs.of_map hl fun i y hy => ?_
  rw [ht] at hy
  obtain ⟨x, hx, rfl⟩ := Option.map_eq_some_iff.mp hy
  exact ⟨x, hx, hf i x⟩

/-- A reefer count says nothing of a handover. -/
theorem of_bumped {f : Nat → Nat} {j : SlotIx} {y : Term} (h : (s.term j).map (Term.bumped f) = some y) :
    ∃ x, s.term j = some x ∧ (HandoverOk s x → HandoverOk s y) := by
  obtain ⟨x, hx, rfl⟩ := Option.map_eq_some_iff.mp h
  exact ⟨x, hx, fun ok => ok.mono (fun k => .refl _) (x.bumped_ho f) (x.bumped_cls f)⟩

theorem gone (hs : HandoversOk s) {h : HeadIx} {next : HeadLink} {warm : Bool} (hn : GoneTo next warm) :
    HandoversOk (headGone h next warm s) := by
  intro i y hy
  rw [headGone_term] at hy
  obtain ⟨x, hx, rfl⟩ := Option.map_eq_some_iff.mp hy
  exact (hs i x hx).departed hn (headGone_link h next warm) _

theorem apply (hs : HandoversOk s) (h : HeadIx) (r : HeadRecord) : HandoversOk (applyRecord h r s) := by
  have new : HandoversOk (recorded h r s) := hs.mono (fun k => .of_eq (recorded_link s h k)) (recorded_terms s h)
  rcases Bool.eq_false_or_eq_true r.enabled with he | he <;> by_cases hl : (s.head h).link = .disabled
  · rw [applyRecord_of_enabled s h hl he]
    have closed : ((recorded h r s).head h).link = .disabled := by rw [recorded_link, hl]
    exact new.mono (modHead_holds (f := fun d => { d with link := .offline }) h (.of_disabled closed _)) rfl
  · rw [applyRecord_of_stays s h hl he]
    exact new.mono (fun k => .of_eq (loadSetpoint_link ..)) (by
      unfold loadSetpoint
      dsimp only
      (repeat' split) <;> simp [clampOffset])
  · rw [applyRecord_of_idle s h hl he]
    exact new.mono (fun k => .refl _) rfl
  · rw [applyRecord_of_gone s h hl he]
    have gone : HandoversOk (headGone h .disabled false (recorded h r s)) := new.gone .disabled
    generalize headGone h .disabled false (recorded h r s) = u at gone
    exact gone.mono (fun k => .refl _) rfl

theorem change (h : Change s t) (hs : HandoversOk s) : HandoversOk t := by
  rcases h.links with hl | ⟨k, next, warm, hn, rfl⟩ | ⟨k, r, rfl⟩
  · cases h with
    | term i x y hx hn hp hg hm => exact hs.set i ((hs i x hx).move hm hp)
    | cranePart i x c c' hx hc hq =>
      exact hs.set i ((hs i x hx).mono (fun k => .refl _) rfl (by rw [hc]; rfl))
    | gatewayState i x g g' n hx hg hq =>
      exact hs.set i ((hs i x hx).mono (fun k => .refl _) rfl (by rw [hg]; rfl))
    | segment i b =>
      cases hx : s.term i with
      | none => rwa [recordSegment_free hx]
      | some x =>
        have set := hs.set i (y := { x with segment := segmentOf b }) ((hs i x hx).mono (fun k => .refl _) rfl rfl)
        exact set.mono (t := recordSegment i b s) hl (recordSegment_terms hx b)
    | load i n c hi hb hlook => exact hs.set i (.orphan rfl)
    | remove i x hx =>
      refine hs.of_map hl fun j y hy => ⟨y, ?_, id⟩
      rw [State.term, removeTerm_terms, look_put] at hy
      split at hy
      · cases hy
      · exact hy
    | start hp =>
      refine hs.mapped (f := fun _ => termStarted _) hl (fun i x hx => ?_) (startPart_term s)
      unfold termStarted
      split
      next hg => exact hx.mono (fun k => .refl _) rfl (by rw [hg]; rfl)
      · exact hx
    | stop hp => exact hs.mapped (f := fun _ => termStopped) hl (fun i x hx => .orphan rfl) (stopPart_term s)
    | soft => exact hs.mapped (f := fun _ => termSoftReset) hl (fun i x hx => .orphan rfl) (softResetPart_term s)
    | place i r r' g hr hrun hg ht hg' hp ha hsil =>
      refine hs.of_map hl fun j y hy => ?_
      change (moveReefer r.gateway g s).term j = some y at hy
      rw [moveReefer_term] at hy
      (repeat' split at hy) <;> first | exact ⟨y, hy, id⟩ | exact of_bumped hy
    | free i r hr =>
      refine hs.of_map hl fun j y hy => ?_
      rw [freeReefer_term] at hy
      split at hy
      · exact of_bumped hy
      · exact ⟨y, hy, id⟩
    | gone k next warm hn hl => exact hs.gone hn
    | apply k r p hp => exact hs.apply k r
    | clear g => exact hs.mono hl (by simp)
    | _ => 
      refine hs.mono hl ?_
      simp [Machine.grantCrane, Machine.grantNotice, Machine.grantReply, Machine.grantNormal, startLoopTest, setRun]
  · exact hs.gone hn
  · exact hs.apply k r

end HandoversOk

theorem handoversOk_kept : Kept HandoversOk where
  change _ _ h hs := hs.change h
  queue _ _ _ hs := hs.mono (fun _ => .refl _) rfl
  time _ hs := hs.mono (fun _ => .refl _) rfl
  asserted s hs := by
    refine hs.mono (fun k => ?_) rfl
    have e : (resetAsserted s).head k = headHeld (s.head k) := by simp [resetAsserted, State.head]
    rw [e]
    unfold headHeld
    cases hl : (s.head k).link with
    | restarting r => exact .timer rfl rfl
    | _ => exact .refl _
  released b s i x hx := by simp [released_term] at hx

/-- Settles O53: a head that goes down departs, and its departure leaves no entry on it (Table 5-3). -/
theorem stepsKeepTheHandovers : Obligations.StepsKeepTheHandovers := by
  unfold Obligations.StepsKeepTheHandovers
  exact fun s t hs h => handoversOk_kept.step hs h

end Sys2Proof.Safety
end

section
/-! The Export Unit and the Reefer Table (chapters 8 and 9): what each operation leaves of the deadline, the request and
the entries. -/

namespace Sys2Proof.Machine
open Sys2Proof

/-! ## The flush deadline and the request (R147, R148) -/

/-- R147: the flush deadline of the front item, while RUNNING. -/
def State.flushAt (s : State) : Option Nat :=
  if s.part = .running then s.exp.list.head?.map fun p => p.join + s.mgmt.params.flushInterval else none

section Export
variable (s : State)

theorem armFlush_eq : armFlush s =
    { s with exp := { s.exp with deadline := s.flushAt, expired := s.flushAt.any fun d => decide (d ≤ s.uptime) } } := by
  unfold armFlush State.flushAt
  split
  next h => simp [h, State.modExp]
  next h =>
    by_cases hr : s.part = .running
    · dsimp only [State.params]
      simp [h, State.modExp, State.running, hr]
    · simp [State.modExp, State.running, hr]

theorem judgeRequest_eq : judgeRequest s =
    { s with
      exp := { s.exp with request := s.requestStands }
      trunk := { s.trunk with
        exportTurn := if s.exp.request = true ∧ s.requestStands = false then 0 else s.trunk.exportTurn } } := by
  unfold judgeRequest
  dsimp only
  by_cases h : s.exp.request = true ∧ s.requestStands = false
  · rw [if_pos (by simp [h]), if_pos h]
    rfl
  · rw [if_neg (by simpa using h), if_neg h]
    rfl

@[simp] theorem armFlush_list : (armFlush s).exp.list = s.exp.list := by rw [armFlush_eq]
@[simp] theorem armFlush_request : (armFlush s).exp.request = s.exp.request := by rw [armFlush_eq]
@[simp] theorem armFlush_deadline : (armFlush s).exp.deadline = s.flushAt := by rw [armFlush_eq]
@[simp] theorem judgeRequest_list : (judgeRequest s).exp.list = s.exp.list := by rw [judgeRequest_eq]
@[simp] theorem judgeRequest_deadline : (judgeRequest s).exp.deadline = s.exp.deadline := by rw [judgeRequest_eq]
@[simp] theorem judgeRequest_request : (judgeRequest s).exp.request = s.requestStands := by rw [judgeRequest_eq]

/-- R148. -/
theorem requestStands_iff : s.requestStands = true ↔ s.part = .running ∧ s.exp.list ≠ [] ∧
    (s.mgmt.params.batchLimit ≤ s.exp.list.length ∨ s.exp.expired = true) := by
  unfold State.requestStands State.params
  simp [State.running, and_assoc]

theorem requestStands_of_standby {s : State} (h : s.part = .standby) : s.requestStands = false := by
  simp [State.requestStands, State.running, h]

theorem flushAt_of_standby {s : State} (h : s.part = .standby) : s.flushAt = none := by
  simp [State.flushAt, h]

/-- The deadline stands exactly while RUNNING with the list not empty (R147). -/
theorem flushAt_isSome : s.flushAt.isSome = true ↔ s.part = .running ∧ s.exp.list ≠ [] := by
  unfold State.flushAt
  split
  next h => simp [h, List.isSome_head?]
  next h => simp [h]

/-- The pending list without an entry's item, which is counted (R151). -/
def State.takenOut (i : ReeferIx) (s : State) : State :=
  s.modExp fun x =>
    { x with
      list := x.list.filter fun p => decide (p.index ≠ i)
      cnt := { x.cnt with removed := inc x.cnt.removed } }

/-- Whether an entry's item is the front one. -/
def State.atFront (i : ReeferIx) (s : State) : Bool := s.exp.list.head?.any fun p => decide (p.index = i)

theorem removePending_eq (i : ReeferIx) : removePending i s =
    judgeRequest (if s.atFront i = true then armFlush (s.takenOut i) else s.takenOut i) := by
  unfold removePending State.atFront State.takenOut
  cases s.exp.list <;> rfl

end Export

/-! ## Entries -/

section Entries
variable (s : State)

theorem freeReefer_table (i : ReeferIx) (r : Reefer) : (freeReefer i r s).reef.table = put s.reef.table i none := by
  unfold freeReefer
  dsimp only
  split <;> simp

/-- An entry waiting for the Export Unit is freed with its item (R151). -/
theorem freeReefer_of_pending (i : ReeferIx) {r : Reefer} (h : r.pending = true) :
    freeReefer i r s = removePending i (freeReefer i { r with pending := false } s) := by
  unfold freeReefer
  simp only [h, if_true, Bool.false_eq_true, if_false]

theorem freeReefer_reefer (i : ReeferIx) (r : Reefer) (j : ReeferIx) :
    (freeReefer i r s).reefer j = if j = i then none else s.reefer j := by
  rw [State.reefer, freeReefer_table, look_put]
  rfl

theorem joinList_reefer (i : ReeferIx) (r : Reefer) (why : Reason) (j : ReeferIx) : (joinList i r why s).reefer j =
    if r.pending = false ∧ j = i then some { r with pending := true } else s.reefer j := by
  unfold joinList
  split
  next h => simp [h, State.reefer]
  next h =>
    have e : (judgeRequest (if s.exp.list.isEmpty then
        armFlush ((s.setReefer i (some { r with pending := true })).modExp fun x =>
          { x with list := x.list ++ [{ index := i, join := s.uptime, reason := why }],
                   cnt := { x.cnt with offers := inc x.cnt.offers } })
        else (s.setReefer i (some { r with pending := true })).modExp fun x =>
          { x with list := x.list ++ [{ index := i, join := s.uptime, reason := why }],
                   cnt := { x.cnt with offers := inc x.cnt.offers } })).reef.table =
        put s.reef.table i (some { r with pending := true }) := by
      split <;> simp
    dsimp only
    rw [State.reefer, e, look_put]
    simp only [h, true_and]
    rfl

theorem markExported_reefer (p : PendItem) (j : ReeferIx) : (markExported s p).reefer j =
    if p.index = j then (s.reefer j).map (Reefer.exported s.uptime) else s.reefer j := by
  unfold markExported
  split
  next r hr =>
    rw [State.reefer_setReefer]
    by_cases e : p.index = j
    · subst e
      simp [hr]
    · rw [if_neg e, if_neg (fun h => e h.symm)]
  next hr =>
    split
    next e => subst e; rw [hr]; rfl
    · rfl

theorem exported_exported (n : Nat) (r : Reefer) : (r.exported n).exported n = r.exported n := rfl

theorem markExported_foldl_reefer (l : List PendItem) (j : ReeferIx) : (l.foldl markExported s).reefer j =
    if ∃ p ∈ l, p.index = j then (s.reefer j).map (Reefer.exported s.uptime) else s.reefer j := by
  induction l generalizing s with
  | nil => simp
  | cons p l ih =>
    rw [List.foldl_cons, ih, markExported_reefer, markExported_uptime]
    by_cases hp : p.index = j <;> by_cases hl : ∃ p ∈ l, p.index = j
    · rw [if_pos hl, if_pos hp, if_pos ⟨p, List.mem_cons_self .., hp⟩, Option.map_map]
      rfl
    · rw [if_neg hl, if_pos hp, if_pos ⟨p, List.mem_cons_self .., hp⟩]
    · obtain ⟨q, hq, hj⟩ := hl
      rw [if_pos ⟨q, hq, hj⟩, if_neg hp, if_pos ⟨q, List.mem_cons_of_mem _ hq, hj⟩]
    · rw [if_neg hl, if_neg hp, if_neg]
      rintro ⟨q, hq, hj⟩
      rcases List.mem_cons.mp hq with rfl | hq
      · exact hp hj
      · exact hl ⟨q, hq, hj⟩

/-- The entries taken into an EXPORT frame are marked as exported (R150). -/
theorem grantExport_reefer (j : ReeferIx) : (grantExport s).reefer j =
    if ∃ p ∈ s.exp.list.take s.mgmt.params.batchLimit, p.index = j then (s.reefer j).map (Reefer.exported s.uptime)
    else s.reefer j := by
  unfold grantExport
  dsimp only
  rw [State.reefer_congr (congrArg Reefers.table (judgeRequest_reef _)),
    State.reefer_congr (congrArg Reefers.table (armFlush_reef _))]
  exact markExported_foldl_reefer ..

@[simp] theorem grantExport_list : (grantExport s).exp.list = s.exp.list.drop s.mgmt.params.batchLimit := by
  unfold grantExport
  simp [foldl_keeps State.exp markExported (fun s p => markExported_exp s p), State.params]

/-- R9: a removal clears the references to a gateway, alone. -/
theorem removeTerm_reefer (i : SlotIx) (x : Term) (j : ReeferIx) : (removeTerm i x s).reefer j =
    (s.reefer j).map fun r => if x.part.cls = .gateway then clearGateway i r else r := by
  unfold removeTerm clearReferences
  cases x.part with
  | gateway st n => simp [ClassPart.cls, State.reefer]
  | _ => simp [ClassPart.cls, State.reefer]

theorem startPart_reefer (j : ReeferIx) :
    (startPart s).reefer j = (s.reefer j).map (reeferStarted (s.uptime + s.reeferTimeout)) := by
  simp [startPart, State.reefer]

theorem stopPart_reefer (j : ReeferIx) : (stopPart s).reefer j = (s.reefer j).map fun r => { r with silence := none } := by
  simp [stopPart, State.reefer]

theorem softResetPart_reefer (j : ReeferIx) : (softResetPart s).reefer j = (s.reefer j).map reeferSoftReset := by
  simp [softResetPart, State.reefer]

@[simp] theorem clearGroup_table (g : Group) : (clearGroup g s).reef.table = s.reef.table := by cases g <;> rfl

@[simp] theorem clearGroup_reefer (g : Group) (j : ReeferIx) : (clearGroup g s).reefer j = s.reefer j :=
  State.reefer_congr (clearGroup_table s g) j

theorem applyRecord_reef_exp (h : HeadIx) (r : HeadRecord) :
    (applyRecord h r s).reef = s.reef ∧ (applyRecord h r s).exp = s.exp ∧
    (applyRecord h r s).uptime = s.uptime := by
  unfold applyRecord loadSetpoint
  dsimp only
  (repeat' split) <;> simp [loopEnabled, clampOffset]

end Entries

end Sys2Proof.Machine
end

section
/-! That the pending list holds exactly the flagged entries, in order (9.2, 9.3), step by step. -/

namespace Sys2Proof.Safety
open Sys2Proof Sys2Proof.Machine

/-- The pending flag of an index (Table 9-1). -/
def flagOf (s : State) (i : ReeferIx) : Bool := (s.reefer i).any Reefer.pending

/-- A pending list that holds the flagged indexes, each once, oldest first. -/
structure ListOk (l : List PendItem) (flag : ReeferIx → Bool) (now : Nat) : Prop where
  once : (l.map PendItem.index).Nodup
  flagged : ∀ i, i ∈ l.map PendItem.index ↔ flag i = true
  ordered : l.Pairwise fun p q => p.join ≤ q.join
  past : ∀ p ∈ l, p.join ≤ now

namespace ListOk
variable {l : List PendItem} {flag : ReeferIx → Bool} {now : Nat}

theorem congr (h : ListOk l flag now) {flag' : ReeferIx → Bool} (hf : ∀ i, flag' i = flag i) : ListOk l flag' now :=
  (funext hf : flag' = flag) ▸ h

theorem later (h : ListOk l flag now) {n : Nat} (hn : now ≤ n) : ListOk l flag n :=
  { h with past := fun p hp => (h.past p hp).trans hn }

theorem nil {flag : ReeferIx → Bool} (hf : ∀ i, flag i = false) : ListOk [] flag now where
  once := by simp
  flagged i := by simp [hf]
  ordered := .nil
  past := by simp

/-- R146: a new item joins at the back. -/
theorem append (h : ListOk l flag now) {i : ReeferIx} (hi : flag i = false) (why : Reason) {flag' : ReeferIx → Bool}
    (hf : ∀ j, flag' j = (decide (j = i) || flag j)) :
    ListOk (l ++ [{ index := i, join := now, reason := why }]) flag' now where
  once := by
    have fresh : i ∉ l.map PendItem.index := fun hm => by simp [(h.flagged i).mp hm] at hi
    rw [List.map_append, List.map_singleton]
    exact h.once.append (by simp) (by simpa using fresh)
  flagged j := by
    rw [List.map_append, List.mem_append, h.flagged, hf, List.map_singleton, List.mem_singleton]
    simp [or_comm]
  ordered := List.pairwise_append.mpr ⟨h.ordered, List.pairwise_singleton .., fun p hp q hq => by
    rw [List.mem_singleton.mp hq]
    exact h.past p hp⟩
  past p hp := by
    rcases List.mem_append.mp hp with hp | hp
    · exact h.past p hp
    · rw [List.mem_singleton.mp hp]

/-- R146: a merge changes reasons alone. -/
theorem merge (h : ListOk l flag now) (i : ReeferIx) (why : Reason) : ListOk (mergeReason i why l) flag now := by
  have keep (p : PendItem) : (if p.index = i then { p with reason := why.higher p.reason } else p).index = p.index ∧
      (if p.index = i then { p with reason := why.higher p.reason } else p).join = p.join := by
    split <;> exact ⟨rfl, rfl⟩
  have index : (mergeReason i why l).map PendItem.index = l.map PendItem.index := by
    rw [mergeReason, List.map_map]
    exact List.map_congr_left fun p _ => (keep p).1
  refine { once := index ▸ h.once, flagged := index ▸ h.flagged, ordered := ?_, past := fun p hp => ?_ }
  · rw [mergeReason, List.pairwise_map]
    exact h.ordered.imp fun hpq => by rwa [(keep _).2, (keep _).2]
  · obtain ⟨q, hq, rfl⟩ := List.mem_map.mp hp
    rw [(keep q).2]
    exact h.past q hq

/-- R151: an item taken out. -/
theorem remove (h : ListOk l flag now) (i : ReeferIx) {flag' : ReeferIx → Bool}
    (hf : ∀ j, flag' j = (!decide (j = i) && flag j)) :
    ListOk (l.filter fun p => decide (p.index ≠ i)) flag' now where
  once := (List.filter_sublist.map PendItem.index).nodup h.once
  flagged j := by
    have := h.flagged j
    simp only [List.mem_map] at this ⊢
    rw [hf, Bool.and_eq_true, ← this]
    constructor
    · rintro ⟨p, hp, rfl⟩
      rw [List.mem_filter] at hp
      exact ⟨by simpa using hp.2, p, hp.1, rfl⟩
    · rintro ⟨hj, p, hp, rfl⟩
      exact ⟨p, List.mem_filter.mpr ⟨hp, by simpa using hj⟩, rfl⟩
  ordered := h.ordered.sublist List.filter_sublist
  past p hp := h.past p (List.mem_of_mem_filter hp)

/-- R150: the items in front dropped, their entries' flags cleared. -/
theorem drop (h : ListOk l flag now) (n : Nat) {flag' : ReeferIx → Bool}
    (hf : ∀ j, flag' j = (!decide (∃ p ∈ l.take n, p.index = j) && flag j)) : ListOk (l.drop n) flag' now where
  once := ((List.drop_sublist n l).map PendItem.index).nodup h.once
  flagged j := by
    have once := h.once
    rw [← List.take_append_drop n l, List.map_append, List.nodup_append] at once
    have mem := h.flagged j
    rw [← List.take_append_drop n l, List.map_append, List.mem_append] at mem
    rw [hf, Bool.and_eq_true, ← mem, Bool.not_eq_true', decide_eq_false_iff_not]
    constructor
    · intro hj
      refine ⟨?_, .inr hj⟩
      rintro ⟨p, hp, rfl⟩
      exact once.2.2 _ (List.mem_map_of_mem hp) _ hj rfl
    · rintro ⟨hn, hj⟩
      refine hj.resolve_left fun hj => hn ?_
      obtain ⟨p, hp, e⟩ := List.mem_map.mp hj
      exact ⟨p, hp, e⟩
  ordered := h.ordered.sublist (List.drop_sublist ..)
  past p hp := h.past p (List.mem_of_mem_drop hp)

end ListOk

namespace PendingOk
variable {s t : State}

theorem list (h : PendingOk s) : ListOk s.exp.list (flagOf s) s.uptime where
  once := h.once
  flagged i := by rw [h.flagged, flagOf, Option.any_eq_true]
  ordered := h.ordered
  past := h.past

theorem of_list (h : ListOk s.exp.list (flagOf s) s.uptime)
    (hd : s.exp.deadline.isSome = true ↔ s.part = .running ∧ s.exp.list ≠ [])
    (hr : s.exp.request = true → s.part = .running ∧ s.exp.list ≠ []) : PendingOk s where
  once := h.once
  flagged i := by rw [h.flagged, flagOf, Option.any_eq_true]
  ordered := h.ordered
  past := h.past
  deadline := hd
  request := hr

/-- What leaves the Export Unit, the flags, the part state and the clock. -/
theorem mono (hs : PendingOk s) (he : t.exp.list = s.exp.list ∧ t.exp.deadline = s.exp.deadline ∧
    t.exp.request = s.exp.request) (hp : t.part = s.part) (hu : s.uptime ≤ t.uptime)
    (hf : ∀ i, flagOf t i = flagOf s i) : PendingOk t := by
  obtain ⟨hl, hd, hr⟩ := he
  refine of_list ?_ ?_ ?_
  · rw [hl]
    exact (hs.list.congr hf).later hu
  · rw [hd, hp, hl]
    exact hs.deadline
  · rw [hr, hp, hl]
    exact hs.request

/-- A request judged. -/
theorem judged (h : ListOk s.exp.list (flagOf s) s.uptime)
    (hd : s.exp.deadline.isSome = true ↔ s.part = .running ∧ s.exp.list ≠ []) : PendingOk (judgeRequest s) := by
  refine of_list ?_ ?_ ?_
  · rw [judgeRequest_list, judgeRequest_uptime]
    exact h.congr fun i => by rw [flagOf, State.reefer_congr (congrArg Reefers.table (judgeRequest_reef _))]; rfl
  · rw [judgeRequest_deadline, judgeRequest_part, judgeRequest_list]
    exact hd
  · rw [judgeRequest_request, judgeRequest_part, judgeRequest_list, requestStands_iff]
    exact fun h => ⟨h.1, h.2.1⟩

/-- The deadline armed and the request judged. -/
theorem armed (h : ListOk s.exp.list (flagOf s) s.uptime) : PendingOk (judgeRequest (armFlush s)) := by
  refine judged ?_ ?_
  · rw [armFlush_list, armFlush_uptime]
    exact h.congr fun i => by rw [flagOf, State.reefer_congr (congrArg Reefers.table (armFlush_reef _))]; rfl
  · rw [armFlush_deadline, armFlush_part, armFlush_list]
    exact flushAt_isSome s

theorem join (hs : PendingOk s) {i : ReeferIx} {r : Reefer} (hr : s.reefer i = some r) (why : Reason) :
    PendingOk (joinList i r why s) := by
  have hi : flagOf s i = r.pending := by rw [flagOf, hr]; rfl
  unfold joinList
  split
  · have ne : mergeReason i why s.exp.list ≠ [] ↔ s.exp.list ≠ [] := by simp [mergeReason]
    exact of_list (hs.list.merge i why) (by
      show s.exp.deadline.isSome = true ↔ s.part = .running ∧ mergeReason i why s.exp.list ≠ []
      rw [ne]; exact hs.deadline) (by
      show s.exp.request = true → s.part = .running ∧ mergeReason i why s.exp.list ≠ []
      rw [ne]; exact hs.request)
  next hp =>
    have hf (j : ReeferIx) : flagOf (s.setReefer i (some { r with pending := true })) j = (decide (j = i) || flagOf s j) := by
      rw [flagOf, State.reefer_setReefer]
      by_cases e : j = i
      · simp [e]
      · simp [e, flagOf]
    have joined := hs.list.append (i := i) (by simpa [hi] using hp) why hf
    dsimp only
    split
    · exact armed joined
    next he =>
      have ne : s.exp.list ≠ [] := by simpa using he
      refine judged joined ?_
      show s.exp.deadline.isSome = true ↔ s.part = .running ∧ s.exp.list ++ _ ≠ []
      rw [hs.deadline]
      simp [ne]

/-- R151: the item of a freed entry taken out. -/
theorem removed {i : ReeferIx} (h : ListOk (s.exp.list.filter fun p => decide (p.index ≠ i)) (flagOf s) s.uptime)
    (hd : s.exp.deadline.isSome = true ↔ s.part = .running ∧ s.exp.list ≠ []) : PendingOk (removePending i s) := by
  have taken : ListOk (s.takenOut i).exp.list (flagOf (s.takenOut i)) (s.takenOut i).uptime := h
  rw [removePending_eq]
  split
  · exact armed taken
  next hf =>
    refine judged taken ?_
    have ne : (s.exp.list.filter fun p => decide (p.index ≠ i)) ≠ [] ↔ s.exp.list ≠ [] := by
      cases hl : s.exp.list with
      | nil => simp
      | cons p l =>
        have hp : p.index ≠ i := fun e => hf (by simp [State.atFront, hl, e])
        simp [hp]
    show s.exp.deadline.isSome = true ↔ s.part = .running ∧ (s.exp.list.filter fun p => decide (p.index ≠ i)) ≠ []
    rw [ne]
    exact hd

theorem free (hs : PendingOk s) {i : ReeferIx} {r : Reefer} (hr : s.reefer i = some r) :
    PendingOk (freeReefer i r s) := by
  have hi : flagOf s i = r.pending := by rw [flagOf, hr]; rfl
  have hf (j : ReeferIx) : flagOf (freeReefer i { r with pending := false } s) j = (!decide (j = i) && flagOf s j) := by
    rw [flagOf, freeReefer_reefer]
    by_cases e : j = i
    · simp [e]
    · simp [e, flagOf]
  have exp : (freeReefer i { r with pending := false } s).exp = s.exp := by simp [freeReefer]
  have part : (freeReefer i { r with pending := false } s).part = s.part := by simp
  have time : (freeReefer i { r with pending := false } s).uptime = s.uptime := by simp
  cases hp : r.pending with
  | false =>
    have e : freeReefer i r s = freeReefer i { r with pending := false } s := by rw [← hp]
    rw [e]
    refine hs.mono (by rw [exp]; exact ⟨rfl, rfl, rfl⟩) part time.ge fun j => ?_
    rw [hf]
    by_cases e : j = i
    · simp [e, hi, hp]
    · simp [e]
  | true =>
    rw [freeReefer_of_pending s i hp]
    generalize freeReefer i { r with pending := false } s = u at *
    refine removed ?_ ?_
    · rw [exp, time]
      exact hs.list.remove i hf
    · rw [exp, part]
      exact hs.deadline

theorem grantExport (hs : PendingOk s) : PendingOk (grantExport s) := by
  have hf (j : ReeferIx) : flagOf ((s.exp.list.take s.params.batchLimit).foldl markExported s) j =
      (!decide (∃ p ∈ s.exp.list.take s.params.batchLimit, p.index = j) && flagOf s j) := by
    rw [flagOf, markExported_foldl_reefer]
    split
    next e => cases s.reefer j <;> simp [e, Reefer.exported]
    next e => simp [e, flagOf]
  have dropped := hs.list.drop s.params.batchLimit hf
  have time : ((s.exp.list.take s.params.batchLimit).foldl markExported s).uptime = s.uptime :=
    foldl_keeps State.uptime markExported (fun s p => markExported_uptime s p) ..
  have exp : ((s.exp.list.take s.params.batchLimit).foldl markExported s).exp = s.exp :=
    foldl_keeps State.exp markExported (fun s p => markExported_exp s p) ..
  unfold Machine.grantExport
  dsimp only
  generalize (s.exp.list.take s.params.batchLimit).foldl markExported s = u at *
  refine armed ?_
  rw [State.modTrunk_uptime, State.modExp_uptime, time, State.modTrunk_exp, State.modExp_exp, exp]
  exact dropped

theorem flushDue (hs : PendingOk s) : PendingOk (flushExpiry s) := by
  unfold flushExpiry
  split
  · exact judged (s := s.modExp fun x => { x with expired := true }) hs.list hs.deadline
  · exact hs

theorem start (hs : PendingOk s) : PendingOk (startPart s) := by
  unfold startPart
  refine armed (hs.list.congr fun i => ?_)
  have e (r : Reefer) (d : Nat) : (reeferStarted d r).pending = r.pending := by
    unfold reeferStarted
    split <;> rfl
  simp only [flagOf, State.reefer, look_mapTab]
  cases look s.reef.table i <;> simp [e]

theorem stop (hs : PendingOk s) : PendingOk (stopPart s) := by
  refine of_list ?_ (by simp [stopPart]) (by simp [stopPart])
  have exp : (stopPart s).exp.list = s.exp.list := by simp [stopPart]
  have time : (stopPart s).uptime = s.uptime := by simp [stopPart]
  rw [exp, time]
  refine hs.list.congr fun i => ?_
  rw [flagOf, stopPart_reefer, flagOf]
  cases s.reefer i <;> rfl

theorem soft : PendingOk (softResetPart s) := by
  refine of_list (.nil fun i => ?_) (by simp [softResetPart]) (by simp [softResetPart])
  rw [flagOf, softResetPart_reefer]
  cases s.reefer i <;> rfl

/-- One entry written, its flag as it was. -/
theorem set (hs : PendingOk s) {i : ReeferIx} {r : Reefer} (hr : r.pending = flagOf s i) :
    PendingOk (s.setReefer i (some r)) := by
  refine hs.mono ⟨rfl, rfl, rfl⟩ rfl (le_refl _) fun j => ?_
  rw [flagOf, State.reefer_setReefer]
  split
  next e => rw [e, ← hr]; rfl
  · rfl

theorem change (h : Change s t) (hs : PendingOk s) : PendingOk t := by
  cases h with
  | join i r why hr => exact hs.join hr why
  | free i r hr => exact hs.free hr
  | grantExport hreq => exact hs.grantExport
  | flushDue hd => exact hs.flushDue
  | start hp => exact hs.start
  | stop hp => exact hs.stop
  | soft => exact .soft
  | learn i tag c hi ht hf => exact hs.set (by rw [flagOf, hi]; rfl)
  | place i r r' g hr hrun hg ht hg' hp ha hsil =>
    have moved : PendingOk (moveReefer r.gateway g s) :=
      hs.mono (by simp) (by simp) (by simp) fun j => by
        rw [flagOf, State.reefer_congr (congrArg Reefers.table (moveReefer_reef ..))]; rfl
    refine moved.set ?_
    rw [flagOf, State.reefer_congr (congrArg Reefers.table (moveReefer_reef ..)), hr, hp]
    rfl
  | reefer i r r' hr ht hg hp ha hsp hsil => exact hs.set (by rw [flagOf, hr, hp]; rfl)
  | remove i x hx =>
    refine hs.mono (by simp) (by simp) (by simp) fun j => ?_
    rw [flagOf, removeTerm_reefer, flagOf]
    cases s.reefer j with
    | none => rfl
    | some r =>
      simp only [Option.map_some, Option.any_some, clearGateway]
      (repeat' split) <;> rfl
  | clear g => exact hs.mono (by cases g <;> exact ⟨rfl, rfl, rfl⟩) (by simp) (by simp) fun j => by simp [flagOf]
  | apply k r p hp =>
    obtain ⟨hr, he, hu⟩ := applyRecord_reef_exp s k r
    exact hs.mono (by simp [he]) (by simp) (by simp [hu]) fun j => by
      rw [flagOf, State.reefer_congr (congrArg Reefers.table hr)]; rfl
  | reef f hf => exact hs.mono ⟨rfl, rfl, rfl⟩ rfl (le_refl _) fun j => by rw [flagOf, State.reefer_congr hf]; rfl
  | _ =>
    refine hs.mono ?_ ?_ ?_ fun j => congrArg (Option.any Reefer.pending) (State.reefer_congr ?_ j) <;>
      simp [Machine.grantCrane, Machine.grantNotice, Machine.grantReply, Machine.grantNormal, startLoopTest, setRun]

end PendingOk

theorem pendingOk_kept : Kept PendingOk where
  change _ _ h hs := hs.change h
  queue _ _ _ hs := hs.mono ⟨rfl, rfl, rfl⟩ rfl (le_refl _) fun _ => rfl
  time _ hs := hs.mono ⟨rfl, rfl, rfl⟩ rfl (Nat.le_succ _) fun _ => rfl
  asserted _ hs := hs.mono ⟨rfl, rfl, rfl⟩ rfl (le_refl _) fun _ => rfl
  released b s := by
    refine .of_list (.nil fun i => ?_) (by simp [released, State.reset, ExportUnit.hardReset])
      (by simp [released, State.reset, ExportUnit.hardReset])
    simp [flagOf, released, State.reset, State.reefer, Reefers.hardReset]

/-- Settles O57: the list and the flags change together, and each change of the list arms the deadline and judges the
request. -/
theorem stepsKeepThePendingList : Obligations.StepsKeepThePendingList := by
  unfold Obligations.StepsKeepThePendingList
  exact fun s t hs h => pendingOk_kept.step hs h

end Sys2Proof.Safety
end

section
/-! That no step wakes anything in STANDBY (10.4). -/

namespace Sys2Proof.Safety
open Sys2Proof Sys2Proof.Machine

/-! ## Terminal entries -/

/-- The class part of an entry that is quiet. -/
def quietPart : ClassPart → Bool
  | .crane c => c.link.quiet
  | .gateway g _ => g.quiet
  | .vehicle | .other => true

theorem quietTerm_iff {x : Term} : quietTerm x = true ↔ x.ho = .orphan ∧ quietPart x.part = true := by
  unfold quietTerm quietPart
  rw [Bool.and_eq_true, decide_eq_true_eq]
  refine and_congr_right fun _ => ?_
  cases x.part with
  | crane c => cases hl : c.link <;> simp [CraneLink.quiet, hl]
  | gateway g n => cases g <;> simp [GatewayState.quiet]
  | vehicle => simp
  | other => simp

theorem quietPart_bumped {x : Term} {f : Nat → Nat} : quietPart (x.bumped f).part = quietPart x.part := by
  unfold Term.bumped
  split
  next h => rw [h]; rfl
  all_goals rfl

/-- Every entry is quiet. -/
def TermsQuiet (s : State) : Prop := ∀ i x, s.term i = some x → quietTerm x = true

namespace TermsQuiet
variable {s t : State}

theorem of_map (hs : TermsQuiet s)
    (ht : ∀ i y, t.term i = some y → ∃ x, s.term i = some x ∧ (quietTerm x = true → quietTerm y = true)) :
    TermsQuiet t := by
  intro i y hy
  obtain ⟨x, hx, hxy⟩ := ht i y hy
  exact hxy (hs i x hx)

theorem mono (hs : TermsQuiet s) (h : t.terms = s.terms) : TermsQuiet t :=
  fun i y hy => hs i y (by rwa [State.term_congr h] at hy)

theorem set (hs : TermsQuiet s) {i : SlotIx} {y : Term} (hy : quietTerm y = true) :
    TermsQuiet (s.setTerm i (some y)) := by
  intro j z hz
  rw [State.term_setTerm] at hz
  split at hz
  · cases hz; exact hy
  · exact hs j z hz

theorem of_bumped {f : Nat → Nat} {j : SlotIx} {y : Term} (h : (s.term j).map (Term.bumped f) = some y) :
    ∃ x, s.term j = some x ∧ (quietTerm x = true → quietTerm y = true) := by
  obtain ⟨x, hx, rfl⟩ := Option.map_eq_some_iff.mp h
  exact ⟨x, hx, fun hq => by rwa [quietTerm_iff, Term.bumped_ho, quietPart_bumped, ← quietTerm_iff]⟩

/-- A quiet entry is an orphan, which no departure moves (Table 5-3). -/
theorem gone (hs : TermsQuiet s) (h : HeadIx) (next : HeadLink) (warm : Bool) : TermsQuiet (headGone h next warm s) := by
  refine hs.of_map fun i y hy => ?_
  rw [headGone_term] at hy
  obtain ⟨x, hx, rfl⟩ := Option.map_eq_some_iff.mp hy
  refine ⟨x, hx, fun hq => ?_⟩
  have orphan := (quietTerm_iff.mp hq).1
  have same : x.departed h warm s.mgmt.params.holdoff = x := by rw [Term.departed, orphan]
  rwa [same]

theorem stopped (x : Term) : quietTerm (termStopped x) = true := by
  refine quietTerm_iff.mpr ⟨rfl, ?_⟩
  unfold termStopped ClassPart.stopped
  cases x.part with
  | crane c => cases hl : c.link <;> simp [quietPart, CranePart.setBack, hl, CraneLink.quiet]
  | gateway g n => cases g <;> simp [quietPart, GatewayState.quiet]
  | vehicle => rfl
  | other => rfl

theorem softReset (x : Term) : quietTerm (termSoftReset x) = true := by
  refine quietTerm_iff.mpr ⟨rfl, ?_⟩
  unfold termSoftReset ClassPart.softReset
  cases x.part with
  | crane c => cases hl : c.link <;> simp [quietPart, CranePart.setBack, hl, CraneLink.quiet]
  | gateway g n => simp [quietPart, GatewayState.quiet]
  | vehicle => rfl
  | other => rfl

theorem change (h : Change s t) (hr : s.running = false) (ht : t.part = .standby) (hs : TermsQuiet s) :
    TermsQuiet t := by
  cases h with
  | term i x y hx hn hp hg hm =>
    obtain ⟨orphan, quiet⟩ := quietTerm_iff.mp (hs i x hx)
    refine hs.set (quietTerm_iff.mpr ⟨?_, by rwa [hp]⟩)
    generalize y.ho = ho at hm
    cases hm with
    | keep => exact orphan
    | orphan => rfl
    | anchor hrun _ => simp [hr] at hrun
    | move hv _ | settle hv | probe hv _ _ | bicast hv _ _ _ => rw [orphan] at hv; cases hv
    | arrive hc => rw [orphan] at hc; cases hc
  | cranePart i x c c' hx hc hq =>
    obtain ⟨orphan, quiet⟩ := quietTerm_iff.mp (hs i x hx)
    rw [hc] at quiet
    exact hs.set (quietTerm_iff.mpr ⟨orphan, hq hr quiet⟩)
  | gatewayState i x g g' n hx hg hq =>
    obtain ⟨orphan, quiet⟩ := quietTerm_iff.mp (hs i x hx)
    rw [hg] at quiet
    exact hs.set (quietTerm_iff.mpr ⟨orphan, hq hr quiet⟩)
  | segment i b =>
    cases hx : s.term i with
    | none => rwa [recordSegment_free hx]
    | some x =>
      have set := hs.set (i := i) (y := { x with segment := segmentOf b }) (hs i x hx)
      exact set.mono (recordSegment_terms hx b)
  | load i n c hi hb hlook =>
    exact hs.set (quietTerm_iff.mpr ⟨rfl, by cases c <;> rfl⟩)
  | remove i x hx =>
    refine hs.of_map fun j y hy => ⟨y, ?_, id⟩
    rw [State.term, removeTerm_terms, look_put] at hy
    split at hy
    · cases hy
    · exact hy
  | start hp => simp at ht
  | stop hp =>
    intro i y hy
    rw [stopPart_term] at hy
    obtain ⟨x, hx, rfl⟩ := Option.map_eq_some_iff.mp hy
    exact stopped x
  | soft =>
    intro i y hy
    rw [softResetPart_term] at hy
    obtain ⟨x, hx, rfl⟩ := Option.map_eq_some_iff.mp hy
    exact softReset x
  | place i r r' g hr' hrun hg ht' hg' hp ha hsil => simp [hr] at hrun
  | free i r hr =>
    refine hs.of_map fun j y hy => ?_
    rw [freeReefer_term] at hy
    split at hy
    · exact of_bumped hy
    · exact ⟨y, hy, id⟩
  | gone k next warm hn hl => exact hs.gone k next warm
  | apply k r p hp =>
    rcases applyRecord_terms k r s with e | ⟨u, hu, -, e⟩
    · exact hs.mono e
    · exact ((hs.mono hu).gone k .disabled false).mono e
  | clear g => exact hs.mono (by simp)
  | _ =>
    refine hs.mono ?_
    simp [Machine.grantCrane, Machine.grantNotice, Machine.grantReply, Machine.grantNormal, startLoopTest, setRun]

end TermsQuiet

/-! ## Reefer entries -/

/-- No entry's silence deadline runs. -/
def ReefersQuiet (s : State) : Prop := ∀ i r, s.reefer i = some r → r.silence = none

namespace ReefersQuiet
variable {s t : State}

theorem of_map (hs : ReefersQuiet s)
    (ht : ∀ i q, t.reefer i = some q → q.silence = none ∨ ∃ r, s.reefer i = some r ∧ q.silence = r.silence) :
    ReefersQuiet t := by
  intro i q hq
  rcases ht i q hq with h | ⟨r, hr, h⟩
  · exact h
  · rw [h]
    exact hs i r hr

theorem mono (hs : ReefersQuiet s) (h : t.reef.table = s.reef.table) : ReefersQuiet t :=
  fun i q hq => hs i q (by rwa [State.reefer_congr h] at hq)

theorem set (hs : ReefersQuiet s) {i : ReeferIx} {r : Reefer} (hr : r.silence = none) :
    ReefersQuiet (s.setReefer i (some r)) := by
  intro j q hq
  rw [State.reefer_setReefer] at hq
  split at hq
  · cases hq; exact hr
  · exact hs j q hq

theorem change (h : Change s t) (hr : s.running = false) (ht : t.part = .standby) (hs : ReefersQuiet s) :
    ReefersQuiet t := by
  cases h with
  | learn i tag c hi htag hf => exact hs.set rfl
  | place i r r' g hr' hrun hg ht' hg' hp ha hsil => simp [hr] at hrun
  | reefer i r r' hi htag hg hp ha hsp hsil =>
    refine hs.set ?_
    cases hq : r'.silence with
    | none => rfl
    | some d => simpa [hs i r hi] using (hsil (by simp [hq])).1
  | join i r why hi =>
    refine hs.of_map fun j q hq => ?_
    rw [joinList_reefer] at hq
    split at hq
    next e => cases hq; exact .inr ⟨r, e.2 ▸ hi, rfl⟩
    · exact .inr ⟨q, hq, rfl⟩
  | free i r hi =>
    refine hs.of_map fun j q hq => ?_
    rw [freeReefer_reefer] at hq
    split at hq
    · cases hq
    · exact .inr ⟨q, hq, rfl⟩
  | grantExport hreq =>
    refine hs.of_map fun j q hq => ?_
    rw [grantExport_reefer] at hq
    split at hq
    · obtain ⟨r, hr, rfl⟩ := Option.map_eq_some_iff.mp hq
      exact .inr ⟨r, hr, rfl⟩
    · exact .inr ⟨q, hq, rfl⟩
  | remove i x hx =>
    refine hs.of_map fun j q hq => ?_
    rw [removeTerm_reefer] at hq
    obtain ⟨r, hr, rfl⟩ := Option.map_eq_some_iff.mp hq
    refine .inr ⟨r, hr, ?_⟩
    simp only [clearGateway]
    (repeat' split) <;> rfl
  | start hp => simp at ht
  | stop hp =>
    refine hs.of_map fun j q hq => ?_
    rw [stopPart_reefer] at hq
    obtain ⟨r, hr, rfl⟩ := Option.map_eq_some_iff.mp hq
    exact .inl rfl
  | soft =>
    refine hs.of_map fun j q hq => ?_
    rw [softResetPart_reefer] at hq
    obtain ⟨r, hr, rfl⟩ := Option.map_eq_some_iff.mp hq
    exact .inl rfl
  | reef f hf => exact hs.mono hf
  | clear g => exact hs.mono (by simp)
  | apply k r p hp => exact hs.mono (by rw [(applyRecord_reef_exp s k r).1])
  | _ =>
    refine hs.mono ?_
    simp [Machine.grantCrane, Machine.grantNotice, Machine.grantReply, Machine.grantNormal, startLoopTest, setRun]

end ReefersQuiet

end Sys2Proof.Safety
end

section
/-! What the operations make of a head's loop state (chapter 7), and that STANDBY stays quiet (10.4). -/

namespace Sys2Proof.Machine
open Sys2Proof

section Loops
variable (s : State) (h : HeadIx)

theorem State.loop_modLoop_of_ne {k : HeadIx} (hk : k ≠ h) (f : LoopState → LoopState) :
    (s.modLoop h f).loop k = s.loop k := by
  rw [State.loop_modLoop, if_neg hk]

@[simp] theorem State.loop_modHead (f : Head → Head) (k : HeadIx) : (s.modHead h f).loop k = s.loop k := rfl

@[simp] theorem offerCtl_loop (f : CtlFrame) (k : HeadIx) : (offerCtl h f s).loop k = s.loop k :=
  State.loop_congr (offerCtl_loops ..) k

/-- R116: the last setpoint is the SETPOINT offered, absent if it is refused. -/
theorem offerSetpoint_loop (v : Nat) (k : HeadIx) : (offerSetpoint h v s).loop k =
    if k = h then { s.loop k with lastSet := if s.ctlAdmits h (.setpoint v) then some v else none } else s.loop k := by
  rw [offerSetpoint, State.loop_modLoop]
  split
  next e => subst e; rw [offerCtl_loop]
  · rw [offerCtl_loop]

/-- R41, R116: a SETPOINT flushed makes the last setpoint absent. -/
theorem flush_loop (k : HeadIx) : (flush h s).loop k =
    if k = h ∧ (s.head h).ctlQ.any CtlFrame.isSetpoint = true then { s.loop k with lastSet := none } else s.loop k := by
  unfold flush
  dsimp only
  split
  next hq =>
    rw [State.loop_modLoop]
    by_cases e : k = h
    · subst e
      rw [if_pos rfl, if_pos ⟨rfl, hq⟩]
      rfl
    · rw [if_neg e, if_neg (fun x => e x.1)]
      rfl
  next hq =>
    rw [if_neg (fun x => hq x.2)]
    rfl

theorem headGone_loop (next : HeadLink) (warm : Bool) (k : HeadIx) : (headGone h next warm s).loop k =
    if k = h ∧ warm = false ∧ (s.head h).ctlQ.any CtlFrame.isSetpoint = true then { s.loop k with lastSet := none }
    else s.loop k := by
  have hq : ((departure h warm (s.modHead h fun d => { d with link := next })).head h).ctlQ = (s.head h).ctlQ := by
    rw [State.head_congr (departure_heads ..), State.head_modHead_self]
  have hl : (departure h warm (s.modHead h fun d => { d with link := next })).loop k = s.loop k :=
    State.loop_congr (departure_loops ..) k
  unfold headGone
  dsimp only
  rw [State.loop_modHead, State.loop_congr (endLoopTest_loops ..)]
  generalize departure h warm (s.modHead h fun d => { d with link := next }) = u at *
  cases warm
  · simp only [Bool.false_eq_true, if_false, true_and]
    rw [flush_loop, hq, hl]
  · simpa using hl

/-- A flush of every head makes last setpoints absent, alone. -/
theorem flushAll_loop (k : HeadIx) : ∃ o, (flushAll s).loop k = { s.loop k with lastSet := o } := by
  unfold flushAll
  generalize List.finRange 12 = l
  induction l generalizing s with
  | nil => exact ⟨_, rfl⟩
  | cons a l ih =>
    obtain ⟨o, ho⟩ := ih (flush a s)
    rw [List.foldl_cons, ho, flush_loop]
    split
    · exact ⟨o, rfl⟩
    · exact ⟨o, rfl⟩

theorem stopPart_loop (k : HeadIx) : (stopPart s).loop k = { s.loop k with lastSet := none } := by
  have e : (stopPart s).loops = mapTab setpointLost (flushAll s).loops := by simp only [stopPart]
  obtain ⟨o, ho⟩ := flushAll_loop s k
  rw [State.loop, e, look_mapTab, ← State.loop, ho]
  rfl

theorem softResetPart_loop (k : HeadIx) :
    (softResetPart s).loop k = loopSoftReset (s.head k).record.initial (s.loop k) := by
  have e : (softResetPart s).loop k = loopSoftReset ((flushAll s).head k).record.initial ((flushAll s).loop k) := by
    simp only [softResetPart, State.loop, look_tabulate]
  obtain ⟨o, ho⟩ := flushAll_loop s k
  rw [e, flushAll_head, ho]
  rfl

theorem clearGroup_loop (g : Group) (k : HeadIx) : ∃ c, (clearGroup g s).loop k = { s.loop k with cnt := c } := by
  cases g <;> first | exact ⟨_, rfl⟩ | exact ⟨_, by simp only [clearGroup, State.loop, look_mapTab]; rfl⟩

@[simp] theorem startPart_loop (k : HeadIx) : (startPart s).loop k = s.loop k :=
  State.loop_congr (by simp [startPart]) k

/-- R117: what a HEAD_LOAD that leaves the head enabled makes of its loop. -/
theorem loadSetpoint_loop_of_ne {k : HeadIx} (hk : k ≠ h) (old new : HeadRecord) :
    (loadSetpoint h old new s).loop k = s.loop k := by
  have clamped : (clampOffset h new s).loop k = s.loop k := State.loop_modLoop_of_ne s h hk _
  unfold loadSetpoint
  dsimp only
  (repeat' split) <;> simp only [offerSetpoint_loop, if_neg hk, clamped]

theorem applyRecord_loop_of_ne {k : HeadIx} (hk : k ≠ h) (r : HeadRecord) :
    (applyRecord h r s).loop k = s.loop k := by
  have new : (recorded h r s).loop k = s.loop k := State.loop_congr (recorded_loops s h) k
  rcases Bool.eq_false_or_eq_true r.enabled with he | he <;> by_cases hl : (s.head h).link = .disabled
  · rw [applyRecord_of_enabled s h hl he, loopEnabled, State.loop_modLoop_of_ne _ _ hk, State.loop_modHead, new]
  · rw [applyRecord_of_stays s h hl he, loadSetpoint_loop_of_ne _ _ hk, new]
  · rw [applyRecord_of_idle s h hl he, clampOffset, State.loop_modLoop_of_ne _ _ hk, new]
  · rw [applyRecord_of_gone s h hl he, clampOffset, State.loop_modLoop_of_ne _ _ hk, headGone_loop,
      if_neg (fun x => hk x.1), new]

/-- A record says nothing of the coverage period. -/
theorem applyRecord_period (r : HeadRecord) : (applyRecord h r s).cov.deadline = s.cov.deadline := by
  have new : (recorded h r s).cov.deadline = s.cov.deadline := by
    unfold recorded windowChange
    split <;> rfl
  rcases Bool.eq_false_or_eq_true r.enabled with he | he <;> by_cases hl : (s.head h).link = .disabled
  · rwa [applyRecord_of_enabled s h hl he]
  · rw [applyRecord_of_stays s h hl he, ← new]
    unfold loadSetpoint
    dsimp only
    (repeat' split) <;> simp [clampOffset]
  · rwa [applyRecord_of_idle s h hl he]
  · rw [applyRecord_of_gone s h hl he, clampOffset, State.modLoop_cov, headGone_cov]
    exact new

end Loops

end Sys2Proof.Machine

namespace Sys2Proof.Safety
open Sys2Proof Sys2Proof.Machine

/-! ## Last setpoints -/

/-- Every last setpoint is absent. -/
def NoSetpoints (s : State) : Prop := ∀ h : HeadIx, (s.loop h).lastSet = none

namespace NoSetpoints
variable {s t : State}

theorem mono (hs : NoSetpoints s) (h : ∀ k, (t.loop k).lastSet = none ∨ (t.loop k).lastSet = (s.loop k).lastSet) :
    NoSetpoints t := fun k => (h k).elim id fun e => e.trans (hs k)

theorem modLoop (hs : NoSetpoints s) (h : HeadIx) {f : LoopState → LoopState}
    (hf : (f (s.loop h)).lastSet = (s.loop h).lastSet) : NoSetpoints (s.modLoop h f) := by
  refine hs.mono fun k => .inr ?_
  rw [State.loop_modLoop]
  split
  next e => rw [hf, e]
  · rfl

/-- No head takes a SETPOINT in STANDBY (R38). -/
theorem offer (hs : NoSetpoints s) (hr : s.running = false) (h : HeadIx) (v : Nat) :
    NoSetpoints (offerSetpoint h v s) := by
  refine hs.mono fun k => ?_
  rw [offerSetpoint_loop]
  split
  · simp [State.ctlAdmits, State.headOpen, hr]
  · exact .inr rfl

theorem gone (hs : NoSetpoints s) (h : HeadIx) (next : HeadLink) (warm : Bool) : NoSetpoints (headGone h next warm s) := by
  refine hs.mono fun k => ?_
  rw [headGone_loop]
  split
  · exact .inl rfl
  · exact .inr rfl

theorem apply (hs : NoSetpoints s) (hr : s.running = false) (h : HeadIx) (r : HeadRecord) :
    NoSetpoints (applyRecord h r s) := by
  have new : NoSetpoints (recorded h r s) := hs.mono fun k => .inr (by rw [State.loop_congr (recorded_loops s h)])
  rcases Bool.eq_false_or_eq_true r.enabled with he | he <;> by_cases hl : (s.head h).link = .disabled
  · rw [applyRecord_of_enabled s h hl he]
    exact modLoop (s := (recorded h r s).modHead h fun d => { d with link := .offline }) new h rfl
  · rw [applyRecord_of_stays s h hl he]
    have clamped : NoSetpoints (clampOffset h r (recorded h r s)) := new.modLoop h rfl
    have hr' : (clampOffset h r (recorded h r s)).running = false := (recorded_running s h r).trans hr
    unfold loadSetpoint
    dsimp only
    (repeat' split) <;> first | exact clamped | exact clamped.offer hr' h _
  · rw [applyRecord_of_idle s h hl he]
    exact new.modLoop h rfl
  · rw [applyRecord_of_gone s h hl he]
    have gone : NoSetpoints (headGone h .disabled false (recorded h r s)) := new.gone h .disabled false
    generalize headGone h .disabled false (recorded h r s) = u at gone
    exact gone.modLoop h rfl

theorem change (h : Change s t) (hr : s.running = false) (hs : NoSetpoints s) : NoSetpoints t := by
  cases h with
  | setpoint k v hv => exact hs.offer hr k v
  | guard k => exact offer (s := s.modLoop k _) (hs.modLoop k rfl) hr k _
  | loopStep k e he =>
    exact hs.modLoop k rfl
  | loopView k st c hst => exact hs.modLoop k rfl
  | history k => exact hs.modLoop k rfl
  | run k n hn => exact hs.modLoop k rfl
  | unguard k => exact hs.modLoop k rfl
  | gone k next warm hn hl => exact hs.gone k next warm
  | apply k r p hp => exact hs.apply hr k r
  | clear g =>
    refine hs.mono fun k => .inr ?_
    obtain ⟨c, hc⟩ := clearGroup_loop s g k
    rw [hc]
  | start hp => exact hs.mono fun k => .inr (by rw [startPart_loop])
  | stop hp => exact hs.mono fun k => .inl (by rw [stopPart_loop])
  | soft => exact hs.mono fun k => .inl (by rw [softResetPart_loop]; rfl)
  | _ =>
    refine hs.mono fun k => .inr (congrArg LoopState.lastSet (State.loop_congr ?_ k))
    simp [Machine.grantCrane, Machine.grantNotice, Machine.grantReply, Machine.grantNormal, startLoopTest]

end NoSetpoints

/-! ## The coverage period -/

theorem noPeriod_change {s t : State} (h : Change s t) (ht : t.part = .standby) (hs : s.cov.deadline = none) :
    t.cov.deadline = none := by
  cases h with
  | cov f hf =>
    rcases hf with e | e
    · exact e.trans hs
    · simp [hs] at e
  | start hp => simp at ht
  | stop hp => rfl
  | soft => rfl
  | clear g => cases g <;> exact hs
  | apply k r p hp =>
    rw [applyRecord_period]
    exact hs
  | _ =>
    simpa [Machine.grantCrane, Machine.grantNotice, Machine.grantReply, Machine.grantNormal, startLoopTest, setRun] using hs

/-! ## The Export Unit -/

/-- No flush deadline runs, no request stands, and the turn count is 0. -/
structure ExportQuiet (s : State) : Prop where
  flush : s.exp.deadline = none
  request : s.exp.request = false
  turn : s.trunk.exportTurn = 0

namespace ExportQuiet
variable {s t : State}

theorem mono (hs : ExportQuiet s) (he : t.exp.deadline = s.exp.deadline ∧ t.exp.request = s.exp.request)
    (ht : TrunkSteady s.trunk t.trunk) : ExportQuiet t where
  flush := he.1.trans hs.flush
  request := he.2.trans hs.request
  turn := ht.turn.elim (fun e => e.trans hs.turn) id

theorem judged (hs : ExportQuiet s) (hp : s.part = .standby) : ExportQuiet (judgeRequest s) where
  flush := by rw [judgeRequest_deadline, hs.flush]
  request := by rw [judgeRequest_request, requestStands_of_standby hp]
  turn := (judgeRequest_trunk s).turn.elim (fun e => e.trans hs.turn) id

theorem armed (hs : ExportQuiet s) (hp : s.part = .standby) : ExportQuiet (armFlush s) where
  flush := by rw [armFlush_deadline, flushAt_of_standby hp]
  request := by rw [armFlush_request, hs.request]
  turn := by rw [armFlush_trunk, hs.turn]

theorem join (hs : ExportQuiet s) (hp : s.part = .standby) (i : ReeferIx) (r : Reefer) (why : Reason) :
    ExportQuiet (joinList i r why s) := by
  have joined : ExportQuiet ((s.setReefer i (some { r with pending := true })).modExp fun x =>
      { x with
        list := x.list ++ [{ index := i, join := s.uptime, reason := why }]
        cnt := { x.cnt with offers := inc x.cnt.offers } }) := hs.mono ⟨rfl, rfl⟩ (.refl _)
  unfold joinList
  dsimp only
  split
  · exact hs.mono ⟨rfl, rfl⟩ (.refl _)
  · split
    · exact (joined.armed hp).judged ((armFlush_part _).trans hp)
    · exact joined.judged hp

theorem removed (hs : ExportQuiet s) (hp : s.part = .standby) (i : ReeferIx) : ExportQuiet (removePending i s) := by
  have taken : ExportQuiet (s.takenOut i) := hs.mono ⟨rfl, rfl⟩ (.refl _)
  rw [removePending_eq]
  split
  · exact (taken.armed hp).judged ((armFlush_part _).trans hp)
  · exact taken.judged hp

theorem free (hs : ExportQuiet s) (hp : s.part = .standby) (i : ReeferIx) (r : Reefer) :
    ExportQuiet (freeReefer i r s) := by
  have freed : ExportQuiet (freeReefer i { r with pending := false } s) :=
    hs.mono (by simp [freeReefer]) (freeReefer_trunk ..)
  cases h : r.pending with
  | false =>
    have e : freeReefer i r s = freeReefer i { r with pending := false } s := by rw [← h]
    rwa [e]
  | true =>
    rw [freeReefer_of_pending s i h]
    exact freed.removed ((freeReefer_part ..).trans hp) i

theorem change (h : Change s t) (hr : s.running = false) (ht : t.part = .standby) (hs : ExportQuiet s) :
    ExportQuiet t := by
  have hp := State.part_of_running_false hr
  cases h with
  | join i r why hi => exact hs.join hp i r why
  | free i r hi => exact hs.free hp i r
  | grantExport hreq => simp [hs.request] at hreq
  | @grantNormal f rest hq hturn =>
    refine ⟨hs.flush, hs.request, ?_⟩
    show (if s.exp.request = true then s.trunk.exportTurn + 1 else s.trunk.exportTurn) = 0
    simp [hs.request, hs.turn]
  | flushDue hd => simp [hs.flush, due] at hd
  | start hp => simp at ht
  | stop hrun => simp [hr] at hrun
  | soft => exact ⟨by simp [softResetPart], by simp [softResetPart], by simp [trunkStopped]⟩
  | clear g =>
    obtain ⟨c, hc⟩ := clearGroup_trunk s g
    refine hs.mono (by cases g <;> exact ⟨rfl, rfl⟩) ?_
    rw [hc]
    exact ⟨rfl, rfl, rfl, id, id, .inl rfl⟩
  | apply k r p hp => exact hs.mono (by rw [(applyRecord_reef_exp s k r).2.1]; exact ⟨rfl, rfl⟩) (applyRecord_trunk ..)
  | gone k next warm hn hl => exact hs.mono (by simp) (headGone_trunk ..)
  | notice n => exact hs.mono (by simp) (offerNotice_trunk ..)
  | headCrane k f => exact hs.mono (by simp) (offerHeadCrane_trunk ..)
  | trunkLink f hf =>
    refine hs.mono ⟨rfl, rfl⟩ ?_
    rw [State.modTrunk_trunk, hf]
    exact ⟨rfl, rfl, rfl, id, id, .inl rfl⟩
  | trunkCrane f hrun => simp [hr] at hrun
  | trunkNormal f hrun => simp [hr] at hrun
  | grantCrane hq => exact ⟨hs.flush, hs.request, hs.turn⟩
  | grantNotice hq => exact ⟨hs.flush, hs.request, hs.turn⟩
  | grantReply hq => exact ⟨hs.flush, hs.request, hs.turn⟩
  | reply r hq => exact ⟨hs.flush, hs.request, hs.turn⟩
  | countTrunk f => exact ⟨hs.flush, hs.request, hs.turn⟩
  | _ => exact hs.mono (by simp [startLoopTest, setRun]) (.of_eq (by simp [startLoopTest, setRun]))

end ExportQuiet

/-! ## The whole state -/

/-- What STOP leaves is quiet (R159). -/
theorem quiet_stopPart (s : State) : QuietInStandby (stopPart s) where
  terms i y hy := by
    rw [stopPart_term] at hy
    obtain ⟨x, hx, rfl⟩ := Option.map_eq_some_iff.mp hy
    exact TermsQuiet.stopped x
  reefers i q hq := by
    rw [stopPart_reefer] at hq
    obtain ⟨r, hr, rfl⟩ := Option.map_eq_some_iff.mp hq
    rfl
  period := by simp only [stopPart]
  flush := by simp only [stopPart]
  request := by simp only [stopPart]
  turn := by simp only [stopPart_trunk, trunkStopped]
  setpoints k := by rw [stopPart_loop]

/-- What SOFT_RESET leaves is quiet (R160). -/
theorem quiet_softResetPart (s : State) : QuietInStandby (softResetPart s) where
  terms i y hy := by
    rw [softResetPart_term] at hy
    obtain ⟨x, hx, rfl⟩ := Option.map_eq_some_iff.mp hy
    exact TermsQuiet.softReset x
  reefers i q hq := by
    rw [softResetPart_reefer] at hq
    obtain ⟨r, hr, rfl⟩ := Option.map_eq_some_iff.mp hq
    rfl
  period := by simp only [softResetPart]
  flush := by simp only [softResetPart]
  request := by simp only [softResetPart]
  turn := by simp only [softResetPart_trunk, trunkStopped]
  setpoints k := by rw [softResetPart_loop]; rfl

namespace StandbyOk
variable {s t : State}

theorem change (h : Change s t) (hs : StandbyOk s) : StandbyOk t := by
  intro ht
  rcases h.part_eq with hp | ⟨-, rfl⟩ | rfl | rfl
  · have q := hs (hp ▸ ht)
    have hr : s.running = false := by simp [State.running, hp ▸ ht]
    have exported := ExportQuiet.change h hr ht ⟨q.flush, q.request, q.turn⟩
    exact
      { terms := TermsQuiet.change h hr ht q.terms
        reefers := ReefersQuiet.change h hr ht q.reefers
        period := noPeriod_change h ht q.period
        flush := exported.flush, request := exported.request, turn := exported.turn
        setpoints := NoSetpoints.change h hr q.setpoints }
  · simp at ht
  · exact quiet_stopPart s
  · exact quiet_softResetPart s

end StandbyOk

theorem standbyOk_kept : Kept StandbyOk where
  change _ _ h hs := hs.change h
  queue _ _ _ hs hp := { hs hp with }
  time _ hs hp := { hs hp with }
  asserted _ hs hp := { hs hp with }
  released b s _ :=
    { terms := fun i x hx => by simp [released_term] at hx
      reefers := fun i r hr => by simp [released, State.reset, State.reefer, Reefers.hardReset] at hr
      period := rfl, flush := rfl, request := rfl, turn := rfl
      setpoints := fun h => by simp [released, State.reset, State.loop, LoopState.hardReset] }

/-- Settles O59: each change leaves quiet what was quiet, and STOP and SOFT_RESET make all of it so. -/
theorem stepsKeepStandbyQuiet : Obligations.StepsKeepStandbyQuiet := by
  unfold Obligations.StepsKeepStandbyQuiet
  exact fun s t hs h => standbyOk_kept.step hs h

end Sys2Proof.Safety
end

section
/-! That no step moves an offset out of its limits, nor a loop state out of its range (7.1, 7.6). -/

namespace Sys2Proof.Safety
open Sys2Proof Sys2Proof.Machine

/-- A record and a loop state in range. -/
structure LoopRange (r : HeadRecord) (l : LoopState) : Prop where
  record : RecordOk r
  offset : r.pMin ≤ l.u ∧ l.u ≤ r.pMax
  history : -255 ≤ l.e1 ∧ l.e1 ≤ 255 ∧ -255 ≤ l.e2 ∧ l.e2 ≤ 255
  guarded : l.status = .guarded ↔ l.guarded = true
  run : l.run ≤ 8

/-- What is said of a head's record, its queued SETPOINTs and its loop state. -/
structure LoopFine (d : Head) (l : LoopState) : Prop extends LoopRange d.record l where
  queued : ∀ v, CtlFrame.setpoint v ∈ d.ctlQ → l.lastSet = some v
  floor : l.guarded = true → d.link ≠ .disabled → l.lastSet = none ∨ l.lastSet = some d.record.pMin

theorem loopOk_iff {s : State} {h : HeadIx} : LoopOk s h ↔ LoopFine (s.head h) (s.loop h) :=
  ⟨fun ⟨a, b, c, d, e, f, g⟩ => ⟨⟨a, b, c, d, e⟩, f, g⟩, fun ⟨⟨a, b, c, d, e⟩, f, g⟩ => ⟨a, b, c, d, e, f, g⟩⟩

theorem clampNat_bounds {lo hi : Nat} (h : lo ≤ hi) (x : Nat) : lo ≤ clampNat lo hi x ∧ clampNat lo hi x ≤ hi := by
  unfold clampNat
  split
  · omega
  · split <;> omega

theorem clampInt_bounds {lo hi : Int} (h : lo ≤ hi) (x : Int) : lo ≤ clampInt lo hi x ∧ clampInt lo hi x ≤ hi := by
  unfold clampInt
  split
  · omega
  · split <;> omega

/-- R20: a record that passes the checks lies within Table 2-1. -/
theorem recordOk_of_check {p : HeadLoadP} {h : HeadIx} {r : HeadRecord} (hp : checkHeadLoad p = some (h, r)) :
    RecordOk r := by
  unfold checkHeadLoad at hp
  split at hp
  next en ar k _ _ _ =>
    dsimp only at hp
    split at hp
    · cases hp
    · split at hp
      · cases hp
      next hw =>
        split at hp
        · cases hp
        next hm =>
          cases hp
          have limits : (clampRecord p en ar).pMin ≤ (clampRecord p en ar).pMax := Nat.le_of_not_lt hm
          exact
            { window := ⟨Nat.le_of_not_lt hw, (clampNat_bounds (Nat.zero_le 47) _).2⟩
              trim := clampInt_bounds (by omega) _
              base := clampInt_bounds (by omega) _
              limits := ⟨limits, (clampNat_bounds (Nat.zero_le 120) _).2⟩
              initial := clampNat_bounds limits _
              gains := ⟨(clampNat_bounds (Nat.zero_le 1023) _).2, (clampNat_bounds (Nat.zero_le 1023) _).2,
                (clampNat_bounds (Nat.zero_le 1023) _).2⟩
              slew := clampNat_bounds (by omega) _
              guard := ⟨Nat.le_of_lt_succ p.guardLimit.isLt, clampNat_bounds (by omega) _⟩ }
  · cases hp

/-! ## One head -/

namespace LoopFine
variable {d e : Head} {l m : LoopState}

/-- What leaves the record and the loop state, and queues no SETPOINT. -/
theorem mono (h : LoopFine d l) (hr : e.record = d.record) (hq : ∀ v, CtlFrame.setpoint v ∈ e.ctlQ → CtlFrame.setpoint v ∈ d.ctlQ)
    (hd : e.link ≠ .disabled → d.link ≠ .disabled) : LoopFine e l where
  record := hr ▸ h.record
  offset := hr ▸ h.offset
  history := h.history
  guarded := h.guarded
  run := h.run
  queued v hv := h.queued v (hq v hv)
  floor hg hl := hr ▸ h.floor hg (hd hl)

theorem of_ctlQ (h : LoopFine d l) (hr : e.record = d.record) (hq : e.ctlQ = d.ctlQ) (hd : e.link = d.link) :
    LoopFine e l :=
  h.mono hr (fun _ hv => hq ▸ hv) (fun hl => hd ▸ hl)

/-- The queue emptied, with the last setpoint as it was or absent. -/
theorem emptied (h : LoopFine d l) (hr : e.record = d.record) (hq : e.ctlQ = [])
    (hd : e.link ≠ .disabled → d.link ≠ .disabled) (o : Option Nat) (ho : o = none ∨ o = l.lastSet) :
    LoopFine e { l with lastSet := o } where
  record := hr ▸ h.record
  offset := hr ▸ h.offset
  history := h.history
  guarded := h.guarded
  run := h.run
  queued v hv := by rw [hq] at hv; cases hv
  floor hg hl := by
    rcases ho with e | e
    · exact .inl e
    · exact hr ▸ e ▸ h.floor hg (hd hl)

/-- A head DISABLED, its queue empty: its last setpoint may be any. -/
theorem closed {d : Head} {l : LoopState} (h : LoopRange d.record l) (hq : d.ctlQ = []) (hd : d.link = .disabled) :
    LoopFine d l :=
  { h with queued := fun v hv => by simp [hq] at hv, floor := fun _ hl => absurd hd hl }

/-- A step of the loop (R113). -/
theorem stepped (h : LoopFine d l) {x : Int} (hx : -255 ≤ x ∧ x ≤ 255) : LoopFine d (l.stepped d.record x) where
  record := h.record
  offset := by
    have limits := h.record.limits.1
    have u := newOffset_eq limits l x
    show d.record.pMin ≤ (newOffset d.record l x).2 ∧ (newOffset d.record l x).2 ≤ d.record.pMax
    omega
  history := ⟨hx.1, hx.2, h.history.1, h.history.2.1⟩
  guarded := h.guarded
  run := h.run
  queued := h.queued
  floor := h.floor

/-- A SETPOINT admitted replaces any in the queue; a refused one finds none there. -/
theorem offered (h : LoopRange d.record l) {e : Head} {c : HeadCounters} {v : Nat} {ok : Bool}
    (he : e = { d with ctlQ := if ok = true then pushCtl (.setpoint v) d.ctlQ else d.ctlQ, cnt := c })
    (hq : ok = false → ∀ w, CtlFrame.setpoint w ∉ d.ctlQ)
    (hv : l.guarded = true → v = d.record.pMin) : LoopFine e { l with lastSet := if ok = true then some v else none } := by
  subst he
  refine { h with queued := fun w hw => ?_, floor := fun hg _ => ?_ }
  · cases ok
    · exact absurd hw (hq rfl w)
    · simp only [if_true, pushCtl] at hw
      split at hw
      · obtain ⟨f, hf, e⟩ := List.mem_map.mp hw
        split at e
        · cases e; rfl
        next hs => subst e; simp [CtlFrame.isSetpoint] at hs
      next hs =>
        rcases List.mem_append.mp hw with hw | hw
        · refine absurd ?_ hs
          simp only [CtlFrame.isSetpoint, Bool.true_and, List.any_eq_true]
          exact ⟨_, hw, rfl⟩
        · cases List.mem_singleton.mp hw
          rfl
  · cases ok
    · exact .inl rfl
    · exact .inr (by rw [hv hg]; rfl)

/-- A head with its held loop test placed (R36). -/
theorem started {d : Head} {l : LoopState} (h : LoopFine d l) : LoopFine (headStarted d) l := by
  unfold headStarted
  split
  next t ht =>
    split
    · exact h.mono rfl (fun v hv => by simpa using hv) id
    · exact h
  · exact h

/-- A frame sent leaves no new one (R40). -/
theorem served {d : Head} {l : LoopState} (h : LoopFine d l) : LoopFine d.serve l := by
  have queues : LoopFine d.serveQueues l := by
    unfold Head.serveQueues
    split
    next c cs hc => exact h.mono rfl (fun v hv => by rw [hc]; exact List.mem_cons_of_mem _ hv) id
    · exact h.of_ctlQ rfl rfl rfl
    · exact h.of_ctlQ rfl rfl rfl
    · exact h
  unfold Head.serve
  split
  · split
    · exact h.of_ctlQ rfl rfl rfl
    · exact queues
  · exact queues

end LoopFine

/-- A queue that refuses a SETPOINT holds none (Table 2-5). -/
theorem no_setpoint_of_refused {s : State} (hs : QueuesOk s) {h : HeadIx} {v : Nat}
    (ha : s.ctlAdmits h (.setpoint v) = false) (w : Nat) : CtlFrame.setpoint w ∉ (s.head h).ctlQ := by
  intro hw
  cases ho : s.headOpen h with
  | true =>
    have any : (s.head h).ctlQ.any CtlFrame.isSetpoint = true := List.any_eq_true.mpr ⟨_, hw, rfl⟩
    simp [State.ctlAdmits, ho, any, CtlFrame.isSetpoint] at ha
  | false =>
    have empty : (s.head h).ctlQ = [] := by
      by_cases hp : s.part = .standby
      · exact (hs.standbyHeads hp h).1
      · refine ((hs.heads h).closedEmpty ?_).1
        by_contra hc
        have run : s.running = true := by
          cases hr : s.running
          · exact absurd (State.part_of_running_false hr) hp
          · rfl
        have := headOpen_iff.mpr ⟨run, fun e => hc (.inl e), fun e => hc (.inr e)⟩
        simp [ho] at this
    simp [empty] at hw

/-! ## The whole state -/

namespace LoopsOk
variable {s t : State}

theorem fine (hs : LoopsOk s) (k : HeadIx) : LoopFine (s.head k) (s.loop k) := loopOk_iff.mp (hs k)

theorem of_fine (h : ∀ k, LoopFine (s.head k) (s.loop k)) : LoopsOk s := fun k => loopOk_iff.mpr (h k)

/-- What one head and its loop come to, where the others stand. -/
theorem one (hs : LoopsOk s) (k : HeadIx) (hk : LoopFine (t.head k) (t.loop k))
    (ho : ∀ j, j ≠ k → t.head j = s.head j ∧ t.loop j = s.loop j) : LoopsOk t :=
  of_fine fun j => if e : j = k then e ▸ hk else by rw [(ho j e).1, (ho j e).2]; exact hs.fine j

theorem mono (hs : LoopsOk s) (hh : t.heads = s.heads) (hl : t.loops = s.loops) : LoopsOk t :=
  of_fine fun j => by rw [State.head_congr hh, State.loop_congr hl]; exact hs.fine j

theorem modLoop (hs : LoopsOk s) (k : HeadIx) {f : LoopState → LoopState} (hf : LoopFine (s.head k) (f (s.loop k))) :
    LoopsOk (s.modLoop k f) :=
  hs.one k (by rw [State.loop_modLoop_self]; exact hf) fun j hj => ⟨rfl, State.loop_modLoop_of_ne s k hj f⟩

theorem modHead (hs : LoopsOk s) (k : HeadIx) {f : Head → Head} (hf : LoopFine (f (s.head k)) (s.loop k)) :
    LoopsOk (s.modHead k f) :=
  hs.one k (by rw [State.head_modHead_self]; exact hf) fun j hj => ⟨State.head_modHead_of_ne _ _ hj, rfl⟩

theorem offerSetpoint_fine (hq : QueuesOk s) {k : HeadIx} {v : Nat} (h : LoopRange (s.head k).record (s.loop k))
    (hv : (s.loop k).guarded = true → v = (s.head k).record.pMin) :
    LoopFine ((offerSetpoint k v s).head k) ((offerSetpoint k v s).loop k) := by
  obtain ⟨c, hc⟩ := offerCtl_head s k (.setpoint v)
  rw [offerSetpoint_loop, if_pos rfl, offerSetpoint, State.head_modLoop]
  exact LoopFine.offered h hc (fun ha => no_setpoint_of_refused hq ha) hv

theorem offerSetpoint (hs : LoopsOk s) (hq : QueuesOk s) (k : HeadIx) (v : Nat)
    (hv : (s.loop k).guarded = true → v = (s.head k).record.pMin) : LoopsOk (offerSetpoint k v s) := by
  refine hs.one k (offerSetpoint_fine hq (hs.fine k).toLoopRange hv) fun j hj => ?_
  rw [offerSetpoint_loop, if_neg hj, Machine.offerSetpoint, State.head_modLoop]
  exact ⟨offerCtl_head_of_ne s hj _, rfl⟩

theorem headGone_fine {k : HeadIx} (h : LoopFine (s.head k) (s.loop k)) (next : HeadLink) (warm : Bool)
    (hl : next ≠ .disabled → (s.head k).link ≠ .disabled) :
    LoopFine ((headGone k next warm s).head k) ((headGone k next warm s).loop k) := by
  obtain ⟨c, hc⟩ := headGone_head s k next warm
  have loop := headGone_loop s k next warm k
  have record : ((headGone k next warm s).head k).record = (s.head k).record := by rw [hc]
  have link : ((headGone k next warm s).head k).link = next := by rw [hc]
  have enabled (e : ((headGone k next warm s).head k).link ≠ .disabled) : (s.head k).link ≠ .disabled := hl (link ▸ e)
  cases warm
  · have ctlQ : ((headGone k next false s).head k).ctlQ = [] := by rw [hc]; rfl
    by_cases hq : (s.head k).ctlQ.any CtlFrame.isSetpoint = true
    · rw [if_pos ⟨rfl, rfl, hq⟩] at loop
      rw [loop]
      exact h.emptied record ctlQ enabled none (.inl rfl)
    · rw [if_neg (fun x => hq x.2.2)] at loop
      rw [loop]
      exact h.emptied record ctlQ enabled _ (.inr rfl)
  · have ctlQ : ((headGone k next true s).head k).ctlQ = (s.head k).untested := by rw [hc]; rfl
    rw [if_neg (fun x => nomatch x.2.1)] at loop
    rw [loop]
    exact h.mono record (fun v hv => (s.head k).untested_sublist.mem (ctlQ ▸ hv)) enabled

theorem headGone (hs : LoopsOk s) {k : HeadIx} (next : HeadLink) (warm : Bool)
    (hl : next ≠ .disabled → (s.head k).link ≠ .disabled) : LoopsOk (headGone k next warm s) := by
  refine hs.one k (headGone_fine (hs.fine k) next warm hl) fun j hj => ?_
  rw [headGone_loop, if_neg (fun x => hj x.1), headGone_head_of_ne s hj]
  exact ⟨rfl, rfl⟩

theorem clamped {r r' : HeadRecord} {l : LoopState} (h : LoopRange r l) (hr : RecordOk r') :
    LoopRange r' { l with u := clampNat r'.pMin r'.pMax l.u } :=
  { h with record := hr, offset := clampNat_bounds hr.limits.1 l.u }

theorem queuesOk_recorded (hq : QueuesOk s) (k : HeadIx) (r : HeadRecord) : QueuesOk (recorded k r s) :=
  hq.one k (by simp) (recorded_steady s k r _) (fun j hj => recorded_head_of_ne s k hj) (.of_eq (by simp))

/-- R117: a head that stays enabled keeps its loop in range, and its SETPOINT is offered. -/
theorem loadSetpoint_fine (hq : QueuesOk s) {k : HeadIx} {r : HeadRecord} (old : HeadRecord)
    (h : LoopFine { s.head k with record := old } (s.loop k)) (hrec : (s.head k).record = r) (hr : RecordOk r)
    (hl : (s.head k).link ≠ .disabled) :
    LoopFine ((loadSetpoint k old r s).head k) ((loadSetpoint k old r s).loop k) := by
  have loop : (clampOffset k r s).loop k = { s.loop k with u := clampNat r.pMin r.pMax (s.loop k).u } := by
    rw [clampOffset, State.loop_modLoop_self]
  have range : LoopRange ((clampOffset k r s).head k).record ((clampOffset k r s).loop k) := by
    rw [loop, clampOffset, State.head_modLoop, hrec]
    exact clamped h.toLoopRange hr
  have queues : QueuesOk (clampOffset k r s) := hq.loop k _
  have offered (v : Nat) (hv : (s.loop k).guarded = true → v = r.pMin) :
      LoopFine ((Machine.offerSetpoint k v (clampOffset k r s)).head k)
        ((Machine.offerSetpoint k v (clampOffset k r s)).loop k) := by
    refine offerSetpoint_fine queues range fun hg => ?_
    rw [loop] at hg
    rw [clampOffset, State.head_modLoop, hrec]
    exact hv hg
  have unchanged (hf : (s.loop k).guarded = true → old.pMin = r.pMin) :
      LoopFine ((clampOffset k r s).head k) ((clampOffset k r s).loop k) :=
    { range with
      queued := fun v hv => by rw [loop]; exact h.queued v hv
      floor := fun hg _ => by
        rw [loop] at hg ⊢
        rw [clampOffset, State.head_modLoop, hrec, ← hf hg]
        exact h.floor hg hl }
  unfold loadSetpoint
  dsimp only
  split
  next hg =>
    split
    next hp => exact unchanged fun _ => hp
    · exact offered _ fun _ => rfl
  next hg =>
    split
    · exact unchanged fun e => absurd e hg
    · exact offered _ fun e => absurd e hg

theorem apply (hs : LoopsOk s) (hq : QueuesOk s) (k : HeadIx) {r : HeadRecord} (hr : RecordOk r) :
    LoopsOk (applyRecord k r s) := by
  refine hs.one k ?_ fun j hj => ⟨applyRecord_head_of_ne s hj r, applyRecord_loop_of_ne s k hj r⟩
  have new := queuesOk_recorded hq k r
  have loop : (recorded k r s).loop k = s.loop k := State.loop_congr (recorded_loops s k) k
  have fine := hs.fine k
  have empty (hl : (s.head k).link = .disabled) : (s.head k).ctlQ = [] := ((hq.heads k).closedEmpty (.inl hl)).1
  rcases Bool.eq_false_or_eq_true r.enabled with he | he <;> by_cases hl : (s.head k).link = .disabled
  · rw [applyRecord_of_enabled s k hl he, loopEnabled, State.head_modLoop, State.head_modHead_self,
      State.loop_modLoop_self, State.loop_modHead, recorded_head_self, loop]
    exact
      { record := hr, offset := hr.initial, history := by simp, guarded := by simp, run := Nat.zero_le 8
        queued := fun v hv => by simp [empty hl] at hv
        floor := fun hg => by simp at hg }
  · rw [applyRecord_of_stays s k hl he]
    refine loadSetpoint_fine new _ ?_ (by rw [recorded_head_self]) hr (by rwa [recorded_link])
    rw [recorded_head_self, loop]
    exact fine
  · rw [applyRecord_of_idle s k hl he, clampOffset, State.head_modLoop, State.loop_modLoop_self, recorded_head_self, loop]
    exact .closed (clamped fine.toLoopRange hr) (empty hl) hl
  · rw [applyRecord_of_gone s k hl he, clampOffset, State.head_modLoop, State.loop_modLoop_self]
    obtain ⟨c, hc⟩ := headGone_head (recorded k r s) k .disabled false
    have gone := headGone_loop (recorded k r s) k .disabled false k
    have range : LoopRange (s.head k).record ((Machine.headGone k .disabled false (recorded k r s)).loop k) := by
      rw [gone, loop]
      split
      · exact { fine.toLoopRange with }
      · exact fine.toLoopRange
    have record : ((Machine.headGone k .disabled false (recorded k r s)).head k).record = r := by
      rw [hc, recorded_head_self]
    refine .closed ?_ (by rw [hc]; rfl) (by rw [hc])
    rw [record]
    exact clamped range hr

theorem change (h : Change s t) (hq : QueuesOk s) (hs : LoopsOk s) : LoopsOk t := by
  cases h with
  | headView k f hf => exact hs.modHead k (by rw [hf]; exact (hs.fine k).of_ctlQ rfl rfl rfl)
  | ctl k f hf =>
    obtain ⟨c, hc⟩ := offerCtl_head s k f
    refine hs.one k ?_ fun j hj => ⟨offerCtl_head_of_ne s hj f, offerCtl_loop ..⟩
    rw [offerCtl_loop, hc]
    refine (hs.fine k).mono rfl (fun v hv => ?_) id
    dsimp only at hv
    split at hv
    · simp only [pushCtl, hf, Bool.false_and, Bool.false_eq_true, if_false, List.mem_append, List.mem_singleton] at hv
      refine hv.resolve_right fun e => ?_
      subst e
      cases hf
    · exact hv
  | headCrane k f =>
    obtain ⟨c, hc⟩ := offerHeadCrane_head s k f
    have loop (j : HeadIx) : (offerHeadCrane k f s).loop j = s.loop j := State.loop_congr (by simp) j
    refine hs.one k ?_ fun j hj => ⟨offerHeadCrane_head_of_ne s hj f, loop j⟩
    rw [loop, hc]
    exact (hs.fine k).of_ctlQ rfl rfl rfl
  | headNormal k f =>
    obtain ⟨c, hc⟩ := offerHeadNormal_head s k f
    have loop (j : HeadIx) : (offerHeadNormal k f s).loop j = s.loop j := State.loop_congr (by simp) j
    refine hs.one k ?_ fun j hj => ⟨offerHeadNormal_head_of_ne s hj f, loop j⟩
    rw [loop, hc]
    exact (hs.fine k).of_ctlQ rfl rfl rfl
  | serve k => exact hs.modHead k (hs.fine k).served
  | withoutTest k => exact hs.modHead k ((hs.fine k).mono rfl (fun v hv => List.mem_of_mem_filter hv) id)
  | startTest k p a hu hroom =>
    refine hs.modHead k ((hs.fine k).mono rfl (fun v hv => ?_) id)
    dsimp only at hv
    split at hv
    · simpa using hv
    · exact hv
  | goesUp k d hl => exact hs.modHead k ((hs.fine k).mono rfl (fun v hv => hv) fun _ => hl)
  | timer k r q hl hk =>
    exact hs.modHead k ((hs.fine k).mono rfl (fun v hv => hv) fun _ e => by rw [hl] at e; cases e)
  | gone k next warm hn hl => exact hs.headGone next warm fun _ => hl
  | apply k r p hp => exact hs.apply hq k (recordOk_of_check hp)
  | setpoint k v hv => exact hs.offerSetpoint hq k v hv
  | guard k =>
    have range : LoopRange (s.head k).record ((s.modLoop k fun l =>
        { l with guarded := true, status := .guarded, run := 0
                 cnt := { l.cnt with guardEntries := inc l.cnt.guardEntries } }).loop k) := by
      rw [State.loop_modLoop_self]
      exact { (hs.fine k).toLoopRange with guarded := by simp, run := Nat.zero_le 8 }
    refine hs.one k (offerSetpoint_fine (hq.loop k _) range fun _ => rfl) fun j hj => ?_
    rw [offerSetpoint_loop, if_neg hj, State.loop_modLoop_of_ne s k hj, Machine.offerSetpoint, State.head_modLoop]
    exact ⟨offerCtl_head_of_ne _ hj _, rfl⟩
  | loopStep k e he => exact hs.modLoop k ((hs.fine k).stepped he)
  | loopView k st c hst =>
    have fine := hs.fine k
    refine hs.modLoop k { fine with guarded := ?_ }
    rcases hst with e | ⟨hg, hst⟩
    · rw [e]
      exact fine.guarded
    · simp [hg, hst]
  | history k => exact hs.modLoop k { hs.fine k with history := by simp }
  | run k n hn => exact hs.modLoop k { hs.fine k with run := hn.trans (hs.fine k).record.guard.2.2 }
  | unguard k =>
    exact hs.modLoop k { hs.fine k with guarded := by simp, run := Nat.zero_le 8, floor := fun e => by simp at e }
  | start hp => exact of_fine fun k => by rw [startPart_head, startPart_loop]; exact (hs.fine k).started
  | stop hp =>
    exact of_fine fun k => by
      rw [stopPart_head, stopPart_loop]
      exact LoopFine.emptied (e := (s.head k).flushed) (hs.fine k) rfl rfl id none (.inl rfl)
  | soft =>
    refine of_fine fun k => ?_
    have fine := hs.fine k
    rw [softResetPart_head, softResetPart_loop]
    exact
      { record := fine.record, offset := fine.record.initial, history := by simp [loopSoftReset]
        guarded := by simp [loopSoftReset], run := Nat.zero_le 8
        queued := fun v hv => by simp [headSoftReset, Head.flushed] at hv
        floor := fun e => by simp [loopSoftReset] at e }
  | clear g =>
    refine of_fine fun k => ?_
    obtain ⟨c, hc⟩ := clearGroup_head s g k
    obtain ⟨n, hn⟩ := clearGroup_loop s g k
    rw [hc, hn]
    exact { hs.fine k with }
  | _ =>
    refine hs.mono ?_ ?_ <;>
      simp [Machine.grantCrane, Machine.grantNotice, Machine.grantReply, Machine.grantNormal]

end LoopsOk

theorem loopFine_hardReset (b : Bool) : LoopFine (Head.hardReset b) LoopState.hardReset :=
  .closed
    { record := by constructor <;> simp [Head.hardReset, HeadRecord.hardReset]
      offset := by simp [Head.hardReset, HeadRecord.hardReset, LoopState.hardReset]
      history := by simp [LoopState.hardReset], guarded := by simp [LoopState.hardReset]
      run := by simp [LoopState.hardReset] } rfl rfl

theorem loopsOk_kept : Kept fun s => QueuesOk s ∧ LoopsOk s where
  change _ _ h hs := ⟨queuesOk_kept.change _ _ h hs.1, hs.2.change h hs.1⟩
  queue _ l n hs := ⟨queuesOk_kept.queue _ l n hs.1, hs.2.mono rfl rfl⟩
  time _ hs := ⟨queuesOk_kept.time _ hs.1, hs.2.mono rfl rfl⟩
  asserted s hs := by
    refine ⟨queuesOk_kept.asserted s hs.1, LoopsOk.of_fine fun k => ?_⟩
    have e : (resetAsserted s).head k = headHeld (s.head k) := by simp [resetAsserted, State.head]
    rw [e]
    refine (hs.2.fine k).mono rfl (fun v hv => hv) fun hl hd => hl ?_
    simp [headHeld, hd]
  released b s := by
    refine ⟨queuesOk_kept.released b s, LoopsOk.of_fine fun k => ?_⟩
    have head : (released b s).head k = Head.hardReset (s.head k).ethUp := by simp [released, State.head]
    have loop : (released b s).loop k = LoopState.hardReset := by simp [released, State.reset, State.loop]
    rw [head, loop]
    exact loopFine_hardReset _

/-- Settles O58: with the queues sound, a change that moves a record, a queue or a loop state keeps the three in step. -/
theorem stepsKeepTheLoops : Obligations.StepsKeepTheLoops := by
  unfold Obligations.StepsKeepTheLoops
  exact fun s t hs hq h => (loopsOk_kept.step ⟨hq, hs⟩ h).2

end Sys2Proof.Safety
end

section
/-! That no step breaks what chapter 8 says of tags, gateway references, alarms and silence deadlines. -/

namespace Sys2Proof.Safety
open Sys2Proof Sys2Proof.Machine

/-! ## The reefer counts of the gateways (R132) -/

/-- The reefer count of a gateway entry. -/
def Term.reeferCount (t : Term) : Option Nat :=
  match t.part with
  | .gateway _ n => some n
  | .crane _ | .vehicle | .other => none

/-- The reefer count of the gateway in a slot. -/
def gatewayCount (s : State) (g : SlotIx) : Option Nat := (s.term g).bind Term.reeferCount

theorem gatewayCount_eq_some {s : State} {g : SlotIx} {n : Nat} :
    gatewayCount s g = some n ↔ ∃ t st, s.term g = some t ∧ t.part = .gateway st n := by
  unfold gatewayCount
  cases s.term g with
  | none => simp
  | some t =>
    cases hp : t.part <;> simp [Term.reeferCount, hp]

section Counts
variable {s t : State}

theorem gatewayCount_congr (h : t.terms = s.terms) (g : SlotIx) : gatewayCount t g = gatewayCount s g := by
  rw [gatewayCount, State.term_congr h]; rfl

theorem gatewayCount_map {f : Term → Term} (hf : ∀ x, Term.reeferCount (f x) = Term.reeferCount x)
    (h : ∀ i, t.term i = (s.term i).map f) (g : SlotIx) : gatewayCount t g = gatewayCount s g := by
  rw [gatewayCount, h, gatewayCount]
  cases s.term g with
  | none => rfl
  | some x => exact hf x

theorem gatewayCount_setTerm (i : SlotIx) (o : Option Term) (g : SlotIx) :
    gatewayCount (s.setTerm i o) g = if g = i then o.bind Term.reeferCount else gatewayCount s g := by
  rw [gatewayCount, State.term_setTerm]
  split <;> rfl

theorem gatewayCount_set {i : SlotIx} {x y : Term} (hx : s.term i = some x) (hy : Term.reeferCount y = Term.reeferCount x)
    (g : SlotIx) : gatewayCount (s.setTerm i (some y)) g = gatewayCount s g := by
  rw [gatewayCount_setTerm]
  split
  next e => subst e; rw [gatewayCount, hx]; exact hy
  · rfl

theorem reeferCount_bumped (f : Nat → Nat) (x : Term) :
    Term.reeferCount (x.bumped f) = (Term.reeferCount x).map f := by
  unfold Term.bumped Term.reeferCount
  cases hp : x.part <;> simp [hp]

theorem gatewayCount_gone (h : HeadIx) (next : HeadLink) (warm : Bool) (u : State) (g : SlotIx) :
    gatewayCount (headGone h next warm u) g = gatewayCount u g :=
  gatewayCount_map (fun x => by rw [Term.reeferCount, (x.departed_keeps h warm _).2.1]; rfl) (headGone_term h next warm u) g

theorem gatewayCount_segment (i : SlotIx) (b : Byte) (g : SlotIx) :
    gatewayCount (recordSegment i b s) g = gatewayCount s g := by
  cases hx : s.term i with
  | none => rw [recordSegment_free hx]
  | some x =>
    rw [gatewayCount_congr (s := s.setTerm i (some { x with segment := segmentOf b })) (recordSegment_terms hx b)]
    exact gatewayCount_set (y := { x with segment := segmentOf b }) hx rfl g

theorem gatewayCount_start (g : SlotIx) : gatewayCount (startPart s) g = gatewayCount s g := by
  refine gatewayCount_map (fun x => ?_) (startPart_term s) g
  unfold termStarted
  split
  next hx => simp [Term.reeferCount, hx]
  · rfl

theorem gatewayCount_stop (g : SlotIx) : gatewayCount (stopPart s) g = gatewayCount s g := by
  refine gatewayCount_map (fun x => ?_) (stopPart_term s) g
  unfold termStopped ClassPart.stopped Term.reeferCount
  cases hx : x.part with
  | gateway w n => cases w <;> simp
  | _ => simp

theorem gatewayCount_soft (g : SlotIx) : gatewayCount (softResetPart s) g = gatewayCount s g := by
  refine gatewayCount_map (fun x => ?_) (softResetPart_term s) g
  unfold termSoftReset ClassPart.softReset Term.reeferCount
  cases hx : x.part <;> simp

theorem gatewayCount_apply (h : HeadIx) (r : HeadRecord) (g : SlotIx) :
    gatewayCount (applyRecord h r s) g = gatewayCount s g := by
  rcases applyRecord_terms h r s with e | ⟨u, hu, -, e⟩
  · exact gatewayCount_congr e g
  · rw [gatewayCount_congr e, gatewayCount_gone, gatewayCount_congr hu]

end Counts

/-! ## Reefer entries -/

/-- What a change may make of a reefer entry, where the gateways stand. -/
structure ReeferLike (r q : Reefer) : Prop where
  tag : q.tag = r.tag
  gateway : q.gateway = r.gateway
  alarm : (r.state = .alarm → r.setpoint.isSome = true) → q.state = .alarm → q.setpoint.isSome = true
  silence : (r.silence.isSome = true → isHeard r.state = true) → q.silence.isSome = true → isHeard q.state = true

theorem ReeferLike.refl (r : Reefer) : ReeferLike r r := ⟨rfl, rfl, id, id⟩

/-- A change of the entries one by one. -/
structure ReefersLike (s t : State) : Prop where
  eq : ∀ i, Option.Rel ReeferLike (s.reefer i) (t.reefer i)

namespace ReefersLike
variable {s t : State}

theorem of_eq (h : ∀ i, t.reefer i = s.reefer i) : ReefersLike s t := by
  constructor
  intro i
  rw [h]
  cases s.reefer i with
  | none => exact .none
  | some r => exact .some (.refl r)

theorem of_table (h : t.reef.table = s.reef.table) : ReefersLike s t := of_eq (State.reefer_congr h)

theorem of_map {f : ReeferIx → Reefer → Reefer} (hf : ∀ i r, ReeferLike r (f i r))
    (h : ∀ i, t.reefer i = (s.reefer i).map (f i)) : ReefersLike s t := by
  constructor
  intro i
  rw [h]
  cases s.reefer i with
  | none => exact .none
  | some r => exact .some (hf i r)

theorem set {i : ReeferIx} {r q : Reefer} (hr : s.reefer i = some r) (hq : ReeferLike r q) :
    ReefersLike s (s.setReefer i (some q)) := by
  constructor
  intro j
  rw [State.reefer_setReefer]
  split
  next e => subst e; rw [hr]; exact .some hq
  next e =>
    cases s.reefer j with
    | none => exact .none
    | some r => exact .some (.refl r)

theorem some (h : ReefersLike s t) {i : ReeferIx} {q : Reefer} (hq : t.reefer i = .some q) :
    ∃ r, s.reefer i = .some r ∧ ReeferLike r q := by
  have hi := h.eq i
  rw [hq] at hi
  cases hr : s.reefer i with
  | none => rw [hr] at hi; cases hi
  | some r => rw [hr] at hi; cases hi with | some hrq => exact ⟨r, rfl, hrq⟩

theorem gateway (h : ReefersLike s t) (i : ReeferIx) : (t.reefer i).bind Reefer.gateway = (s.reefer i).bind Reefer.gateway := by
  have hi := h.eq i
  generalize s.reefer i = a at hi
  generalize t.reefer i = b at hi
  cases hi with
  | none => rfl
  | some hrq => exact hrq.gateway

end ReefersLike

/-- A reefer entry that names a gateway slot. -/
def names (g : SlotIx) (o : Option Reefer) : Bool := o.any fun r => decide (r.gateway = some g)

theorem countNaming_eq (s : State) (g : SlotIx) :
    countNaming s g = (List.finRange 2048).countP fun i => decide ((s.reefer i).bind Reefer.gateway = some g) := by
  rw [countNaming, countTab_eq]
  congr 1
  funext i
  show (s.reefer i).any _ = _
  cases s.reefer i <;> simp

theorem countNaming_congr {s t : State} {g : SlotIx}
    (h : ∀ i, (t.reefer i).bind Reefer.gateway = some g ↔ (s.reefer i).bind Reefer.gateway = some g) :
    countNaming t g = countNaming s g := by
  rw [countNaming_eq, countNaming_eq]
  congr 1
  funext i
  exact decide_eq_decide.mpr (h i)

/-- One entry written moves the count by that entry alone. -/
theorem countNaming_setReefer (s : State) (i : ReeferIx) (o : Option Reefer) (g : SlotIx) :
    countNaming (s.setReefer i o) g + (if (s.reefer i).bind Reefer.gateway = some g then 1 else 0) =
      countNaming s g + (if o.bind Reefer.gateway = some g then 1 else 0) := by
  have put := countTab_put (names g) s.reef.table i o
  have any (o : Option Reefer) : names g o = true ↔ o.bind Reefer.gateway = some g := by
    cases o <;> simp [names]
  simp only [any] at put
  exact put

/-- R129: no entry holds a tag that is not found. -/
theorem tag_ne_of_findTag {s : State} {n : Nat} (h : s.findTag n = none) {i : ReeferIx} {r : Reefer}
    (hr : s.reefer i = some r) : r.tag ≠ n := by
  intro e
  unfold State.findTag at h
  split at h
  next j hj =>
    have hp := findIx_some hj
    have hj' : look s.reef.table j = none := by simpa [State.reefer] using h
    simp [hj'] at hp
  next hn =>
    have hp := findIx_none hn i
    have hr' : look s.reef.table i = some r := hr
    simp [hr', e] at hp

/-! ## The whole state -/

namespace ReefersOk
variable {s t : State}

theorem counts (hs : ReefersOk s) (g : SlotIx) (n : Nat) (h : gatewayCount s g = some n) : n = countNaming s g := by
  obtain ⟨t, st, ht, hp⟩ := gatewayCount_eq_some.mp h
  exact hs.counted g t st n ht hp

theorem namedCount (hs : ReefersOk s) {i : ReeferIx} {r : Reefer} {g : SlotIx} (hr : s.reefer i = some r)
    (hg : r.gateway = some g) : ∃ n, gatewayCount s g = some n := by
  obtain ⟨t, st, n, ht, hp⟩ := hs.named i r g hr hg
  exact ⟨n, gatewayCount_eq_some.mpr ⟨t, st, ht, hp⟩⟩

theorem of_counts (range : ∀ i r, s.reefer i = some r → 1 ≤ r.tag ∧ r.tag ≤ 1048575)
    (unique : ∀ i j r q, s.reefer i = some r → s.reefer j = some q → r.tag = q.tag → i = j)
    (named : ∀ i r g, s.reefer i = some r → r.gateway = some g → ∃ n, gatewayCount s g = some n)
    (counted : ∀ g n, gatewayCount s g = some n → n = countNaming s g)
    (alarm : ∀ i r, s.reefer i = some r → r.state = .alarm → r.setpoint.isSome = true)
    (silence : ∀ i r, s.reefer i = some r → r.silence.isSome = true → isHeard r.state = true) : ReefersOk s where
  range := range
  unique := unique
  named i r g hr hg := by
    obtain ⟨n, hn⟩ := named i r g hr hg
    obtain ⟨t, st, ht, hp⟩ := gatewayCount_eq_some.mp hn
    exact ⟨t, st, n, ht, hp⟩
  counted g t st n ht hp := counted g n (gatewayCount_eq_some.mpr ⟨t, st, ht, hp⟩)
  alarm := alarm
  silence := silence

theorem mono (hs : ReefersOk s) (hg : ∀ g, gatewayCount t g = gatewayCount s g) (hr : ReefersLike s t) :
    ReefersOk t := by
  refine of_counts (fun i q hq => ?_) (fun i j q p hq hp e => ?_) (fun i q g hq hgw => ?_) (fun g n hn => ?_)
    (fun i q hq => ?_) fun i q hq => ?_
  · obtain ⟨r, hr, like⟩ := hr.some hq
    exact like.tag ▸ hs.range i r hr
  · obtain ⟨r, hri, like⟩ := hr.some hq
    obtain ⟨w, hwj, like'⟩ := hr.some hp
    exact hs.unique i j r w hri hwj (by rw [← like.tag, ← like'.tag, e])
  · obtain ⟨r, hr, like⟩ := hr.some hq
    rw [hg]
    exact hs.namedCount hr (like.gateway ▸ hgw)
  · rw [hg] at hn
    rw [hs.counts g n hn, countNaming_congr fun i => by rw [hr.gateway]]
  · obtain ⟨r, hr, like⟩ := hr.some hq
    exact like.alarm (hs.alarm i r hr)
  · obtain ⟨r, hr, like⟩ := hr.some hq
    exact like.silence (hs.silence i r hr)

theorem learn (hs : ReefersOk s) {i : ReeferIx} {tag : Nat} (hi : s.reefer i = none) (ht : 1 ≤ tag ∧ tag ≤ 1048575)
    (hf : s.findTag tag = none) (c : BandIx) (n : Nat) : ReefersOk (s.setReefer i (some (newReefer tag c n))) := by
  have fresh (j : ReeferIx) (r : Reefer) (hr : s.reefer j = some r) : r.tag ≠ tag := tag_ne_of_findTag hf hr
  have get {j : ReeferIx} {q : Reefer} (hq : (s.setReefer i (some (newReefer tag c n))).reefer j = some q) :
      (j = i ∧ q = newReefer tag c n) ∨ s.reefer j = some q := by
    rw [State.reefer_setReefer] at hq
    split at hq
    next e => cases hq; exact .inl ⟨e, rfl⟩
    · exact .inr hq
  refine of_counts (fun j q hq => ?_) (fun j k q p hq hp e => ?_) (fun j q g hq hg => ?_) (fun g m hm => ?_)
    (fun j q hq => ?_) fun j q hq => ?_
  · rcases get hq with ⟨-, rfl⟩ | hq
    · exact ht
    · exact hs.range j q hq
  · rcases get hq with ⟨hj, rfl⟩ | hq <;> rcases get hp with ⟨hk, rfl⟩ | hp
    · exact hj.trans hk.symm
    · exact absurd e.symm (fresh k p hp)
    · exact absurd e (fresh j q hq)
    · exact hs.unique j k q p hq hp e
  · rcases get hq with ⟨-, rfl⟩ | hq
    · cases hg
    · exact hs.namedCount hq hg
  · have count := countNaming_setReefer s i (some (newReefer tag c n)) g
    rw [hi] at count
    have same : countNaming (s.setReefer i (some (newReefer tag c n))) g = countNaming s g := by
      simpa [newReefer] using count
    rw [same]
    exact hs.counts g m hm
  · rcases get hq with ⟨-, rfl⟩ | hq
    · intro e; cases e
    · exact hs.alarm j q hq
  · rcases get hq with ⟨-, rfl⟩ | hq
    · intro e; cases e
    · exact hs.silence j q hq

/-- R132: an entry placed under a gateway, with the counts of the old and the new one. -/
theorem place (hs : ReefersOk s) {i : ReeferIx} {r r' : Reefer} {g : SlotIx} (hr : s.reefer i = some r)
    (hg : ∃ t st n, s.term g = some t ∧ t.part = .gateway st n) (ht : r'.tag = r.tag) (hg' : r'.gateway = some g)
    (ha : (r.state = .alarm → r.setpoint.isSome = true) → r'.state = .alarm → r'.setpoint.isSome = true)
    (hsil : r'.silence.isSome = true → isHeard r'.state = true) :
    ReefersOk ((moveReefer r.gateway g s).setReefer i (some r')) := by
  have get {j : ReeferIx} {q : Reefer} (hq : ((moveReefer r.gateway g s).setReefer i (some r')).reefer j = some q) :
      (j = i ∧ q = r') ∨ s.reefer j = some q := by
    rw [State.reefer_setReefer, State.reefer_congr (congrArg Reefers.table (moveReefer_reef ..))] at hq
    split at hq
    next e => cases hq; exact .inl ⟨e, rfl⟩
    · exact .inr hq
  have moved (j : SlotIx) : gatewayCount ((moveReefer r.gateway g s).setReefer i (some r')) j =
      if r.gateway = some g then gatewayCount s j
      else if g = j then (gatewayCount s j).map (· + 1)
      else if r.gateway = some j then (gatewayCount s j).map (· - 1)
      else gatewayCount s j := by
    show (State.term (moveReefer r.gateway g s) j).bind _ = _
    rw [moveReefer_term]
    unfold gatewayCount
    cases s.term j with
    | none => simp
    | some x =>
      (repeat' split) <;> simp [reeferCount_bumped]
  have some_moved {j : SlotIx} (h : ∃ n, gatewayCount s j = some n) :
      ∃ n, gatewayCount ((moveReefer r.gateway g s).setReefer i (some r')) j = some n := by
    obtain ⟨n, hn⟩ := h
    rw [moved, hn]
    (repeat' split) <;> exact ⟨_, rfl⟩
  refine of_counts (fun j q hq => ?_) (fun j k q p hq hp e => ?_) (fun j q w hq hw => ?_) (fun w m hm => ?_)
    (fun j q hq => ?_) fun j q hq => ?_
  · rcases get hq with ⟨-, rfl⟩ | hq
    · rw [ht]; exact hs.range i r hr
    · exact hs.range j q hq
  · rcases get hq with ⟨hj, eq⟩ | hq' <;> rcases get hp with ⟨hk, ep⟩ | hp'
    · exact hj.trans hk.symm
    · exact hj.trans (hs.unique i k r p hr hp' (by rw [← ht, ← eq, e]))
    · exact (hs.unique j i q r hq' hr (by rw [← ht, ← ep, e])).trans hk.symm
    · exact hs.unique j k q p hq' hp' e
  · refine some_moved ?_
    rcases get hq with ⟨-, rfl⟩ | hq
    · rw [hg'] at hw
      cases hw
      obtain ⟨x, st, n, hx, hp⟩ := hg
      exact ⟨n, gatewayCount_eq_some.mpr ⟨x, st, hx, hp⟩⟩
    · exact hs.namedCount hq hw
  · have count := countNaming_setReefer (moveReefer r.gateway g s) i (some r') w
    rw [State.reefer_congr (congrArg Reefers.table (moveReefer_reef ..)), hr,
      countNaming_congr (s := s) (t := moveReefer r.gateway g s) fun j => by
        rw [State.reefer_congr (congrArg Reefers.table (moveReefer_reef ..))]] at count
    have count : countNaming ((moveReefer r.gateway g s).setReefer i (some r')) w + (if r.gateway = some w then 1 else 0) =
        countNaming s w + (if g = w then 1 else 0) := by simpa [hg'] using count
    rw [moved] at hm
    cases hc : gatewayCount s w with
    | none => rw [hc] at hm; (repeat' split at hm) <;> cases hm
    | some n =>
      have hn := hs.counts w n hc
      rw [hc] at hm
      by_cases e : r.gateway = some g
      · rw [if_pos e] at hm
        cases hm
        simpa [hn, e] using count.symm
      · rw [if_neg e] at hm
        by_cases h : g = w
        · subst h
          simp only [if_true, Option.map_some, Option.some.injEq] at hm
          simp only [e, if_true, if_false] at count
          omega
        · simp only [h, if_false] at hm count
          split at hm <;> simp only [Option.map_some, Option.some.injEq] at hm
          next hw => rw [if_pos hw] at count; omega
          next hw => rw [if_neg hw] at count; omega
  · rcases get hq with ⟨-, rfl⟩ | hq
    · exact ha (hs.alarm i r hr)
    · exact hs.alarm j q hq
  · rcases get hq with ⟨-, rfl⟩ | hq
    · exact hsil
    · exact hs.silence j q hq

theorem free (hs : ReefersOk s) {i : ReeferIx} {r : Reefer} (hr : s.reefer i = some r) :
    ReefersOk (freeReefer i r s) := by
  have get {j : ReeferIx} {q : Reefer} (hq : (freeReefer i r s).reefer j = some q) : s.reefer j = some q := by
    rw [freeReefer_reefer] at hq
    split at hq
    · cases hq
    · exact hq
  have moved (j : SlotIx) : gatewayCount (freeReefer i r s) j =
      if r.gateway = some j then (gatewayCount s j).map (· - 1) else gatewayCount s j := by
    rw [gatewayCount, freeReefer_term]
    unfold gatewayCount
    cases s.term j with
    | none => simp
    | some x => split <;> simp [reeferCount_bumped]
  refine of_counts (fun j q hq => hs.range j q (get hq)) (fun j k q p hq hp e => hs.unique j k q p (get hq) (get hp) e)
    (fun j q w hq hw => ?_) (fun w m hm => ?_) (fun j q hq => hs.alarm j q (get hq))
    fun j q hq => hs.silence j q (get hq)
  · obtain ⟨n, hn⟩ := hs.namedCount (get hq) hw
    rw [moved, hn]
    split <;> exact ⟨_, rfl⟩
  · have count := countNaming_setReefer s i none w
    rw [hr] at count
    have same : countNaming (freeReefer i r s) w = countNaming (s.setReefer i none) w :=
      countNaming_congr fun j => by rw [State.reefer_congr (s := s.setReefer i none) (freeReefer_table s i r)]
    rw [same]
    rw [moved] at hm
    cases hc : gatewayCount s w with
    | none => rw [hc] at hm; split at hm <;> cases hm
    | some n =>
      have hn := hs.counts w n hc
      rw [hc] at hm
      simp only [Option.bind_some, Option.bind_none, reduceCtorEq, if_false] at count
      split at hm <;> cases hm
      next e => simp only [e, if_true] at count; dsimp only; omega
      next e => simp only [e, if_false] at count; omega

/-- R9: the removal of a gateway clears the references to it. -/
theorem remove (hs : ReefersOk s) {i : SlotIx} {x : Term} (hx : s.term i = some x) : ReefersOk (removeTerm i x s) := by
  have count (g : SlotIx) : gatewayCount (removeTerm i x s) g = if g = i then none else gatewayCount s g := by
    rw [gatewayCount_congr (s := s.setTerm i none) (removeTerm_terms i x s), gatewayCount_setTerm]
    rfl
  have get {j : ReeferIx} {q : Reefer} (hq : (removeTerm i x s).reefer j = some q) : ∃ r, s.reefer j = some r ∧
      q = (if x.part.cls = .gateway then clearGateway i r else r) := by
    rw [removeTerm_reefer] at hq
    obtain ⟨r, hr, rfl⟩ := Option.map_eq_some_iff.mp hq
    exact ⟨r, hr, rfl⟩
  have same (r : Reefer) : (if x.part.cls = .gateway then clearGateway i r else r) =
      { r with gateway := if x.part.cls = .gateway ∧ r.gateway = some i then none else r.gateway } := by
    unfold clearGateway
    by_cases hc : x.part.cls = .gateway
    · by_cases hg : r.gateway = some i <;> simp [hc, hg]
    · simp [hc]
  have other {r : Reefer} {g : SlotIx} {j : ReeferIx} (hr : s.reefer j = some r) (hg : r.gateway = some g)
      (hi : ¬(x.part.cls = .gateway ∧ r.gateway = some i)) : g ≠ i := by
    rintro rfl
    obtain ⟨n, hn⟩ := hs.namedCount hr hg
    obtain ⟨y, st, hy, hp⟩ := gatewayCount_eq_some.mp hn
    rw [hx] at hy
    cases hy
    exact hi ⟨by rw [hp]; rfl, hg⟩
  refine of_counts (fun j q hq => ?_) (fun j k q p hq hp e => ?_) (fun j q w hq hw => ?_) (fun w m hm => ?_)
    (fun j q hq => ?_) fun j q hq => ?_
  · obtain ⟨r, hr, rfl⟩ := get hq
    rw [same]
    exact hs.range j r hr
  · obtain ⟨r, hr, rfl⟩ := get hq
    obtain ⟨r', hr', rfl⟩ := get hp
    rw [same, same] at e
    exact hs.unique j k r r' hr hr' e
  · obtain ⟨r, hr, rfl⟩ := get hq
    rw [same] at hw
    dsimp only at hw
    split at hw
    · cases hw
    next hi =>
      rw [count, if_neg (other hr hw hi)]
      exact hs.namedCount hr hw
  · rw [count] at hm
    split at hm
    · cases hm
    next hw =>
      rw [hs.counts w m hm]
      symm
      refine countNaming_congr fun j => ?_
      rw [removeTerm_reefer]
      cases hr : s.reefer j with
      | none => rfl
      | some r =>
        simp only [Option.map_some, Option.bind_some, same]
        split
        next e =>
          rw [e.2]
          simp [Ne.symm hw]
        · rfl
  · obtain ⟨r, hr, rfl⟩ := get hq
    rw [same]
    exact hs.alarm j r hr
  · obtain ⟨r, hr, rfl⟩ := get hq
    rw [same]
    exact hs.silence j r hr

theorem load (hs : ReefersOk s) {i : SlotIx} (hi : s.term i = none) (n : TermNo) (c : TermClass) :
    ReefersOk (s.setTerm i (some (newTerm n c))) := by
  have free : gatewayCount s i = none := by rw [gatewayCount, hi]; rfl
  have other {j : ReeferIx} {r : Reefer} {g : SlotIx} (hr : s.reefer j = some r) (hg : r.gateway = some g) : g ≠ i := by
    rintro rfl
    obtain ⟨m, hm⟩ := hs.namedCount hr hg
    rw [free] at hm
    cases hm
  refine of_counts hs.range hs.unique (fun j r g hr hg => ?_) (fun g m hm => ?_) hs.alarm hs.silence
  · rw [gatewayCount_setTerm, if_neg (other hr hg)]
    exact hs.namedCount hr hg
  · rw [gatewayCount_setTerm] at hm
    split at hm
    next e =>
      subst e
      have none : countNaming s g = 0 := by
        rw [countNaming_eq, List.countP_eq_zero]
        intro j _
        cases hr : s.reefer j with
        | none => simp
        | some r => simpa using fun e => other hr e rfl
      have zero : m = 0 := by cases c <;> simp [Term.reeferCount, newTerm, newPart] at hm; omega
      rw [zero]
      exact none.symm
    · exact hs.counts g m hm

theorem change (h : Change s t) (hs : ReefersOk s) : ReefersOk t := by
  cases h with
  | learn i tag c hi ht hf => exact hs.learn hi ht hf c _
  | place i r r' g hr hrun hg ht hg' hp ha hsil => exact hs.place hr hg ht hg' ha hsil
  | free i r hr => exact hs.free hr
  | remove i x hx => exact hs.remove hx
  | load i n c hi hb hl => exact hs.load hi n c
  | reefer i r q hr ht hg hp ha hsp hsil =>
    refine hs.mono (fun g => rfl) (.set hr ⟨ht, hg, fun h e => ?_, fun _ e => (hsil e).2⟩)
    rw [hsp]
    exact h (ha e)
  | join i r why hr =>
    refine hs.mono (gatewayCount_congr (by simp)) ?_
    cases hp : r.pending with
    | true => exact .of_eq fun j => by rw [joinList_reefer, if_neg (by simp [hp])]
    | false =>
      refine .of_map (f := fun j x => if j = i then { x with pending := true } else x) (fun j x => ?_) fun j => ?_
      · split
        · exact ⟨rfl, rfl, id, id⟩
        · exact .refl x
      · rw [joinList_reefer]
        by_cases e : j = i
        · subst e; simp [hp, hr]
        · simp [e]
  | grantExport hreq =>
    refine hs.mono (gatewayCount_congr (by simp)) (.of_map
      (f := fun j r => if ∃ p ∈ s.exp.list.take s.mgmt.params.batchLimit, p.index = j then r.exported s.uptime else r)
      (fun j r => ?_) fun j => ?_)
    · split
      · exact ⟨rfl, rfl, id, id⟩
      · exact .refl r
    · rw [grantExport_reefer]
      split <;> simp
  | term i x y hx hn hp hg hm =>
    exact hs.mono (gatewayCount_set hx (by rw [Term.reeferCount, hp]; rfl)) (.of_eq fun _ => rfl)
  | cranePart i x c c' hx hc hq =>
    exact hs.mono (gatewayCount_set hx (by simp [Term.reeferCount, hc])) (.of_eq fun _ => rfl)
  | gatewayState i x w w' n hx hw hq =>
    exact hs.mono (gatewayCount_set hx (by simp [Term.reeferCount, hw])) (.of_eq fun _ => rfl)
  | segment i b => exact hs.mono (gatewayCount_segment i b) (.of_table (by simp))
  | start hp =>
    refine hs.mono gatewayCount_start
      (.of_map (f := fun _ => reeferStarted (s.uptime + s.reeferTimeout)) (fun i r => ?_) (startPart_reefer s))
    unfold reeferStarted
    split
    next h => exact ⟨rfl, rfl, id, fun _ _ => h⟩
    · exact .refl r
  | stop hp =>
    exact hs.mono gatewayCount_stop (.of_map (f := fun _ r => { r with silence := none })
      (fun i r => ⟨rfl, rfl, id, fun _ e => by cases e⟩) (stopPart_reefer s))
  | soft =>
    refine hs.mono gatewayCount_soft (.of_map (f := fun _ => reeferSoftReset)
      (fun i r => ⟨rfl, rfl, fun _ e => ?_, fun _ e => by cases e⟩) (softResetPart_reefer s))
    revert e
    unfold reeferSoftReset stateSoftReset
    cases r.state <;> intro e <;> cases e
  | gone k next warm hn hl => exact hs.mono (gatewayCount_gone k next warm s) (.of_table (by simp))
  | apply k r p hp => exact hs.mono (gatewayCount_apply k r) (.of_table (by rw [(applyRecord_reef_exp s k r).1]))
  | clear g => exact hs.mono (gatewayCount_congr (by simp)) (.of_table (by simp))
  | reef f hf => exact hs.mono (gatewayCount_congr rfl) (.of_table hf)
  | _ =>
    refine hs.mono (gatewayCount_congr ?_) (.of_table ?_) <;>
      simp [Machine.grantCrane, Machine.grantNotice, Machine.grantReply, Machine.grantNormal, startLoopTest, setRun]

end ReefersOk

theorem reefersOk_kept : Kept ReefersOk where
  change _ _ h hs := hs.change h
  queue _ _ _ hs := hs.mono (fun _ => rfl) (.of_eq fun _ => rfl)
  time _ hs := hs.mono (fun _ => rfl) (.of_eq fun _ => rfl)
  asserted _ hs := hs.mono (fun _ => rfl) (.of_eq fun _ => rfl)
  released b s := by
    have empty (i : ReeferIx) (r : Reefer) : (released b s).reefer i ≠ some r := by
      simp [released, State.reset, State.reefer, Reefers.hardReset]
    exact
      { range := fun i r hr => absurd hr (empty i r), unique := fun i j r q hr => absurd hr (empty i r)
        named := fun i r g hr => absurd hr (empty i r)
        counted := fun g t st n ht => by simp [released_term] at ht
        alarm := fun i r hr => absurd hr (empty i r), silence := fun i r hr => absurd hr (empty i r) }

/-- Settles O56: an entry and the count of its gateway change together, and a removed gateway is named no more. -/
theorem stepsKeepTheReeferTable : Obligations.StepsKeepTheReeferTable := by
  unfold Obligations.StepsKeepTheReeferTable
  exact fun s t hs h => reefersOk_kept.step hs h

end Sys2Proof.Safety
end

section
/-! Accepted requests (10.1): what each does with the state in which it has been counted. The reset state, the lookups,
the Terminal Table's requests, the notice mask and the condition summary. -/

namespace Sys2Proof.Machine
open Sys2Proof Sys2Proof.Safety

/-! ## Accepted requests -/

/-- How an accepted request is answered. -/
def asker (h : Hdr) (code : Byte) : Asker := { own := decide (h.dest ≠ 255), code, tag := h.tag }

@[simp] theorem answer_asker (h : Hdr) (code : Byte) (st : Status) (d : ReplyData) (s : State) :
    answer (asker h code) st d s = told s h code st d :=
  answer_eq_told h code st d s

/-- An accepted request leaves what its body makes of the state in which it has been counted. -/
theorem exec_accepted {c : Instr} {s : State} {h : Hdr} {code : Byte} {body : Asker → State → State}
    (hc : act c = .request h code body) (ha : Accepted s h) : exec c s = .next (body (asker h code) (asked s h)) := by
  rw [exec_eq_run, hc]
  exact congrArg Host.Outcome.next (request_of_accepted ha code body)

/-! ## The reset state -/

section Reset

theorem reset_head (h : HeadIx) : State.reset.head h = Head.hardReset false := by simp [State.reset, State.head]

theorem reset_loop (h : HeadIx) : State.reset.loop h = LoopState.hardReset := by simp [State.reset, State.loop]

theorem reset_term (i : SlotIx) : State.reset.term i = none := by simp [State.reset, State.term]

theorem reset_reefer (i : ReeferIx) : State.reset.reefer i = none := by
  simp [State.reset, State.reefer, Reefers.hardReset]

theorem reset_cell (h : HeadIx) (g : SegIx) : State.reset.cell h g = Cell.cleared := by
  simp [State.reset, State.cell, Coverage.hardReset, clearedMap]

theorem reset_counters (g : Group) : ∀ c ∈ groupCounters g State.reset, c = 0 := by
  cases g with
  | head =>
    intro c hc
    obtain ⟨d, hd, hc⟩ := List.mem_flatMap.mp hc
    have : d = Head.hardReset false := by simpa [State.reset] using hd
    subst this
    simpa [HeadCounters.all, Head.hardReset, HeadCounters.zero] using hc
  | loop =>
    intro c hc
    obtain ⟨d, hd, hc⟩ := List.mem_flatMap.mp hc
    have : d = LoopState.hardReset := by simpa [State.reset] using hd
    subst this
    simpa [LoopCounters.all, LoopState.hardReset, LoopCounters.zero] using hc
  | classifier => exact fun c hc => by simpa [groupCounters, ClassifierCounters.all, State.reset, ClassifierCounters.zero] using hc
  | trunk =>
    exact fun c hc => by simpa [groupCounters, TrunkCounters.all, State.reset, Trunk.hardReset, TrunkCounters.zero] using hc
  | crane => exact fun c hc => by simpa [groupCounters, CraneCounters.all, State.reset, CraneCounters.zero] using hc
  | handover =>
    exact fun c hc => by simpa [groupCounters, HandoverCounters.all, State.reset, HandoverCounters.zero] using hc
  | coverage =>
    exact fun c hc => by
      simpa [groupCounters, CoverageCounters.all, State.reset, Coverage.hardReset, CoverageCounters.zero] using hc
  | reefer =>
    exact fun c hc => by
      simpa [groupCounters, ReeferCounters.all, State.reset, Reefers.hardReset, ReeferCounters.zero] using hc
  | exportGroup =>
    exact fun c hc => by
      simpa [groupCounters, ExportCounters.all, State.reset, ExportUnit.hardReset, ExportCounters.zero] using hc
  | management =>
    exact fun c hc => by simpa [groupCounters, MgmtCounters.all, State.reset, Mgmt.hardReset, MgmtCounters.zero] using hc

end Reset

/-- Settles O4: block by block, from the values of hard reset. -/
theorem resetGivesEveryBlockItsChapterValues : Obligations.ResetGivesEveryBlockItsChapterValues := by
  unfold Obligations.ResetGivesEveryBlockItsChapterValues
  refine ⟨rfl, rfl, rfl, rfl, rfl, fun h => ?_, reset_term, fun g => ?_, rfl, rfl, rfl, rfl, rfl, rfl, rfl, rfl,
    reset_reefer, rfl, rfl, fun b => ?_, rfl, rfl, rfl, reset_counters⟩
  · have line : State.reset.restartLine h = false := by
      rw [State.restartLine, reset_head]
      rfl
    rw [reset_head, reset_loop]
    exact ⟨rfl, rfl, rfl, rfl, rfl, rfl, rfl, rfl, rfl, line, rfl, rfl, rfl, rfl, rfl, rfl, rfl, reset_cell h⟩
  · simp [State.reset, Seg.hardReset]
  · simp [State.reset, Reefers.hardReset, Band.hardReset]

/-- Settles O60: the state after reset holds no frame, entry, reefer or item, and every record is at its default. -/
theorem resetMeetsEveryInvariant : Obligations.ResetMeetsEveryInvariant := by
  unfold Obligations.ResetMeetsEveryInvariant
  have released : released 0 State.reset = State.reset := by
    have heads : (tabulate fun h => Head.hardReset (State.reset.head h).ethUp) = State.reset.heads := by
      refine table_ext fun h => ?_
      rw [look_tabulate, reset_head]
      exact (reset_head h).symm
    unfold released
    rw [heads]
    rfl
  have all {P : State → Prop} (hP : Kept P) : P State.reset := released ▸ hP.released 0 State.reset
  exact ⟨all queuesOk_kept, all handoversOk_kept, all numbersOk_kept, all segmentsOk_kept, all reefersOk_kept,
    all pendingOk_kept, (all loopsOk_kept).2, all paramsOk_kept, all standbyOk_kept⟩

/-! ## The mask and the summary (10.6), CRANE_DORMANT (4.4) -/

theorem shiftRight_eq_zero_iff (m : BitVec 32) : m >>> 21 = 0 ↔ ¬2 ^ 21 ≤ m.toNat := by
  rw [← BitVec.toNat_inj, BitVec.toNat_ushiftRight, Nat.shiftRight_eq_div_pow]
  show m.toNat / 2 ^ 21 = 0 ↔ _
  omega

/-- Settles O10: a bit above bit 20 is what makes the set too large for 21 bits. -/
theorem maskIsReplacedAndSummaryIsEmptied : Obligations.MaskIsReplacedAndSummaryIsEmptied := by
  unfold Obligations.MaskIsReplacedAndSummaryIsEmptied
  refine ⟨fun s h p ha => ?_, fun s h ha => ?_⟩
  · rw [exec_accepted rfl ha]
    cases p with
    | none => simp [noticeMaskBody, settled]
    | some m =>
      dsimp only [noticeMaskBody]
      by_cases hm : 2 ^ 21 ≤ m.toNat
      · rw [if_pos hm, if_neg (fun e => (shiftRight_eq_zero_iff m).mp e hm), answer_asker]
        rfl
      · rw [if_neg hm, if_pos ((shiftRight_eq_zero_iff m).mpr hm), answer_asker]
        rfl
  · rw [exec_accepted rfl ha]
    simp only [answer_asker]
    rfl

/-- Settles O17: the checks in order, then one crane part. -/
theorem craneDormantSetsTheLinkState : Obligations.CraneDormantSetsTheLinkState := by
  unfold Obligations.CraneDormantSetsTheLinkState
  intro s h p ha
  rw [exec_accepted rfl ha]
  cases p with
  | none => simp [craneDormantBody, settled]
  | some q =>
    simp only [craneDormantBody, answer_asker, asked_term]
    cases hi : ix? 256 q.slot.toNat with
    | none => rfl
    | some i =>
      cases hq : q.setting with
      | none => rfl
      | some on =>
        cases he : s.term i with
        | none => simp only [he] <;> rfl
        | some e =>
          cases hp : e.part with
          | crane c => cases on <;> simp only [he, hp] <;> rfl
          | _ => simp only [he, hp] <;> rfl

/-! ## Lookups and the Terminal Table's requests (1.2) -/

/-- R1: with unique numbers a lookup finds the entry. -/
theorem lookup_of_unique {s : State} (hs : NumbersOk s) {i : SlotIx} {e : Term} (he : s.term i = some e) :
    s.lookup e.number = some (i, e) := by
  cases hl : s.lookup e.number with
  | none => exact absurd rfl (State.lookup_eq_none.mp hl i e he)
  | some p =>
    obtain ⟨j, x⟩ := p
    obtain ⟨hx, hn⟩ := State.lookup_eq_some hl
    have hj := hs.unique j i x e hx he hn
    subst hj
    rw [hx] at he
    cases he
    rfl

/-- Settles O15: a lookup finds a slot that holds the number, and the checks of a selector are those of R7. -/
theorem terminalsAreFoundBySlotOrNumber : Obligations.TerminalsAreFoundBySlotOrNumber := by
  unfold Obligations.TerminalsAreFoundBySlotOrNumber
  refine ⟨⟨fun s n i e h => State.lookup_eq_some h, fun s n => State.lookup_eq_none, fun s i e hs he =>
    lookup_of_unique hs he⟩, fun s p => ?_⟩
  cases p with
  | none => rfl
  | some q =>
    obtain ⟨sel, v⟩ := q
    cases sel with
    | none => rfl
    | some sel =>
      cases sel with
      | slot => rfl
      | number =>
        simp only [pickTerm]
        by_cases hb : v = 0 ∨ v = 65535
        · rw [if_pos (badNumber_iff.mpr hb), if_pos hb]
        · rw [if_neg (fun h => hb (badNumber_iff.mp h)), if_neg hb] <;> rfl

/-- A number is looked up exactly where an entry holds it. -/
theorem lookup_isSome_iff {s : State} {n : TermNo} :
    (s.lookup n).isSome = true ↔ ∃ j : SlotIx, (s.term j).any (fun e => decide (e.number = n)) = true := by
  constructor
  · intro h
    obtain ⟨⟨i, e⟩, hl⟩ := Option.isSome_iff_exists.mp h
    obtain ⟨he, hn⟩ := State.lookup_eq_some hl
    exact ⟨i, by simp [he, hn]⟩
  · rintro ⟨i, hi⟩
    obtain ⟨e, he, hn⟩ := (Option.any_eq_true ..).mp hi
    by_contra hl
    rw [Option.not_isSome_iff_eq_none] at hl
    exact State.lookup_eq_none.mp hl i e he (by simpa using hn)

/-- What a removal does to the segment counts (R15). -/
theorem look_removeTerm_segs (i : SlotIx) (e : Term) (s : State) (g : SegIx) : look (removeTerm i e s).segs g =
    match e.part with
    | .crane _ => if e.segment = some g then { look s.segs g with cranes := (look s.segs g).cranes - 1 } else look s.segs g
    | .gateway _ _ =>
      if e.segment = some g then { look s.segs g with gateways := (look s.segs g).gateways - 1 } else look s.segs g
    | _ => look s.segs g := by
  have segs : (removeTerm i e s).segs = (moveSeg e.part e.segment none s).segs := by
    unfold removeTerm clearReferences moveSeg
    split <;> split <;> rfl
  rw [segs]
  unfold moveSeg
  cases hs : e.segment with
  | none => cases e.part <;> simp
  | some k =>
    by_cases hk : k = g
    · subst hk
      cases e.part <;> simp [modSeg, bumpSeg]
    · have hk' : g ≠ k := Ne.symm hk
      cases e.part <;> simp [modSeg, hk, look_put, hk']

/-- A removal touches the Terminal Table, the Segment Table and the reefers' references. -/
theorem removeTerm_eq (i : SlotIx) (e : Term) (s : State) : removeTerm i e s =
    { s with terms := put s.terms i none, segs := (removeTerm i e s).segs
             reef := { s.reef with table := (removeTerm i e s).reef.table } } := by
  unfold removeTerm clearReferences moveSeg
  split <;> split <;> rfl

/-- Settles O16: the checks in order, then one slot and what counts it. -/
theorem termLoadAndRemoveChangeOneSlot : Obligations.TermLoadAndRemoveChangeOneSlot := by
  unfold Obligations.TermLoadAndRemoveChangeOneSlot
  refine ⟨fun s h p ha => ?_, fun s h p ha => ⟨fun st hp => ?_, fun i e hp => ?_⟩⟩
  · rw [exec_accepted rfl ha]
    cases p with
    | none => simp [termLoadBody, settled]
    | some q =>
      simp only [termLoadBody, answer_asker, asked_term]
      cases hc : q.cls with
      | none => rfl
      | some c =>
        cases hi : ix? 256 q.slot.toNat with
        | none => rfl
        | some i =>
          have held : ((asked s h).lookup q.number).isSome = true ↔
              ∃ j : SlotIx, (s.term j).any (fun e => decide (e.number = q.number)) = true :=
            lookup_isSome_iff
          simp only [held, badNumber_iff]
          (repeat' split) <;> rfl
  · have same : pickTerm p (asked s h) = .refused st := hp
    rw [exec_accepted rfl ha, termRemoveBody, same]
    simp only [answer_asker]
    rfl
  · have same : pickTerm p (asked s h) = .entry i e := hp
    refine ⟨removeTerm i e (asked s h), ?_, removeTerm_eq i e (asked s h), look_removeTerm_segs i e (asked s h), fun j => ?_⟩
    · rw [exec_accepted rfl ha, termRemoveBody, same]
      simp only [answer_asker]
      rfl
    · rw [removeTerm_reefer, asked_reefer]
      congr 1
      funext r
      cases e.part <;> simp [ClassPart.cls, clearGateway]

end Sys2Proof.Machine
end

section
/-! The requests that read, and the global parameters (10.5, 10.7, 1.2, 2.1, 6.7, 8.8). -/

namespace Sys2Proof.Machine
open Sys2Proof Sys2Proof.Safety

/-! ## Parameters (10.5) -/

theorem Params.get_set (p : Params) (i : ParamId) (x : Nat) (h : paramRange i = .yesNo → x = 1 ∨ x = 2) :
    (p.set i x).get i = x := by
  cases i with
  | penaltyEnable | autoLearn => rcases h rfl with rfl | rfl <;> rfl
  | _ => rfl

theorem Params.get_set_of_ne (p : Params) {i j : ParamId} (x : Nat) (h : j ≠ i) : (p.set i x).get j = p.get j := by
  cases i <;> cases j <;> first | rfl | exact absurd rfl h

/-- Settles O9: the table row by row, then the checks of SET_PARAM by the kind of range. -/
theorem parametersAreCheckedClampedAndRead : Obligations.ParametersAreCheckedClampedAndRead := by
  unfold Obligations.ParametersAreCheckedClampedAndRead
  refine ⟨⟨rfl, rfl, fun p => rfl⟩, fun s h p ha => ?_, Params.get_set, fun p i j x h => p.get_set_of_ne x h,
    fun s h p ha => ?_⟩
  · rw [exec_accepted rfl ha]
    cases p with
    | none => simp [setParamBody, settled]
    | some q =>
      simp only [setParamBody, answer_asker, paramValue]
      cases hi : q.id with
      | none => rfl
      | some i =>
        dsimp only
        generalize q.value.toInt = v
        cases hr : paramRange i with
        | range lo hi =>
          by_cases hlo : v < lo
          · have low : clampInt lo hi v = lo := if_pos hlo
            simp only [low, hlo, if_true, Int.toNat_natCast, Ne.symm (Int.ne_of_lt hlo), if_false] <;> rfl
          · by_cases hhi : (hi : Int) < v
            · have high : clampInt lo hi v = hi := (if_neg hlo).trans (if_pos hhi)
              simp only [high, hlo, hhi, if_true, Int.toNat_natCast, Int.ne_of_lt hhi, if_false] <;> rfl
            · have mid : clampInt lo hi v = v := (if_neg hlo).trans (if_neg hhi)
              have whole : (v.toNat : Int) = v := Int.toNat_of_nonneg (by omega)
              simp only [mid, hlo, hhi, whole, if_true, if_false] <;> rfl
        | yesNo =>
          by_cases hv : v = 1 ∨ v = 2
          · simp only [hv, if_true]
            rw [if_pos (Int.toNat_of_nonneg (by omega))]
            rfl
          · simp only [hv, if_false]
            rfl
        | divider =>
          by_cases hv : v = 1 ∨ v = 2 ∨ v = 4 ∨ v = 8
          · simp only [hv, if_true]
            rw [if_pos (Int.toNat_of_nonneg (by omega))]
            rfl
          · simp only [hv, if_false]
            rfl
  · rw [exec_accepted rfl ha]
    cases p with
    | none => simp [getParamBody, settled]
    | some q => cases q <;> simp only [getParamBody, answer_asker] <;> rfl

/-! ## Counters (10.7) -/

theorem toList_eq_map_look {α : Type} {n : Nat} (v : Vector α n) : v.toList = (List.finRange n).map (look v) := by
  apply List.ext_getElem <;> simp [look]

/-- The counters of the head group, head by head. -/
theorem groupCounters_head (s : State) :
    groupCounters .head s = (List.finRange 12).flatMap fun k => (s.head k).cnt.all := by
  rw [groupCounters, toList_eq_map_look, List.flatMap_map]
  rfl

theorem groupCounters_loop (s : State) :
    groupCounters .loop s = (List.finRange 12).flatMap fun k => (s.loop k).cnt.all := by
  rw [groupCounters, toList_eq_map_look, List.flatMap_map]
  rfl

theorem groupCounters_clearGroup_self (g : Group) (s : State) : ∀ c ∈ groupCounters g (clearGroup g s), c = 0 := by
  intro c hc
  cases g with
  | head =>
    rw [groupCounters_head] at hc
    obtain ⟨k, -, hc⟩ := List.mem_flatMap.mp hc
    simpa [clearGroup, State.head, HeadCounters.all, HeadCounters.zero] using hc
  | loop =>
    rw [groupCounters_loop] at hc
    obtain ⟨k, -, hc⟩ := List.mem_flatMap.mp hc
    simpa [clearGroup, State.loop, LoopCounters.all, LoopCounters.zero] using hc
  | classifier => simpa [groupCounters, clearGroup, ClassifierCounters.all, ClassifierCounters.zero] using hc
  | trunk => simpa [groupCounters, clearGroup, TrunkCounters.all, TrunkCounters.zero] using hc
  | crane => simpa [groupCounters, clearGroup, CraneCounters.all, CraneCounters.zero] using hc
  | handover => simpa [groupCounters, clearGroup, HandoverCounters.all, HandoverCounters.zero] using hc
  | coverage => simpa [groupCounters, clearGroup, CoverageCounters.all, CoverageCounters.zero] using hc
  | reefer => simpa [groupCounters, clearGroup, ReeferCounters.all, ReeferCounters.zero] using hc
  | exportGroup => simpa [groupCounters, clearGroup, ExportCounters.all, ExportCounters.zero] using hc
  | management => simpa [groupCounters, clearGroup, MgmtCounters.all, MgmtCounters.zero] using hc

theorem groupCounters_clearGroup_of_ne {g k : Group} (s : State) (h : k ≠ g) :
    groupCounters k (clearGroup g s) = groupCounters k s := by
  cases g <;> cases k <;> first | rfl | exact absurd rfl h

/-- Settles O11: the counters of a group are the fields of one block. -/
theorem countersAreReadAndCleared : Obligations.CountersAreReadAndCleared := by
  unfold Obligations.CountersAreReadAndCleared
  refine ⟨fun s h p ha => ?_, groupCounters_clearGroup_self, fun g k s h => groupCounters_clearGroup_of_ne s h,
    fun s => ⟨?_, rfl, rfl, rfl, rfl, rfl, ?_, rfl, rfl, rfl⟩,
    fun s => ⟨⟨rfl, fun k => ?_⟩, rfl, rfl, rfl, rfl, rfl, ⟨rfl, fun k => ?_⟩, rfl, rfl, rfl⟩⟩
  · rw [exec_accepted rfl ha]
    cases p with
    | none => simp [countersReadBody, settled]
    | some q =>
      obtain ⟨g, c⟩ := q
      simp only [countersReadBody, answer_asker]
      cases g <;> cases c <;> rfl
  · exact groupCounters_head s
  · exact groupCounters_loop s
  · obtain ⟨c, hc⟩ := clearGroup_head s .head k
    rw [hc]
  · obtain ⟨c, hc⟩ := clearGroup_loop s .loop k
    rw [hc]

/-! ## Reads -/

theorem segRange_mem (first last : Nat) (g : SegIx) : g ∈ segRange first last ↔ first ≤ g.val ∧ g.val ≤ last := by
  simp [segRange]

/-- The segments of a range come in order. -/
theorem segRange_pairwise (first last : Nat) : (segRange first last).Pairwise fun g k => g.val < k.val :=
  List.Pairwise.sublist List.filter_sublist (List.pairwise_lt_finRange 48)

theorem waitingFrames_eq (n : TermNo) (s : State) :
    waitingFrames n s = ((List.finRange 12).map fun k => (s.head k).waiting n).sum := by
  rw [waitingFrames, toList_eq_map_look, List.map_map]
  rfl

/-- Whether a range ends within the table, as its status says. -/
theorem clamped_status (n : Nat) :
    (if 47 < n then Status.clamped else Status.done) = if n ≤ 47 then .done else .clamped := by
  by_cases h : 47 < n
  · rw [if_pos h, if_neg (by omega)]
  · rw [if_neg h, if_pos (by omega)]

/-- Settles O18: each read's checks, then its data; the sums and the range are those of their definitions. -/
theorem readsAnswerAndChangeNothing : Obligations.ReadsAnswerAndChangeNothing := by
  unfold Obligations.ReadsAnswerAndChangeNothing
  refine ⟨fun s h ha => ⟨fun p => ?_, fun p => ?_, fun p => ?_, fun p => ?_, fun p => ?_⟩, fun n s => ?_, fun first last =>
    ⟨segRange_mem first last, segRange_pairwise first last⟩⟩
  · rw [exec_accepted rfl ha]
    have same : pickTerm p (asked s h) = pickTerm p s := rfl
    simp only [termReadBody, answer_asker, same]
    cases pickTerm p s with
    | refused st => rfl
    | entry i e =>
      dsimp only [partLeft]
      cases e.part with
      | crane c => cases hl : c.link <;> simp only [hl] <;> rfl
      | gateway g n => cases g <;> rfl
      | _ => rfl
  · rw [exec_accepted rfl ha]
    cases p with
    | none => simp [headReadBody, settled]
    | some b =>
      simp only [headReadBody, answer_asker]
      cases ix? 12 b.toNat with
      | none => rfl
      | some k =>
        dsimp only [headView, restartView]
        cases hl : (s.head k).link with
        | restarting r =>
          have hl' : ((asked s h).head k).link = .restarting r := hl
          cases hp : r.pulseEnd <;> simp only [hl', hp] <;> rfl
        | _ =>
          have hl' := (asked_head s h k).symm ▸ hl
          simp only [hl'] <;> rfl
  · rw [exec_accepted rfl ha]
    cases p with
    | none => simp [cellReadBody, settled]
    | some q =>
      simp only [cellReadBody, answer_asker, clamped_status]
      cases ix? 12 q.head.toNat with
      | none => rfl
      | some k =>
        dsimp only
        split <;> rfl
  · rw [exec_accepted rfl ha]
    cases p with
    | none => simp [segReadBody, settled]
    | some q =>
      simp only [segReadBody, answer_asker, clamped_status]
      split <;> rfl
  · rw [exec_accepted rfl ha]
    have same : pickReefer p (asked s h) = pickReefer p s := rfl
    simp only [reeferReadBody, answer_asker, same]
    cases pickReefer p s with
    | refused st => rfl
    | entry i r =>
      have no : (asked s h).gatewayNo r.gateway = r.gateway.bind fun g => (s.term g).map Term.number := by
        unfold State.gatewayNo
        cases r.gateway <;> rfl
      dsimp only
      rw [no]
      rfl
  · rw [waitingFrames_eq]
    have named (c : CtlFrame) : decide (c.terminal = some n) = (match c with
        | .order m _ => decide (m = n)
        | .linkLost m => decide (m = n)
        | .setpoint _ => false
        | .loopTest _ => false) := by
      cases c <;> simp [CtlFrame.terminal]
    refine congrArg List.sum (List.map_congr_left fun k _ => ?_)
    unfold Head.waiting
    rw [funext named] <;> rfl

end Sys2Proof.Machine
end

section
/-! Requests that are not taken or are refused (10.1, 10.2), and the part's own time (00_scope 5.5). -/

namespace Sys2Proof.Machine
open Sys2Proof Sys2Proof.Safety

/-! ## Every request has a body -/

/-- A well-formed command that arrives as a request is one. -/
theorem act_of_isRequest {c : Instr} {h : Hdr} {code : Byte} (hc : IsRequest c h code) (hw : WellFormed c = true) :
    ∃ body, act c = .request h code body := by
  obtain ⟨ps, hp⟩ := hc
  cases c with
  | badRequest h' code' =>
    have bad : code'.toNat = 0 ∨ 25 < code'.toNat := by simpa [WellFormed] using hw
    cases hp
    exact ⟨_, if_pos bad⟩
  | _ => first | (cases hp; exact ⟨_, rfl⟩) | cases hp

/-- Settles O6: the checks of a request come before its body. -/
theorem requestsNotTakenAreCountedAlone : Obligations.RequestsNotTakenAreCountedAlone := by
  unfold Obligations.RequestsNotTakenAreCountedAlone
  refine ⟨⟨fun c h code s hc hw hr hb hd => ?_, fun dest s hr hb hd => ?_⟩, fun c h code s hc hw hr hd hq => ?_⟩
  · obtain ⟨body, hact⟩ := act_of_isRequest hc hw
    rw [exec_eq_run, hact, Act.run, request, if_neg (by simp [hr]), if_neg hb, if_neg hd]
    rfl
  · rw [exec_eq_run, act, Act.run, outsideReset_of_running hr, otherNodeFrame, if_neg (fun e => e.elim hb hd)]
    rfl
  · obtain ⟨body, hact⟩ := act_of_isRequest hc hw
    have hb : h.dest ≠ 255 := by
      rw [hd]
      intro e
      have := congrArg BitVec.toNat e
      simp only [BitVec.toNat_setWidth] at this
      have lt := s.node.isLt
      have big : (255 : Byte).toNat = 255 := rfl
      omega
    rw [exec_eq_run, hact, Act.run, request, if_neg (by simp [hr]), if_neg hb, if_pos hd, if_pos hq]
    rfl

/-! ## Refusals -/

/-- The only reply appended is one of a request that was executed. -/
structure Executed (s t : State) : Prop where
  status : ∀ r, t.trunk.replyQ = s.trunk.replyQ ++ [r] → r.status = .done ∨ r.status = .clamped

/-- A body refuses the request and does nothing else, or executes it. -/
def Decides (a : Asker) (s t : State) : Prop := (∃ st, t = answer a st .empty s) ∨ Executed s t

namespace Executed
variable {s t : State}

theorem of_append {l : List Reply} (h : t.trunk.replyQ = s.trunk.replyQ ++ l)
    (hl : ∀ r ∈ l, r.status = .done ∨ r.status = .clamped) : Executed s t :=
  ⟨fun r hr => hl r (by rw [h, List.append_cancel_left_eq] at hr; simp [hr])⟩

theorem of_same (h : t.trunk.replyQ = s.trunk.replyQ) : Executed s t :=
  of_append (l := []) (by simpa using h) (by simp)

theorem answered (a : Asker) {st : Status} (d : ReplyData) {u : State} (hu : u.trunk.replyQ = s.trunk.replyQ)
    (hs : st = .done ∨ st = .clamped) : Executed s (answer a st d u) := by
  unfold answer
  split
  · exact of_append (by rw [State.modTrunk_trunk, hu]) (by simpa using hs)
  · exact of_same hu

end Executed

theorem Decides.refused (a : Asker) (st : Status) (s : State) : Decides a s (answer a st .empty s) := .inl ⟨st, rfl⟩

/-! ### What the operations of a request leave of the reply queue -/

section Replies
variable (s : State)

@[simp] theorem raise_replyQ (k : NoticeKind) (u : Nat) (d : BitVec 16) :
    (raise k u d s).trunk.replyQ = s.trunk.replyQ := by
  unfold raise offerNotice
  dsimp only
  (repeat' split) <;> rfl

@[simp] theorem judgeRequest_replyQ : (judgeRequest s).trunk.replyQ = s.trunk.replyQ := by rw [judgeRequest_eq]

@[simp] theorem freeReefer_replyQ (i : ReeferIx) (r : Reefer) : (freeReefer i r s).trunk.replyQ = s.trunk.replyQ := by
  unfold freeReefer
  dsimp only
  split
  · rw [removePending_eq, judgeRequest_replyQ]
    split <;> simp [State.takenOut]
  · simp

theorem endLoopTest_replyQ (h : HeadIx) (x : LoopResult) : ∃ l, (endLoopTest h x s).trunk.replyQ = s.trunk.replyQ ++ l ∧
    ∀ r ∈ l, r.status = .done := by
  unfold endLoopTest
  split
  · exact ⟨[], by simp, by simp⟩
  · unfold offerLoopReply
    split
    · split
      · exact ⟨[_], rfl, fun r hr => by rw [List.mem_singleton.mp hr]⟩
      · exact ⟨[], by simp, by simp⟩
    · exact ⟨[], by simp, by simp⟩

@[simp] theorem departure_replyQ (d : HeadIx) (warm : Bool) : (departure d warm s).trunk.replyQ = s.trunk.replyQ := by
  unfold departure
  refine foldl_keeps (fun s => s.trunk.replyQ) (departEntry d warm) (fun s i => ?_) _ s
  unfold departEntry forceBicast loseCandidate orphanEntry
  (repeat' split) <;> simp

theorem headGone_replyQ (h : HeadIx) (next : HeadLink) (warm : Bool) :
    ∃ l, (headGone h next warm s).trunk.replyQ = s.trunk.replyQ ++ l ∧ ∀ r ∈ l, r.status = .done := by
  have hd : (departure h warm (s.modHead h fun d => { d with link := next })).trunk.replyQ = s.trunk.replyQ := by simp
  unfold headGone
  dsimp only
  rw [State.modHead_trunk]
  generalize departure h warm (s.modHead h fun d => { d with link := next }) = u at *
  rw [← hd]
  split
  · exact endLoopTest_replyQ u h _
  · obtain ⟨l, hl, done⟩ := endLoopTest_replyQ (flush h u) h .headLost
    exact ⟨l, by rw [hl, flush_trunk], done⟩

theorem applyRecord_replyQ (h : HeadIx) (r : HeadRecord) :
    ∃ l, (applyRecord h r s).trunk.replyQ = s.trunk.replyQ ++ l ∧ ∀ r ∈ l, r.status = .done := by
  have new : (recorded h r s).trunk.replyQ = s.trunk.replyQ := by simp
  have same {q : List Reply} (e : q = s.trunk.replyQ) : ∃ l, q = s.trunk.replyQ ++ l ∧ ∀ r ∈ l, r.status = .done :=
    ⟨[], by simp [e], by simp⟩
  rcases Bool.eq_false_or_eq_true r.enabled with he | he <;> by_cases hl : (s.head h).link = .disabled
  · rw [applyRecord_of_enabled s h hl he]
    exact same (by simp [loopEnabled])
  · rw [applyRecord_of_stays s h hl he]
    refine same ?_
    unfold loadSetpoint
    dsimp only
    (repeat' split) <;> simp [clampOffset]
  · rw [applyRecord_of_idle s h hl he]
    exact same (by simp [clampOffset])
  · rw [applyRecord_of_gone s h hl he, clampOffset, State.modLoop_trunk]
    obtain ⟨l, hl, done⟩ := headGone_replyQ (recorded h r s) h .disabled false
    exact ⟨l, by rw [hl, new], done⟩

end Replies

theorem answer_replyQ (a : Asker) (st : Status) (d : ReplyData) (s : State) :
    ∃ l, (answer a st d s).trunk.replyQ = s.trunk.replyQ ++ l ∧ ∀ r ∈ l, r.status = st := by
  unfold answer
  split
  · exact ⟨[_], rfl, fun r hr => by rw [List.mem_singleton.mp hr]⟩
  · exact ⟨[], by simp, by simp⟩

/-- Every request is refused without effect, or executed. -/
theorem act_decides {c : Instr} {h : Hdr} {code : Byte} {body : Asker → State → State}
    (hc : act c = .request h code body) (a : Asker) (s : State) : Decides a s (body a s) := by
  have done {d : ReplyData} {u : State} (hu : u.trunk.replyQ = s.trunk.replyQ) : Decides a s (answer a .done d u) :=
    .inr (.answered a d hu (.inl rfl))
  have followed {st : Status} {f : State → State} (hs : st = .done ∨ st = .clamped)
      (hf : ∀ u : State, ∃ l, (f u).trunk.replyQ = u.trunk.replyQ ++ l ∧ ∀ r ∈ l, r.status = .done) :
      Executed s (f (answer a st .empty s)) := by
    obtain ⟨l, hl, own⟩ := answer_replyQ a st .empty s
    obtain ⟨m, hm, later⟩ := hf (answer a st .empty s)
    refine .of_append (l := l ++ m) (by rw [hm, hl, List.append_assoc]) fun r hr => ?_
    rcases List.mem_append.mp hr with hr | hr
    · rwa [own r hr]
    · exact .inl (later r hr)
  cases c with
  | ident h' => cases hc; exact done rfl
  | start h' =>
    cases hc
    refine done ?_
    split
    · rfl
    · simp [startPart]
  | stop h' =>
    cases hc
    refine done ?_
    split
    · simp [trunkStopped]
    · rfl
  | softReset h' =>
    cases hc
    refine .inr ⟨fun r hr => ?_⟩
    have empty : (softResetPart s).trunk.replyQ = [] := by simp
    obtain ⟨l, hl, executed⟩ := answer_replyQ a .done .empty (softResetPart s)
    rw [hl, empty, List.nil_append] at hr
    exact .inl (executed r (by rw [hr]; simp))
  | setParam h' p =>
    cases hc
    unfold setParamBody
    (repeat' split) <;> first | exact .refused .. | exact done rfl | exact .inr (.answered a _ rfl (.inr rfl))
  | getParam h' p =>
    cases hc
    unfold getParamBody
    split
    · exact done rfl
    all_goals exact .refused ..
  | termLoad h' p =>
    cases hc
    unfold termLoadBody
    (repeat' split) <;> first | exact .refused .. | exact done rfl
  | termRemove h' p =>
    cases hc
    unfold termRemoveBody
    split
    · exact .refused ..
    · exact done (by simp)
  | termRead h' p =>
    cases hc
    unfold termReadBody
    split
    · exact .refused ..
    · exact done rfl
  | craneDormant h' p =>
    cases hc
    unfold craneDormantBody
    (repeat' split) <;> first | exact .refused .. | exact done rfl
  | headLoad h' p =>
    cases hc
    unfold headLoadBody
    split
    · exact .refused ..
    · split
      · exact .refused ..
      next k r hk =>
        refine .inr (followed ?_ fun u => applyRecord_replyQ u k r)
        split <;> simp
  | headRead h' p =>
    cases hc
    unfold headReadBody
    (repeat' split) <;> first | exact .refused .. | exact done rfl
  | headRestart h' p =>
    cases hc
    unfold headRestartBody
    (repeat' split) <;> first | exact .refused .. | exact .inr (followed (.inl rfl) fun u => headGone_replyQ u _ _ _)
  | headLooptest h' p =>
    cases hc
    unfold headLooptestBody
    (repeat' split) <;> first | exact .refused .. | exact .inr (.of_same rfl)
  | guardRelease h' p =>
    cases hc
    unfold guardReleaseBody
    (repeat' split) <;> first | exact .refused .. | exact done (by simp [leaveGuarded])
  | cellRead h' p =>
    cases hc
    unfold cellReadBody
    dsimp only
    (repeat' split) <;> first | exact .refused .. | exact done rfl | exact .inr (.answered a _ rfl (.inr rfl))
  | segRead h' p =>
    cases hc
    unfold segReadBody
    dsimp only
    (repeat' split) <;> first | exact .refused .. | exact done rfl | exact .inr (.answered a _ rfl (.inr rfl))
  | reeferRegister h' p =>
    cases hc
    unfold reeferRegisterBody
    (repeat' split) <;> first | exact .refused .. | exact done rfl
  | reeferRemove h' p =>
    cases hc
    unfold reeferRemoveBody
    split
    · exact .refused ..
    · exact done (by simp)
  | reeferRead h' p =>
    cases hc
    unfold reeferReadBody
    split
    · exact .refused ..
    · exact done rfl
  | reeferPurge h' p =>
    cases hc
    unfold reeferPurgeBody
    (repeat' split) <;> first | exact .refused .. | exact .inr (.of_same rfl)
  | bandLoad h' p =>
    cases hc
    unfold bandLoadBody
    (repeat' split) <;> first | exact .refused .. | exact done rfl | exact .inr (.answered a _ rfl (.inr rfl))
  | countersRead h' p =>
    cases hc
    unfold countersReadBody
    split
    · exact .refused ..
    · split
      next g c _ _ =>
        refine done ?_
        split
        · obtain ⟨n, hn⟩ := clearGroup_trunk s g
          rw [hn]
        · rfl
      · exact .refused ..
  | noticeMask h' p =>
    cases hc
    unfold noticeMaskBody
    (repeat' split) <;> first | exact .refused .. | exact done rfl
  | noticeSummary h' => cases hc; exact done rfl
  | badRequest h' code' =>
    change badRequestAct h' code' = _ at hc
    unfold badRequestAct at hc
    split at hc
    · cases hc; exact .refused ..
    · cases hc
  | _ => cases hc

/-- Settles O7: a request that is refused answers and does no more, so its reply is the one told. -/
theorem refusedRequestsChangeNothing : Obligations.RefusedRequestsChangeNothing := by
  unfold Obligations.RefusedRequestsChangeNothing
  refine ⟨fun c h code s t r hc hw ho ht hr hd hk => ?_, fun s h code ha hw => ?_⟩
  · obtain ⟨body, hact⟩ := act_of_isRequest hc hw
    obtain ⟨hres, hdest, hq⟩ := ho
    rw [exec_accepted hact ⟨hres, .inr ⟨hdest, hq⟩⟩] at ht
    cases ht
    rcases act_decides hact (asker h code) (asked s h) with ⟨st, e⟩ | executed
    · rw [e, answer_asker] at hr ⊢
      have hb : h.dest ≠ 255 := by
        intro hb
        simp [told, hb] at hr
      have hst : st = r.status := by
        rw [told, if_neg hb] at hr
        have := List.append_cancel_left hr
        cases this
        rfl
      rw [hst]
      rfl
    · exact ((executed.status r hr).elim hd hk).elim
  · have bad : code.toNat = 0 ∨ 25 < code.toNat := by simpa [WellFormed] using hw
    have hact : act (.badRequest h code) = .request h code fun a s => answer a .badRequest .empty s := if_pos bad
    rw [exec_accepted hact ha]
    exact congrArg Host.Outcome.next (answer_asker ..)

/-! ## The part's own time -/

theorem mem_eventIf {b : Bool} {c d : Instr} : c ∈ eventIf b d ↔ b = true ∧ c = d := by
  unfold eventIf
  split
  next h => simp [h]
  next h => simp [h]

section Due
variable {s : State} {c : Instr}

theorem mem_headEvents {h : HeadIx} : c ∈ headEvents s h ↔
    (∃ d, (s.head h).link = .up d ∧ d ≤ s.uptime ∧ c = .headSilenceExpiry h) ∨
    (∃ r, (s.head h).link = .restarting r ∧ ((∃ d, r.pulseEnd = some d ∧ d ≤ s.uptime) ∧ c = .pulseEnd h ∨
      (∃ d, r.blankEnd = some d ∧ d ≤ s.uptime) ∧ c = .blankingEnd h ∨
      r.deadline ≤ s.uptime ∧ c = .restartDeadlineExpiry h)) ∨
    ∃ t, (s.head h).loopTest = some t ∧ t.deadline ≤ s.uptime ∧ c = .loopTestDeadlineExpiry h := by
  unfold headEvents
  dsimp only
  rw [List.mem_append, or_assoc.symm]
  refine or_congr ?_ ?_
  · cases (s.head h).link <;> simp [mem_eventIf, due_iff]
  · cases (s.head h).loopTest <;> simp [mem_eventIf]

theorem mem_termEvents {i : SlotIx} : c ∈ termEvents s i ↔ ∃ t, s.term i = some t ∧
    ((∃ v k d, t.ho = .bicast v k d ∧ d ≤ s.uptime ∧ c = .bicastDeadlineExpiry i) ∨
    (∃ p d, t.part = .crane p ∧ p.link = .live d ∧ d ≤ s.uptime ∧ c = .craneWatchdogExpiry i) ∨
    ∃ b d n, t.part = .gateway (.reporting b (some d)) n ∧ d ≤ s.uptime ∧ c = .gatewaySilenceExpiry i) := by
  unfold termEvents
  cases s.term i with
  | none => simp
  | some t =>
    simp only [Option.some.injEq, exists_eq_left', List.mem_append]
    refine or_congr ?_ ?_
    · cases t.ho <;> simp [mem_eventIf, due_iff, Handover.deadline]
    · cases t.part with
      | crane p => cases hl : p.link <;> simp [mem_eventIf, hl]
      | gateway g n =>
        cases g with
        | reporting b d => cases d <;> simp [mem_eventIf, due_iff]
        | _ => simp
      | vehicle => simp
      | other => simp

theorem mem_reeferEvents {i : ReeferIx} : c ∈ reeferEvents s i ↔ ∃ r, s.reefer i = some r ∧ isHeard r.state = true ∧
    (∃ d, r.silence = some d ∧ d ≤ s.uptime) ∧ c = .reeferSilenceExpiry i := by
  unfold reeferEvents
  cases s.reefer i with
  | none => simp
  | some r =>
    simp only [Option.some.injEq, exists_eq_left']
    cases r.state <;> simp [mem_eventIf, due_iff, isHeard]

theorem mem_dueEvents : c ∈ dueEvents s ↔
    (∃ h, c ∈ headEvents s h) ∨ (∃ i, c ∈ termEvents s i) ∨ (∃ i, c ∈ reeferEvents s i) ∨
    ((∃ d, s.cov.deadline = some d ∧ d ≤ s.uptime) ∧ c = .coveragePeriodExpiry) ∨
    ((∃ d, s.exp.deadline = some d ∧ d ≤ s.uptime) ∧ s.exp.expired = false ∧ c = .flushDeadlineExpiry) ∨
    (s.reef.purge.isSome = true ∧ c = .purgeWalkVisit) := by
  simp only [dueEvents, List.mem_append, List.mem_flatMap, List.mem_finRange, true_and, mem_eventIf, due_iff,
    Bool.and_eq_true, Bool.not_eq_true', Option.mem_def, or_assoc, and_assoc]

end Due

/-- Settles O3: the due events are listed block by block, and an idle step takes one of them. -/
theorem idlePartLetsDueDeadlinesExpire : Obligations.IdlePartLetsDueDeadlinesExpire := by
  unfold Obligations.IdlePartLetsDueDeadlinesExpire
  refine ⟨fun s hp => ⟨fun hr => ?_, fun hr hd => ?_, fun hr hd => ?_⟩, fun s => ?_⟩
  · rw [step, hp]
    simp [idle, hr]
  · simp [step, idle, hp, hr, hd]
  · obtain ⟨e, es, he⟩ := List.exists_cons_of_ne_nil hd
    rw [step, hp]
    have lt : Config.pick s.choice % (es.length + 1) < (e :: es).length := Nat.mod_lt _ (Nat.succ_pos _)
    refine ⟨(e :: es)[Config.pick s.choice % (es.length + 1)], by rw [he]; exact List.getElem_mem lt, ?_⟩
    simp only [idle, hr, he, Bool.false_eq_true, if_false]
    rw [List.getElem?_eq_getElem lt]
    rfl
  · simp only [mem_dueEvents, mem_headEvents, mem_termEvents, mem_reeferEvents]
    refine ⟨fun h => by simp, fun h => by simp, fun h => by simp, fun h => by simp, fun h => by simp, fun i => by simp,
      fun i => by simp, fun i => by simp, fun i => by simp, by simp, by simp [and_comm], by simp, fun c hc => ?_⟩
    rcases hc with ⟨h, hc⟩ | ⟨i, hc⟩ | ⟨i, r, -, -, -, rfl⟩ | ⟨-, rfl⟩ | ⟨-, -, rfl⟩ | ⟨-, rfl⟩
    · refine .inl ⟨h, ?_⟩
      rcases hc with ⟨d, -, -, rfl⟩ | ⟨r, -, ⟨-, rfl⟩ | ⟨-, rfl⟩ | ⟨-, rfl⟩⟩ | ⟨t, -, -, rfl⟩ <;> simp
    · refine .inr (.inl ⟨i, ?_⟩)
      rcases hc with ⟨t, -, ⟨v, k, d, -, -, rfl⟩ | ⟨p, d, -, -, -, rfl⟩ | ⟨b, d, n, -, -, rfl⟩⟩ <;> simp
    · exact .inr (.inr (.inl ⟨i, rfl⟩))
    · exact .inr (.inr (.inr (.inl rfl)))
    · exact .inr (.inr (.inr (.inr (.inl rfl))))
    · exact .inr (.inr (.inr (.inr (.inr rfl))))

end Sys2Proof.Machine
end

section
/-! The duplicate window (4.2): its history, and that no number within it passes twice. -/

namespace Sys2Proof.Machine
open Sys2Proof Sys2Proof.Safety

/-! ## The history -/

theorem getLsbD_one_shiftLeft {n k : Nat} (hk : k < 32) : (1#32 <<< n).getLsbD k = decide (k = n) := by
  rw [BitVec.getLsbD_shiftLeft]
  by_cases h : k = n
  · subst h; simp [hk]
  · by_cases hlt : k < n
    · simp [hlt, h]
    · have : k - n ≠ 0 := by omega
      simp [hk, h, this, BitVec.getLsbD_one]

/-- R65: the flags after a frame ahead by d. -/
theorem shiftHistory_getLsbD (d k : Nat) (old : BitVec 32) (hd : 1 ≤ d) (hk : 1 ≤ k) (hk' : k ≤ 32) :
    (shiftHistory d old).getLsbD (k - 1) = if d < k then old.getLsbD (k - d - 1) else decide (k = d) := by
  unfold shiftHistory
  split
  next hd' =>
    rw [BitVec.getLsbD_or, getLsbD_one_shiftLeft (by omega), BitVec.getLsbD_shiftLeft]
    split
    next h =>
      have e : k - 1 - d = k - d - 1 := by omega
      have lt : k - 1 < 32 := by omega
      have ge : ¬k - 1 < d := by omega
      have ne : k - 1 ≠ d - 1 := by omega
      simp [lt, ge, ne, e]
    next h =>
      have le : k - 1 < d := by omega
      have iff : k - 1 = d - 1 ↔ k = d := by omega
      simp [le, iff]
  next hd' =>
    rw [if_neg (by omega)]
    have ne : k ≠ d := by omega
    simp [ne]

/-- A frame accepted behind marks its own flag alone. -/
theorem marked_getLsbD (b k : Nat) (old : BitVec 32) (hb : 1 ≤ b) (hk : 1 ≤ k) (hk' : k ≤ 32) :
    (old ||| (1#32 <<< (b - 1))).getLsbD (k - 1) = (old.getLsbD (k - 1) || decide (k = b)) := by
  rw [BitVec.getLsbD_or, getLsbD_one_shiftLeft (by omega)]
  have iff : k - 1 = b - 1 ↔ k = b := by omega
  simp [iff]

/-- Settles O30: the distance is the difference modulo 2^16, and each flag moves with it. -/
theorem duplicateWindowFollowsTheTable : Obligations.DuplicateWindowFollowsTheTable := by
  unfold Obligations.DuplicateWindowFollowsTheTable
  refine ⟨fun c q => ?_, shiftHistory_getLsbD, fun b k old hb _ hk hk' => marked_getLsbD b k old hb hk hk'⟩
  have d : (q - c.highest).toNat = (q.toNat + 65536 - c.highest.toNat) % 65536 := by
    rw [BitVec.toNat_sub]
    have lt := c.highest.isLt
    congr 1
    omega
  unfold windowStep
  simp only [d]

/-! ## A number seen -/

/-- The window has seen q and would discard it: it is the highest, or its flag is set. -/
structure Seen (c : CranePart) (q : BitVec 16) : Prop where
  valid : c.valid = true
  flag : c.highest = q ∨ 1 ≤ (c.highest - q).toNat ∧ (c.highest - q).toNat ≤ 32 ∧
    c.history.getLsbD ((c.highest - q).toNat - 1) = true

theorem toNat_sub_comm {a b : BitVec 16} (h : a ≠ b) : (a - b).toNat + (b - a).toNat = 65536 := by
  have ne : a.toNat ≠ b.toNat := fun e => h (BitVec.eq_of_toNat_eq e)
  rw [BitVec.toNat_sub, BitVec.toNat_sub]
  have la := a.isLt
  have lb := b.isLt
  omega

theorem eq_of_toNat_sub {a b : BitVec 16} (h : (a - b).toNat = 0) : a = b := by
  apply BitVec.eq_of_toNat_eq
  rw [BitVec.toNat_sub] at h
  have la := a.isLt
  have lb := b.isLt
  omega

/-- A number seen is a duplicate. -/
theorem Seen.duplicate {c : CranePart} {q : BitVec 16} (h : Seen c q) : (windowStep c q).1 = .duplicate := by
  unfold windowStep
  rw [if_neg (by simp [h.valid])]
  dsimp only
  rcases h.flag with e | ⟨pos, le, set⟩
  · rw [if_pos (by simp [e])]
  · have ne : c.highest ≠ q := fun e => by simp [e] at pos
    have comm := toNat_sub_comm ne
    have back : 65536 - (q - c.highest).toNat = (c.highest - q).toNat := by omega
    rw [if_neg (by omega), if_neg (by omega), back, if_neg (by omega), if_pos set]

/-- A number accepted has been seen, where it lies within the window. -/
theorem seen_of_accept {c : CranePart} {q : BitVec 16} (h : (windowStep c q).1 = .accept) :
    Seen (windowStep c q).2 q := by
  unfold windowStep at h ⊢
  split at h
  next hv => rw [if_pos hv]; exact ⟨rfl, .inl rfl⟩
  next hv =>
    rw [if_neg hv]
    dsimp only at h ⊢
    have valid : c.valid = true := by simpa using hv
    split at h
    · cases h
    next h0 =>
      rw [if_neg h0]
      split at h
      next hd => rw [if_pos hd]; exact ⟨valid, .inl rfl⟩
      next hd =>
        rw [if_neg hd]
        split at h
        · cases h
        next hb =>
          rw [if_neg hb]
          split at h
          · cases h
          next hs =>
            rw [if_neg hs]
            have ne : c.highest ≠ q := fun e => h0 (by simp [e])
            have comm := toNat_sub_comm ne
            have lt := (c.highest - q).isLt
            refine ⟨valid, .inr ⟨?_, ?_, ?_⟩⟩
            · show 1 ≤ (c.highest - q).toNat
              omega
            · show (c.highest - q).toNat ≤ 32
              omega
            · have back : 65536 - (q - c.highest).toNat = (c.highest - q).toNat := by omega
              show (c.history ||| (1#32 <<< (65536 - (q - c.highest).toNat - 1))).getLsbD ((c.highest - q).toNat - 1) = true
              rw [back, marked_getLsbD _ _ _ (by omega) (by omega) (by omega)]
              simp

/-- A number seen stays seen, while it lies within 32 below the highest. -/
theorem Seen.step {c : CranePart} {q : BitVec 16} (h : Seen c q) (x : BitVec 16)
    (near : ((windowStep c x).2.highest - q).toNat ≤ 32) : Seen (windowStep c x).2 q := by
  unfold windowStep at near ⊢
  rw [if_neg (by simp [h.valid])] at near ⊢
  dsimp only at near ⊢
  split
  · exact h
  next h0 =>
    rw [if_neg h0] at near
    split
    next hd =>
      rw [if_pos hd] at near
      refine ⟨h.valid, ?_⟩
      by_cases hx : x = q
      · exact .inl hx
      · refine .inr ?_
        dsimp only at near ⊢
        have dist : (x - q).toNat = (x - c.highest).toNat + (c.highest - q).toNat := by
          have flag : (c.highest - q).toNat ≤ 32 := by
            rcases h.flag with e | ⟨-, le, -⟩
            · simp [e]
            · exact le
          simp only [BitVec.toNat_sub] at hd flag ⊢
          have lx := x.isLt
          have lh := c.highest.isLt
          have lq := q.isLt
          omega
        refine ⟨by omega, near, ?_⟩
        rw [shiftHistory_getLsbD _ _ _ (by omega) (by omega) near]
        rcases h.flag with e | ⟨pos, le, set⟩
        · rw [if_neg (by rw [e]; omega), e]
          simp
        · have sub : (x - q).toNat - (x - c.highest).toNat - 1 = (c.highest - q).toNat - 1 := by omega
          rw [if_pos (by omega), sub]
          exact set
    next hd =>
      split
      · exact h
      next hb =>
        split
        · exact h
        · refine ⟨h.valid, h.flag.imp id ?_⟩
          rintro ⟨pos, le, set⟩
          refine ⟨pos, le, ?_⟩
          rw [BitVec.getLsbD_or]
          simp only [set, Bool.true_or]

theorem windowAfter_append (c : CranePart) (l m : List (BitVec 16)) :
    windowAfter c (l ++ m) = windowAfter (windowAfter c l) m := by
  simp [windowAfter]

/-- Settles O31: once accepted, a number stays seen with every frame between, and is then a duplicate. -/
theorem noSequenceNumberPassesTwiceWithinTheWindow : Obligations.NoSequenceNumberPassesTwiceWithinTheWindow := by
  unfold Obligations.NoSequenceNumberPassesTwiceWithinTheWindow
  intro c before between q ha near
  have after (l : List (BitVec 16)) : windowAfter c (before ++ q :: l) =
      windowAfter (windowStep (windowAfter c before) q).2 l := by
    rw [windowAfter_append]
    rfl
  have seen (n : Nat) : Seen (windowAfter c (before ++ q :: between.take n)) q := by
    induction n with
    | zero =>
      rw [after]
      exact seen_of_accept ha
    | succ n ih =>
      by_cases hn : n < between.length
      · have next : windowAfter c (before ++ q :: between.take (n + 1)) =
            (windowStep (windowAfter c (before ++ q :: between.take n)) between[n]).2 := by
          rw [after, after, ← List.take_append_getElem hn, windowAfter_append]
          rfl
        have bound := near (n + 1)
        rw [next] at bound ⊢
        exact ih.step _ bound
      · have all : between.take (n + 1) = between.take n := by
          rw [List.take_of_length_le (by omega), List.take_of_length_le (by omega)]
        rwa [all]
  have last := seen between.length
  rw [List.take_length] at last
  exact last.duplicate

end Sys2Proof.Machine
end

section
/-! PROOF. Notices and the admission to every egress queue (O12, O24), and the service of a head's queues (O25). -/

namespace Sys2Proof.Machine
open Sys2Proof Sys2Proof.Safety

/-! ## Notices -/

theorem noticeAdmitted_iff {held : Nat} {k : NoticeKind} : noticeAdmitted held k = true ↔
    held < 28 ∨
      (held < 32 ∧ k ∈ [.craneLinkLost, .craneLinkRestored, .handoverFailed, .handoverForced, .queueOverrun]) := by
  cases k <;> simp [noticeAdmitted, NoticeKind.isCraneClass]

theorem raise_mgmt_of_masked {s : State} {k : NoticeKind} (hm : s.mgmt.mask.getLsbD k.bit = false) (u : Nat)
    (d : BitVec 16) :
    raise k u d s = { s with
      mgmt := { s.mgmt with
        summary := s.mgmt.summary ||| (1#21 <<< k.bit)
        cnt := { s.mgmt.cnt with
          noticesRaised := inc s.mgmt.cnt.noticesRaised, noticesMasked := inc s.mgmt.cnt.noticesMasked } } } := by
  simp only [raise, State.modMgmt_mgmt, hm]
  rfl

/-- A notice in the mask is counted and offered to the notice queue. -/
theorem raise_of_unmasked {s : State} {k : NoticeKind} (hm : s.mgmt.mask.getLsbD k.bit = true) (u : Nat)
    (d : BitVec 16) :
    raise k u d s = { s with
      mgmt := { s.mgmt with
        summary := s.mgmt.summary ||| (1#21 <<< k.bit)
        cnt := { s.mgmt.cnt with noticesRaised := inc s.mgmt.cnt.noticesRaised } }
      trunk :=
        if noticeAdmitted s.trunk.noticeQ.length k then
          { s.trunk with
            noticeQ := s.trunk.noticeQ ++
              [{ kind := k, uptime := BitVec.ofNat 32 (s.uptime / 1000), subject := BitVec.ofNat 32 u, detail := d }] }
        else { s.trunk with cnt := { s.trunk.cnt with noticeDrop := inc s.trunk.cnt.noticeDrop } } } := by
  cases ha : noticeAdmitted s.trunk.noticeQ.length k with
  | true => simp only [raise, State.modMgmt_mgmt, hm, if_true, offerNotice, State.modMgmt_trunk, ha]; rfl
  | false =>
    simp only [raise, State.modMgmt_mgmt, hm, if_true, offerNotice, State.modMgmt_trunk, ha, Bool.false_eq_true, if_false]
    rfl

/-- Settles O12: a notice masked or in the mask; a trunk queue with room or full. -/
theorem trunkQueuesAdmitByTheTable : Obligations.TrunkQueuesAdmitByTheTable := by
  refine ⟨fun k u d s => ?_, fun s f => ⟨?_, ?_⟩⟩
  · cases hm : s.mgmt.mask.getLsbD k.bit with
    | false => simp [raise_mgmt_of_masked hm]
    | true => simp [raise_of_unmasked hm, noticeAdmitted_iff]
  · unfold offerTrunkCrane
    by_cases hl : s.trunk.craneQ.length < 16
    · simp only [hl, if_true]
      rfl
    · simp only [hl, if_false]
      split <;> rfl
  · unfold offerTrunkNormal
    split <;> rfl

/-! ## The head queues -/

theorem headOpen_iff_part {s : State} {h : HeadIx} : s.headOpen h = true ↔
    s.part = .running ∧ (s.head h).link ≠ .disabled ∧ (s.head h).link ≠ .offline := by
  rw [headOpen_iff, State.running_iff]

theorem modHead_eq_setHead (s : State) (h : HeadIx) (f : Head → Head) : s.modHead h f = setHead s h (f (s.head h)) := rfl

section
variable {s : State} {h : HeadIx}

theorem offerCtl_of_closed (ho : s.headOpen h = false) (f : CtlFrame) : offerCtl h f s =
    setHead s h { s.head h with cnt := { (s.head h).cnt with notUpDrop := inc (s.head h).cnt.notUpDrop } } := by
  simp only [offerCtl, State.ctlAdmits, ho, Bool.false_and, Bool.false_eq_true, if_false]
  rfl

/-- A frame other than a SETPOINT goes to the back of a control queue with room. -/
theorem offerCtl_of_open (ho : s.headOpen h = true) {f : CtlFrame} (hf : f.isSetpoint = false) : offerCtl h f s =
    if (s.head h).ctlQ.length < 8 then setHead s h { s.head h with ctlQ := (s.head h).ctlQ ++ [f] }
    else match f with
      | .order _ _ =>
        setHead s h { s.head h with cnt := { (s.head h).cnt with orderBlocked := inc (s.head h).cnt.orderBlocked } }
      | _ => setHead s h { s.head h with cnt := { (s.head h).cnt with controlDrop := inc (s.head h).cnt.controlDrop } } := by
  simp only [offerCtl, State.ctlAdmits, ho, hf, pushCtl, Bool.true_and, Bool.false_and, Bool.false_or,
    decide_eq_true_eq, Bool.false_eq_true, if_false, if_true]
  split
  · rfl
  · cases f <;> rfl

/-- A SETPOINT takes the place of a queued one, or goes to the back of a control queue with room. -/
theorem offerCtl_setpoint_of_open (ho : s.headOpen h = true) (v : Nat) : offerCtl h (.setpoint v) s =
    if (s.head h).ctlQ.any CtlFrame.isSetpoint then
      setHead s h { s.head h with ctlQ := (s.head h).ctlQ.map fun c => if c.isSetpoint then .setpoint v else c }
    else if (s.head h).ctlQ.length < 8 then
      setHead s h { s.head h with ctlQ := (s.head h).ctlQ ++ [.setpoint v] }
    else setHead s h { s.head h with cnt := { (s.head h).cnt with controlDrop := inc (s.head h).cnt.controlDrop } } := by
  have hv : (CtlFrame.setpoint v).isSetpoint = true := rfl
  cases ha : (s.head h).ctlQ.any CtlFrame.isSetpoint with
  | true => simp only [offerCtl, State.ctlAdmits, ho, hv, ha, Bool.true_and, Bool.true_or, if_true, modHead_eq_setHead, pushCtl]
  | false =>
    simp only [offerCtl, State.ctlAdmits, ho, hv, ha, Bool.true_and, Bool.false_or, Bool.and_false, Bool.false_eq_true,
      if_false, if_true, decide_eq_true_eq, modHead_eq_setHead, pushCtl]
    rfl

theorem offerHeadCrane_of_closed (ho : s.headOpen h = false) (f : BerthFrame) : offerHeadCrane h f s =
    setHead s h { s.head h with cnt := { (s.head h).cnt with notUpDrop := inc (s.head h).cnt.notUpDrop } } := by
  simp only [offerHeadCrane, ho]
  rfl

theorem offerHeadNormal_of_closed (ho : s.headOpen h = false) (f : BerthFrame) : offerHeadNormal h f s =
    setHead s h { s.head h with cnt := { (s.head h).cnt with notUpDrop := inc (s.head h).cnt.notUpDrop } } := by
  simp only [offerHeadNormal, ho]
  rfl

end

/-- Settles O24: the head closed, and each queue of an open head with room or full. -/
theorem headQueuesAdmitByTheTable : Obligations.HeadQueuesAdmitByTheTable := by
  intro s k d isOpen dropped notUp
  have hiff : s.headOpen k = true ↔ isOpen := headOpen_iff_part
  cases ho : s.headOpen k with
  | false =>
    have hn : ¬ isOpen := fun h => by simp [hiff.mpr h] at ho
    simp only [hn, not_false_eq_true, if_true]
    exact ⟨fun v => offerCtl_of_closed ho _, fun n c => offerCtl_of_closed ho _, fun n => offerCtl_of_closed ho _,
      fun f => offerHeadCrane_of_closed ho f, fun f => offerHeadNormal_of_closed ho f⟩
  | true =>
    have hn : isOpen := hiff.mp ho
    simp only [hn, not_true_eq_false, if_false]
    refine ⟨fun v => ?_, fun n c => offerCtl_of_open ho rfl, fun n => offerCtl_of_open ho rfl, fun f => ?_, fun f => ?_⟩
    · have same : (d.ctlQ.map fun c => if c.isSetpoint then CtlFrame.setpoint v else c) =
          d.ctlQ.map fun c => match c with | .setpoint _ => .setpoint v | c => c :=
        List.map_congr_left fun c _ => by cases c <;> rfl
      exact same ▸ offerCtl_setpoint_of_open ho v
    · simp only [offerHeadCrane, ho, if_true]
      by_cases hl : d.craneQ.length < 16
      · simp only [hl, show (s.head k).craneQ.length < 16 from hl, if_true]
        rfl
      · simp only [hl, show ¬ (s.head k).craneQ.length < 16 from hl, if_false]
        cases d.overrun with
        | true => simp only [if_true]; rfl
        | false => simp only [Bool.false_eq_true, if_false, State.countHead, State.modHead_modHead]; rfl
    · simp only [offerHeadNormal, ho, if_true]
      by_cases hl : d.normalQ.length < 64
      · simp only [hl, show (s.head k).normalQ.length < 64 from hl, if_true]
        rfl
      · simp only [hl, show ¬ (s.head k).normalQ.length < 64 from hl, if_false]
        rfl

/-! ## The service of a head's queues -/

theorem Head.served_iff {d : Head} : d.served = true ↔
    d.ethUp = true ∧ ((∃ t, d.link = .up t) ∨ ∃ r, d.link = .restarting r ∧ r.pulseEnd = none) := by
  unfold Head.served
  cases d.link <;> simp

/-- What the service of the three queues answers, by the first queue that is not empty. -/
theorem Head.serveQueues_cases (d : Head) :
    (∃ c cs, d.ctlQ = c :: cs ∧ d.serveQueues = { d with tx := some (.ctl c), ctlQ := cs }) ∨
    (d.ctlQ = [] ∧ ∃ f fs, d.craneQ = f :: fs ∧
      d.serveQueues = { d with tx := some (.crane f), craneQ := fs, overrun := if fs = [] then false else d.overrun }) ∨
    (d.ctlQ = [] ∧ d.craneQ = [] ∧ ∃ f fs, d.normalQ = f :: fs ∧
      d.serveQueues = { d with tx := some (.user f), normalQ := fs }) ∨
    (d.ctlQ = [] ∧ d.craneQ = [] ∧ d.normalQ = [] ∧ d.serveQueues = d) := by
  unfold Head.serveQueues
  cases hc : d.ctlQ with
  | cons c cs => exact .inl ⟨c, cs, rfl, rfl⟩
  | nil =>
    cases hf : d.craneQ with
    | cons f fs => exact .inr (.inl ⟨rfl, f, fs, rfl, by cases fs <;> simp⟩)
    | nil =>
      cases hu : d.normalQ with
      | cons f fs => exact .inr (.inr (.inl ⟨rfl, rfl, f, fs, rfl, rfl⟩))
      | nil => exact .inr (.inr (.inr ⟨rfl, rfl, rfl, rfl⟩))

theorem Head.serve_of_held {d : Head} {e : LoopTest} (ht : d.loopTest = some e) (hh : e.held = true) :
    d.serve = { d with tx := some (.ctl (.loopTest e.pattern)), loopTest := some { e with held := false } } := by
  simp [Head.serve, ht, hh]

theorem Head.serve_of_not_held {d : Head} (h : ∀ e, d.loopTest = some e → e.held = false) : d.serve = d.serveQueues := by
  unfold Head.serve
  cases ht : d.loopTest with
  | none => rfl
  | some e => simp [h e ht]

/-- Settles O25: the head served or not, and a held LOOP_TEST ahead of the three queues. -/
theorem egressServiceSendsInStrictOrder : Obligations.EgressServiceSendsInStrictOrder := by
  intro s k hr d isServed
  have run : exec (.headEgressService k) s = .next (egressService k s) :=
    congrArg _ (outsideReset_of_running hr _)
  have hiff : d.served = true ↔ isServed := Head.served_iff
  rw [run]
  refine ⟨fun hn => ?_, fun hs => ⟨d.serve, ?_, ?_⟩⟩
  · rw [egressService, if_neg fun h => hn (hiff.mp h)]
  · rw [egressService, if_pos (hiff.mpr hs)]
    rfl
  · by_cases hh : ∃ e, d.loopTest = some e ∧ e.held = true
    · obtain ⟨e, ht, hh⟩ := hh
      exact .inl ⟨e, ht, hh, Head.serve_of_held ht hh⟩
    · have free : ∀ e, d.loopTest = some e → e.held = false := fun e ht => by
        simpa using fun h => hh ⟨e, ht, h⟩
      rw [Head.serve_of_not_held free]
      exact .inr ⟨free, d.serveQueues_cases⟩

end Sys2Proof.Machine
end

section
/-! PROOF. The deadlines of entries (O39), the offers to the Export Unit (O45), and the freeing of an entry (O44). -/

namespace Sys2Proof.Machine
open Sys2Proof Sys2Proof.Safety

/-! ## Events outside reset -/

theorem exec_event {c : Instr} {f : State → State} {s : State} (hc : act c = .event f) (hr : s.inReset = false) :
    exec c s = .next (f s) := by
  rw [exec_eq_run, hc]
  exact congrArg _ (outsideReset_of_running hr f)

/-! ## The expiries -/

theorem halves_one (k : HeadIx) : halves k.val 1 = 1#8 ++ BitVec.ofNat 8 k.val := by
  revert k
  decide

/-- A deadline that is present and due. -/
theorem due_some {d now : Nat} : due (some d) now = decide (d ≤ now) := rfl

section
variable {s : State}

theorem bicastExpiry_of_due {i : SlotIx} {e : Term} {v c : HeadIx} {d : Nat} (he : s.term i = some e)
    (hh : e.ho = .bicast v c d) (hd : d ≤ s.uptime) :
    bicastExpiry i s = raise .handoverFailed e.number.toNat (1#8 ++ BitVec.ofNat 8 c.val)
      { s with
        ho := { s.ho with bicastTimeout := inc s.ho.bicastTimeout }
        terms := put s.terms i (some { e with ho := .settled v, probe := 0, holdoff := s.mgmt.params.holdoff }) } := by
  rw [← halves_one]
  simp only [bicastExpiry, he, hh, hd, if_true]
  rfl

/-- Without a bicast deadline that is due nothing happens. -/
theorem bicastExpiry_of_early {i : SlotIx}
    (h : ∀ e v c d, s.term i = some e → e.ho = .bicast v c d → s.uptime < d) : bicastExpiry i s = s := by
  unfold bicastExpiry
  cases he : s.term i with
  | none => rfl
  | some e =>
    dsimp only
    cases hh : e.ho with
    | bicast v c d => exact if_neg (Nat.not_le.mpr (h e v c d he hh))
    | _ => rfl

theorem gatewayExpiry_of_reporting {i : SlotIx} {e : Term} {b d n : Nat} (he : s.term i = some e)
    (hg : e.part = .gateway (.reporting b (some d)) n) :
    gatewayExpiry i s =
      if d ≤ s.uptime then
        raise .gatewaySilent e.number.toNat (BitVec.ofNat 16 (min n 65535))
          { s with
            terms := put s.terms i (some { e with part := .gateway (.silent b) n })
            reef := { s.reef with cnt := { s.reef.cnt with gatewaySilences := inc s.reef.cnt.gatewaySilences } } }
      else s := by
  simp only [gatewayExpiry, he, hg, due_some, decide_eq_true_eq]
  rfl

/-- Without a gateway silence deadline that is due nothing happens. -/
theorem gatewayExpiry_of_early {i : SlotIx}
    (h : ∀ e b d n, s.term i = some e → e.part = .gateway (.reporting b (some d)) n → s.uptime < d) :
    gatewayExpiry i s = s := by
  unfold gatewayExpiry
  cases he : s.term i with
  | none => rfl
  | some e =>
    dsimp only
    cases hp : e.part with
    | gateway st n =>
      cases st with
      | reporting b d =>
        dsimp only
        refine if_neg fun hd => ?_
        obtain ⟨t, ht, hle⟩ := due_iff.mp hd
        cases Option.mem_def.mp ht
        exact absurd hle (Nat.not_le.mpr (h e b t n he hp))
      | _ => rfl
    | _ => rfl

theorem isHeard_iff {st : ReeferState} : isHeard st = true ↔ st = .active ∨ st = .alarm := by
  cases st <;> simp [isHeard]

/-- Without a reefer silence deadline that is due nothing happens. -/
theorem reeferExpiry_of_early {i : ReeferIx}
    (h : ∀ r d, s.reefer i = some r → r.state = .active ∨ r.state = .alarm → r.silence = some d → s.uptime < d) :
    reeferExpiry i s = s := by
  unfold reeferExpiry
  cases hr : s.reefer i with
  | none => rfl
  | some r =>
    refine if_neg fun hd => ?_
    obtain ⟨hs, hd⟩ := Bool.and_eq_true_iff.mp hd
    obtain ⟨d, hd, hle⟩ := due_iff.mp hd
    exact absurd hle (Nat.not_le.mpr (h r d hr (isHeard_iff.mp hs) hd))

theorem effectiveTimeout_eq (r : Reefer) : effectiveTimeout r s =
    match r.segment with
    | some g =>
      if (look s.segs g).cranes = 0 then s.mgmt.params.reeferSilence * 1000 else s.mgmt.params.reeferSilence * 1000 * 4
    | none => s.mgmt.params.reeferSilence * 1000 := by
  unfold effectiveTimeout
  cases r.segment with
  | none => rfl
  | some g =>
    dsimp only
    by_cases hc : (look s.segs g).cranes = 0
    · rw [if_neg (by omega), if_pos hc]; rfl
    · rw [if_pos (by omega), if_neg hc]; rfl

theorem reeferExpiry_of_heard {i : ReeferIx} {r : Reefer} {d : Nat} (hr : s.reefer i = some r)
    (hd : r.silence = some d) (hs : r.state = .active ∨ r.state = .alarm) :
    reeferExpiry i s =
      if s.uptime < d then s
      else if s.uptime - r.lastHeard < effectiveTimeout r s then
        s.setReefer i (some { r with silence := some (r.lastHeard + effectiveTimeout r s) })
      else reeferSilent i r s := by
  simp only [reeferExpiry, hr, isHeard_iff.mpr hs, hd, due_some, Bool.true_and, decide_eq_true_eq]
  by_cases h : s.uptime < d
  · rw [if_neg (Nat.not_le.mpr h), if_pos h]
  · rw [if_pos (Nat.not_lt.mp h), if_neg h]

theorem flushExpiry_of_early (h : s.exp.expired = true ∨ ∀ d, s.exp.deadline = some d → s.uptime < d) :
    flushExpiry s = s := by
  refine if_neg fun hd => ?_
  obtain ⟨hd, he⟩ := Bool.and_eq_true_iff.mp hd
  obtain ⟨d, hd, hle⟩ := due_iff.mp hd
  rcases h with h | h
  · simp [h] at he
  · exact absurd hle (Nat.not_le.mpr (h d hd))

theorem flushExpiry_of_due {d : Nat} (he : s.exp.expired = false) (hd : s.exp.deadline = some d) (hle : d ≤ s.uptime) :
    flushExpiry s = judgeRequest (s.modExp fun x => { x with expired := true }) :=
  if_pos (by simp [he, hd, due_some, hle])

end

/-- Settles O39: for each of the four deadlines, due, not due or absent. -/
theorem deadlinesOfEntriesExpire : Obligations.DeadlinesOfEntriesExpire := by
  refine ⟨fun s i hr => ⟨fun e v c d he hh hd => ?_, fun h => ?_⟩, ⟨fun s i e b d n hr he hg => ?_, fun s i hr h => ?_,
    fun s i hr h => ?_, fun s i r d hr he hd hs => ?_⟩, fun s hr => ⟨fun h => ?_, fun d he hd hle => ?_⟩⟩
  · exact (exec_event rfl hr).trans (congrArg _ (bicastExpiry_of_due he hh hd))
  · exact (exec_event rfl hr).trans (congrArg _ (bicastExpiry_of_early h))
  · exact (exec_event rfl hr).trans (congrArg _ (gatewayExpiry_of_reporting he hg))
  · exact (exec_event rfl hr).trans (congrArg _ (gatewayExpiry_of_early h))
  · exact (exec_event rfl hr).trans (congrArg _ (reeferExpiry_of_early h))
  · intro t timeout
    refine (exec_event rfl hr).trans (congrArg _ ((reeferExpiry_of_heard he hd hs).trans ?_))
    have ht : effectiveTimeout r s = timeout := effectiveTimeout_eq r
    rw [ht]
    have hsilent : reeferSilent i r s = offerExport i r.state
        (raise .reeferSilent r.tag
          (match r.gateway with
            | some g => match s.term g with | some e => e.number | none => 0
            | none => 0)
          { s with reef := { s.reef with
              table := put s.reef.table i (some { r with state := .silent, silence := none })
              cnt := { s.reef.cnt with reeferSilences := inc s.reef.cnt.reeferSilences } } }) := by
      unfold reeferSilent State.gatewayNo
      cases r.gateway with
      | none => rfl
      | some g => cases hg : s.term g <;> simp only [hg] <;> rfl
    rw [hsilent]
    rfl
  · exact (exec_event rfl hr).trans (congrArg _ (flushExpiry_of_early h))
  · refine ⟨_, (exec_event rfl hr).trans (congrArg _ (flushExpiry_of_due he hd hle)), ?_, ?_⟩
    · rw [judgeRequest_request, requestStands_iff]
      simp
    · rw [judgeRequest_eq]
      rfl

end Sys2Proof.Machine
end

section
/-! PROOF. The pending list: offers (O45), removal and the purge walk (O44), the trunk arbiter (O46) and grants to the Export Unit (O47). -/

namespace Sys2Proof.Machine
open Sys2Proof Sys2Proof.Safety

/-! ## Offers -/

theorem Reason.higher_eq (a b : Reason) : a.higher b = if a = .state ∨ (a = .change ∧ b = .refresh) then a else b := by
  cases a <;> cases b <;> decide

section
variable {s : State}

/-- The entry of a flagged offer is in the list already: its item takes the higher reason. -/
theorem joinList_of_flagged (i : ReeferIx) {r : Reefer} (why : Reason) (h : r.pending = true) : joinList i r why s =
    { s with exp := { s.exp with
        list := s.exp.list.map fun p =>
          if p.index = i then
            { p with reason := if why = .state ∨ (why = .change ∧ p.reason = .refresh) then why else p.reason }
          else p
        cnt := { s.exp.cnt with merged := inc s.exp.cnt.merged } } } := by
  simp only [joinList, h, if_true, mergeReason, Reason.higher_eq]
  rfl

/-- The entry flagged, its item at the back of the list and counted, before the deadline and the request. -/
def State.joined (i : ReeferIx) (r : Reefer) (why : Reason) (s : State) : State :=
  { s with
    reef := { s.reef with table := put s.reef.table i (some { r with pending := true }) }
    exp := { s.exp with
      list := s.exp.list ++ [{ index := i, join := s.uptime, reason := why }]
      cnt := { s.exp.cnt with offers := inc s.exp.cnt.offers } } }

theorem joinList_of_unflagged (i : ReeferIx) {r : Reefer} (why : Reason) (h : r.pending = false) : joinList i r why s =
    judgeRequest (if s.exp.list = [] then armFlush (s.joined i r why) else s.joined i r why) := by
  simp only [joinList, h, Bool.false_eq_true, if_false, List.isEmpty_iff]
  rfl

theorem requestStands_of_armed {t : State} {m : Mgmt} {n : Nat} {x : Bool} (hr : t.part = .running) (hl : t.exp.list ≠ [])
    (hn : t.exp.list.length = n) (hx : t.exp.expired = x) (hm : t.mgmt = m) :
    t.requestStands = true ↔ m.params.batchLimit ≤ n ∨ x = true := by
  rw [requestStands_iff, hn, hx, hm]
  exact ⟨fun h => h.2.2, fun h => ⟨hr, hl, h⟩⟩

theorem flushAt_joined {i : ReeferIx} {r : Reefer} {why : Reason} (hr : s.part = .running) (hl : s.exp.list = []) :
    (s.joined i r why).flushAt = some (s.uptime + s.mgmt.params.flushInterval) := by
  simp [State.flushAt, State.joined, hr, hl]

end

theorem valueChanged_iff {b : Nat} {x y : Option Int} : valueChanged b x y = true ↔
    (x.isSome ≠ y.isSome) ∨ ∃ p q, x = some p ∧ y = some q ∧ ((b : Int) ≤ p - q ∨ (b : Int) ≤ q - p) := by
  cases x <;> cases y <;> simp [valueChanged]
  omega

theorem refreshDue_iff {f : Nat} {x : Option Nat} {now : Nat} : refreshDue f x now = true ↔
    x = none ∨ ∃ t, x = some t ∧ f * 60000 ≤ now - t := by
  cases x <;> simp [refreshDue]

/-- Table 9-2: an entry that is not UNHEARD is offered for its state, for a change or for a refresh, in this order. -/
theorem offerReason_of_heard {b : Band} {before : ReeferState} {r : Reefer} {now : Nat} (hu : r.state ≠ .unheard) :
    offerReason b before r now =
      if r.state ≠ before then some .state
      else if r.setpoint ≠ r.expSetpoint ∨ r.expAlarm ≠ some r.alarm ∨ valueChanged b.deadband r.supply r.expSupply = true ∨
          valueChanged b.deadband r.ret r.expRet = true then some .change
      else if refreshDue b.refresh r.expTime now then some .refresh
      else none := by
  unfold offerReason
  rw [if_neg hu]
  by_cases hs : r.state ≠ before
  · rw [if_pos hs, if_pos hs]
  rw [if_neg hs, if_neg hs]
  by_cases hp : r.setpoint ≠ r.expSetpoint
  · rw [if_pos hp, if_pos (.inl hp)]
  rw [if_neg hp]
  by_cases ha : some r.alarm ≠ r.expAlarm
  · rw [if_pos ha, if_pos (.inr (.inl (Ne.symm ha)))]
  rw [if_neg ha]
  simp [hp, not_ne_iff.mp fun h => ha (Ne.symm h)]

/-- Settles O45: an offer of a flagged entry, of another one, and the reason of an offer. -/
theorem offersJoinOrMergeIntoTheList : Obligations.OffersJoinOrMergeIntoTheList := by
  refine ⟨⟨fun s i r why => joinList_of_flagged i why, fun s i r why hp hr => ?_⟩, fun s i before => ?_,
    fun b before r now => ?_⟩
  · dsimp only
    rw [joinList_of_unflagged i why hp]
    have hne : (s.joined i r why).exp.list ≠ [] := by simp [State.joined]
    have hlen : (s.joined i r why).exp.list.length = s.exp.list.length + 1 := by simp [State.joined]
    by_cases hl : s.exp.list = []
    · rw [if_pos hl, if_pos hl, if_pos hl, judgeRequest_eq]
      refine ⟨by simp [State.joined], by simp [armFlush_eq, State.joined], by simp [flushAt_joined hr hl],
        by rw [armFlush_eq, flushAt_joined hr hl]; rfl, ?_, ?_⟩
      · exact requestStands_of_armed (t := armFlush (s.joined i r why)) (by simpa [State.joined] using hr)
          (by simpa using hne) (by simpa using hlen) rfl (by simp [State.joined])
      · rw [armFlush_eq]
        rfl
    · rw [if_neg hl, if_neg hl, if_neg hl, judgeRequest_eq]
      refine ⟨rfl, rfl, rfl, rfl, ?_, rfl⟩
      exact requestStands_of_armed (t := s.joined i r why) hr hne hlen rfl rfl
  · unfold offerExport
    cases s.reefer i <;> rfl
  · intro differs changed stale
    refine ⟨fun hu => if_pos hu, fun hu => ?_⟩
    have hc : changed ↔ r.setpoint ≠ r.expSetpoint ∨ r.expAlarm ≠ some r.alarm ∨
        valueChanged b.deadband r.supply r.expSupply = true ∨ valueChanged b.deadband r.ret r.expRet = true := by
      rw [valueChanged_iff, valueChanged_iff]
    have hst : stale ↔ refreshDue b.refresh r.expTime now = true := refreshDue_iff.symm
    rw [offerReason_of_heard hu]
    refine ⟨fun hs => if_pos hs, fun hs h => ?_, fun hs hn h => ?_, fun hs hn h => ?_⟩
    · rw [if_neg (not_not.mpr hs), if_pos (hc.mp h)]
    · rw [if_neg (not_not.mpr hs), if_neg (mt hc.mpr hn), if_pos (hst.mp h)]
    · rw [if_neg (not_not.mpr hs), if_neg (mt hc.mpr hn), if_neg (mt hst.mpr h)]

end Sys2Proof.Machine
end

section
/-! PROOF. Freeing an entry and the purge walk (O44), the trunk arbiter (O46), and grants to the Export Unit (O47). -/

namespace Sys2Proof.Machine
open Sys2Proof Sys2Proof.Safety

/-! ## Freeing an entry -/

section
variable {s : State}

/-- A change of a gateway's reefer count changes the Terminal Table alone. -/
theorem bumpReefers_eq (g : Option SlotIx) (f : Nat → Nat) (s : State) :
    bumpReefers g f s = { s with terms := (bumpReefers g f s).terms } := by
  cases g with
  | none => rfl
  | some i =>
    unfold bumpReefers
    dsimp only
    cases s.term i with
    | none => rfl
    | some t => dsimp only; cases t.part <;> rfl

theorem freeReefer_of_unflagged (i : ReeferIx) {r : Reefer} (h : r.pending = false) : freeReefer i r s =
    { s with
      terms := (freeReefer i r s).terms
      reef := { s.reef with table := put s.reef.table i none, tableFull := false } } := by
  rw [freeReefer_terms]
  unfold freeReefer
  dsimp only
  rw [h, if_neg Bool.false_ne_true, bumpReefers_eq]
  rfl

theorem Term.bumped_eq (f : Nat → Nat) (t : Term) : t.bumped f =
    match t.part with
    | .gateway st n => { t with part := .gateway st (f n) }
    | _ => t := by
  unfold Term.bumped
  cases t.part <;> rfl

/-- The pending list and the request after a removal, by whether its item stood in front. -/
theorem removePending_exp (i : ReeferIx) : removePending i s =
    { s with
      exp := (removePending i s).exp
      trunk := { s.trunk with
        exportTurn := if s.exp.request = true ∧ (removePending i s).exp.request = false then 0 else s.trunk.exportTurn } } := by
  rw [removePending_eq, judgeRequest_eq]
  split
  · rw [armFlush_eq]
    rfl
  · rfl

theorem purgeTakes_iff {p : Purge} {r : Reefer} {now : Nat} :
    purgeTakes p r now = true ↔ r.state = p.state ∧ p.minAge * 1000 ≤ now - r.lastHeard := by
  simp [purgeTakes]

theorem visitEntry_of_taken {p : Purge} {r : Reefer} (hr : s.reefer p.next = some r)
    (h : r.state = p.state ∧ p.minAge * 1000 ≤ s.uptime - r.lastHeard) :
    visitEntry p s = ((freeReefer p.next r s).countReef fun c => { c with purged := inc c.purged }, p.removed + 1) := by
  simp only [visitEntry, hr, purgeTakes_iff.mpr h, if_true]

theorem visitEntry_of_not_taken {p : Purge}
    (h : ¬ ∃ r ∈ s.reefer p.next, r.state = p.state ∧ p.minAge * 1000 ≤ s.uptime - r.lastHeard) :
    visitEntry p s = (s, p.removed) := by
  unfold visitEntry
  cases hr : s.reefer p.next with
  | none => rfl
  | some r => exact if_neg fun ht => h ⟨r, hr, purgeTakes_iff.mp ht⟩

/-- What the end of the walk does with its reply (R142). -/
theorem endPurge_eq (p : Purge) (m : State) : endPurge p m =
    (let x := { m with reef := { m.reef with purge := none } }
     if p.replies = false then x
     else if m.trunk.replyQ.length < 8 then
       { x with trunk := { x.trunk with
           replyQ := x.trunk.replyQ ++ [{ code := 21, tag := p.tag, status := .done, data := .purged p.removed }] } }
     else x.countReef fun c => { c with purgeReplyLost := inc c.purgeReplyLost }) := by
  unfold endPurge
  cases p.replies with
  | false => rfl
  | true =>
    dsimp only
    rw [if_pos rfl, if_neg Bool.true_eq_false.mp]
    rfl

/-- One visit of the walk, by whether the walk's index is the last. -/
theorem purgeVisit_of_walk {p : Purge} (hp : s.reef.purge = some p) {m : State} {n : Nat}
    (hv : visitEntry p s = (m, n)) :
    purgeVisit s =
      match ix? 2048 (p.next.val + 1) with
      | some j => { m with reef := { m.reef with purge := some { p with next := j, removed := n } } }
      | none => endPurge { p with removed := n } m := by
  simp only [purgeVisit, hp, hv]
  rfl

end

/-- Settles O44: an entry freed with and without its item, an item removed, and one visit of the walk. -/
theorem purgeVisitsJudgeOneEntry : Obligations.PurgeVisitsJudgeOneEntry := by
  refine ⟨fun s i r h => ⟨freeReefer_of_unflagged i h, fun j => ?_⟩, fun s i r h => freeReefer_of_pending s i h,
    fun s i => ?_, fun s hr => ⟨fun hp => ?_, fun p hp => ?_⟩⟩
  · rw [freeReefer_term]
    by_cases hg : r.gateway = some j
    · simp only [hg, if_true]
      exact congrArg (fun f => (s.term j).map f) (funext fun e => Term.bumped_eq _ e)
    · simp only [hg, if_false]
      cases s.term j with
      | none => rfl
      | some e => rcases e with ⟨no, part, ho, probe, hold, stray, g, q⟩; cases part <;> rfl
  · intro t atFront due
    have hrun : (s.takenOut i).part = s.part := rfl
    have hlist : t.exp.list = (s.takenOut i).exp.list := by
      show (removePending i s).exp.list = _
      rw [removePending_eq, judgeRequest_list]
      split <;> simp
    have hdue : (s.takenOut i).flushAt = due := by
      show _ = if s.part = .running then t.exp.list.head?.map _ else none
      rw [hlist]
      rfl
    have hreq : t.exp.request = t.requestStands := by
      show (removePending i s).exp.request = (removePending i s).requestStands
      rw [removePending_eq, judgeRequest_eq]
      rfl
    have hexp : t = if atFront = true then judgeRequest (armFlush (s.takenOut i)) else judgeRequest (s.takenOut i) :=
      (removePending_eq s i).trans (apply_ite judgeRequest _ _ _)
    refine ⟨hlist, ?_, ?_, ?_, ?_, removePending_exp i⟩
    · rw [hexp]
      split <;> simp [judgeRequest_eq, armFlush_eq, State.takenOut]
    · rw [← hdue, hexp]
      split <;> simp [judgeRequest_eq, armFlush_eq, State.takenOut]
    · rw [← hdue, hexp]
      split <;> rw [judgeRequest_eq]
      · rw [armFlush_eq]; rfl
      · rfl
    · rw [hreq, requestStands_iff]
      show (removePending i s).part = _ ∧ _ ∧ ((removePending i s).mgmt.params.batchLimit ≤ _ ∨ _) ↔ _
      rw [removePending_part, removePending_mgmt]
  · exact (exec_event rfl hr).trans (congrArg _ (by simp only [purgeVisit, hp]))
  · intro taken
    by_cases ht : taken
    · obtain ⟨r, hr', h⟩ := ht
      refine ⟨(freeReefer p.next r s).countReef fun c => { c with purged := inc c.purged }, ?_, ?_⟩
      · rw [if_pos ⟨r, hr', h⟩]
        exact ⟨r, hr', rfl⟩
      · intro removed
        refine (exec_event rfl hr).trans (congrArg _ ?_)
        have hrem : removed = p.removed + 1 := if_pos ⟨r, hr', h⟩
        rw [purgeVisit_of_walk hp (visitEntry_of_taken hr' h), hrem]
        cases ix? 2048 (p.next.val + 1) with
        | some n => rfl
        | none => exact endPurge_eq _ _
    · refine ⟨s, by rw [if_neg ht], ?_⟩
      intro removed
      refine (exec_event rfl hr).trans (congrArg _ ?_)
      have hrem : removed = p.removed := if_neg ht
      rw [purgeVisit_of_walk hp (visitEntry_of_not_taken ht), hrem]
      cases ix? 2048 (p.next.val + 1) with
      | some n => rfl
      | none => exact endPurge_eq _ _

/-! ## The trunk arbiter -/

/-- Settles O46: the link down, and the first queue that is not empty. -/
theorem trunkGrantsFollowTheOrder : Obligations.TrunkGrantsFollowTheOrder := by
  intro s hr
  refine (exec_event rfl hr).trans (congrArg _ ?_)
  unfold grant
  cases hl : s.trunk.linkUp with
  | false => simp
  | true =>
    simp only [if_true, Bool.true_eq_false, if_false]
    cases hc : s.trunk.craneQ with
    | cons f fs => cases fs <;> simp [grantCrane, State.modTrunk, hl]
    | nil =>
      cases hn : s.trunk.noticeQ with
      | cons n ns => simp [grantNotice, State.modTrunk, hl, hc]
      | nil =>
        cases hq : s.trunk.replyQ with
        | cons r rs => simp [grantReply, State.modTrunk, hl, hc, hn]
        | nil => cases hu : s.trunk.normalQ <;> simp [grantFourth, grantNormal, State.modTrunk, hl, hc, hn, hq, hu]

end Sys2Proof.Machine
end

section
/-! PROOF. Export grants (O47). -/

namespace Sys2Proof.Machine
open Sys2Proof Sys2Proof.Safety

theorem map_some_filterMap {α β : Type} {f : α → Option β} {l : List α} (h : ∀ a ∈ l, (f a).isSome = true) :
    (l.filterMap f).map some = l.map f := by
  induction l with
  | nil => rfl
  | cons a l ih =>
    obtain ⟨b, hb⟩ := Option.isSome_iff_exists.mp (h a (List.mem_cons_self ..))
    rw [List.filterMap_cons_some hb, List.map_cons, List.map_cons, hb,
      ih fun c hc => h c (List.mem_cons_of_mem _ hc)]

section
variable (s : State)

theorem snapshot_eq (r : Reefer) (why : Reason) : snapshot r why s =
    { tag := r.tag, state := r.state, setpoint := r.setpoint, supply := r.supply, ret := r.ret
      compressor := r.compressor, defrost := r.defrost, alarm := r.alarm, reason := why
      gatewayNo := r.gateway.bind fun g => (s.term g).map Term.number, segment := r.segment
      age := min ((s.uptime - r.lastHeard) / 1000) 65535 } := by
  unfold snapshot State.gatewayNo
  cases r.gateway <;> rfl

/-- The items taken into a frame change the entries of the Reefer Table alone. -/
theorem markExported_foldl_eq (l : List PendItem) : l.foldl markExported s =
    { s with reef := { s.reef with table := (l.foldl markExported s).reef.table } } := by
  induction l generalizing s with
  | nil => rfl
  | cons p l ih =>
    have one : markExported s p = { s with reef := { s.reef with table := (markExported s p).reef.table } } := by
      unfold markExported
      cases s.reefer p.index <;> rfl
    rw [List.foldl_cons, ih, one]

/-- The state of a grant before the deadline is armed for the new front and the request is judged. -/
def State.granted (s : State) : State :=
  { s with
    exp := { s.exp with
      list := s.exp.list.drop s.mgmt.params.batchLimit
      cnt := { s.exp.cnt with
        batches := inc s.exp.cnt.batches
        records := satAdd s.exp.cnt.records (exportRecords (s.exp.list.take s.mgmt.params.batchLimit) s).length } }
    reef := { s.reef with table := ((s.exp.list.take s.mgmt.params.batchLimit).foldl markExported s).reef.table }
    trunk := { s.trunk with
      tx := some (.exportBatch (exportRecords (s.exp.list.take s.mgmt.params.batchLimit) s)), exportTurn := 0
      cnt := { s.trunk.cnt with txExport := inc s.trunk.cnt.txExport } } }

theorem grantExport_eq_granted : grantExport s = judgeRequest (armFlush s.granted) := by
  unfold grantExport
  dsimp only
  rw [show s.params = s.mgmt.params from rfl, markExported_foldl_eq]
  rfl

theorem judgeRequest_of_turn_zero {s : State} (h : s.trunk.exportTurn = 0) :
    judgeRequest s = { s with exp := { s.exp with request := s.requestStands } } := by
  have hz : (if s.exp.request = true ∧ s.requestStands = false then 0 else s.trunk.exportTurn) = s.trunk.exportTurn := by
    rw [h, ite_self]
  rw [judgeRequest_eq, hz]

/-- A grant in full: the deadline of the new front, and the request judged with it. -/
theorem grantExport_eq : grantExport s =
    { s.granted with
      exp := { s.granted.exp with
        deadline := s.granted.flushAt
        expired := s.granted.flushAt.any fun d => decide (d ≤ s.uptime)
        request := (armFlush s.granted).requestStands } } := by
  rw [grantExport_eq_granted, judgeRequest_of_turn_zero (by rw [armFlush_eq]; rfl), armFlush_eq]
  rfl

/-- The items of a sound list have their entries, so that each gives one record. -/
theorem map_some_exportRecords {s : State} (hp : PendingOk s) {l : List PendItem} (hl : ∀ p ∈ l, p ∈ s.exp.list) :
    (exportRecords l s).map some = l.map fun p => (s.reefer p.index).map fun r => snapshot r p.reason s := by
  refine map_some_filterMap fun p h => ?_
  obtain ⟨r, hr, -⟩ := (hp.flagged p.index).mp (List.mem_map_of_mem (hl p h))
  simp [hr]

end

/-- Settles O47: the records of the items taken, then the entries, the list, the deadline and the request. -/
theorem exportGrantsSendSnapshots : Obligations.ExportGrantsSendSnapshots := by
  intro s hp _ hr n t items
  have ht : t = _ := grantExport_eq s
  have hrecs : (exportRecords items s).map some = _ := map_some_exportRecords hp fun p h => List.mem_of_mem_take h
  have hlen : (exportRecords items s).length = items.length := by
    simpa using congrArg List.length hrecs
  have hflush : s.granted.flushAt = (t.exp.list.head?.map fun p => p.join + s.mgmt.params.flushInterval) := by
    rw [ht]
    exact if_pos hr
  refine ⟨exportRecords items s, by rw [ht]; rfl, ?_, fun i => grantExport_reefer s i, grantExport_list s, ?_, ?_, ?_, ?_⟩
  · rw [hrecs]
    simp only [snapshot_eq]
  · rw [ht, ← hlen]
    rfl
  · rw [← hflush, ht]
  · have hreq : t.exp.request = (armFlush s.granted).requestStands := by rw [ht]
    have hd : t.exp.deadline = s.granted.flushAt := by rw [ht]
    have hl : t.exp.list = s.granted.exp.list := grantExport_list s
    rw [hreq, requestStands_iff, hd, hl, armFlush_eq]
    simp only [Option.any_eq_true, decide_eq_true_eq]
    exact ⟨fun h => h.2, fun h => ⟨hr, h⟩⟩
  · rw [ht]
    rfl

end Sys2Proof.Machine
end

section
/-! PROOF. Crane activity and its watchdog (O33), and the frames that go no further (O34). -/

namespace Sys2Proof.Machine
open Sys2Proof Sys2Proof.Safety

/-! ## The crane watchdog -/

section
variable {s : State} {i : SlotIx} {e : Term} {c : CranePart}

/-- R68: activity by the link state of the crane. -/
theorem craneActivity_of_crane (he : s.term i = some e) (hc : e.part = .crane c) (k : HeadIx) : craneActivity i k s =
    (let live := s.setTerm i (some
        { e with part := .crane { c with link := .live (s.uptime + s.mgmt.params.craneWatchdog) } })
     match c.link with
     | .unheard | .live _ => live
     | .lost => raise .craneLinkRestored e.number.toNat (BitVec.ofNat 16 k.val)
         (live.modCrane fun n => { n with restores := inc n.restores })
     | .dormant => s) := by
  unfold craneActivity
  rw [he]
  dsimp only
  rw [hc]
  rfl

theorem craneActivity_of_not_crane (he : s.term i = some e) (hc : e.isCrane = false) (k : HeadIx) :
    craneActivity i k s = s := by
  unfold craneActivity
  rw [he]
  dsimp only
  cases hp : e.part with
  | crane c => simp [Term.isCrane, hp, ClassPart.cls] at hc
  | _ => rfl

theorem watchdogExpiry_of_live {d : Nat} (he : s.term i = some e) (hc : e.part = .crane c) (hl : c.link = .live d) :
    watchdogExpiry i s = if d ≤ s.uptime then craneLost i e c s else s := by
  unfold watchdogExpiry
  rw [he]
  dsimp only
  rw [hc]
  dsimp only
  rw [hl]

theorem watchdogExpiry_of_not_live (he : s.term i = some e) (hc : e.part = .crane c) (hl : ∀ d, c.link ≠ .live d) :
    watchdogExpiry i s = s := by
  unfold watchdogExpiry
  rw [he]
  dsimp only
  rw [hc]
  cases h : c.link with
  | live d => exact absurd h (hl d)
  | _ => dsimp only; rw [h]

end

/-- Settles O33: activity and the watchdog, by the link state of the crane. -/
theorem craneWatchdogFollowsActivity : Obligations.CraneWatchdogFollowsActivity := by
  intro s i k e c he hc live
  refine ⟨?_, fun hr => (exec_event rfl hr).trans (congrArg _ ?_)⟩
  · rw [craneActivity_of_crane he hc]
    cases hl : c.link <;> rfl
  · cases hl : c.link with
    | live d =>
      rw [watchdogExpiry_of_live he hc hl]
      unfold craneLost
      cases hv : e.ho.serving <;> rfl
    | _ => exact watchdogExpiry_of_not_live he hc (by simp [hl])

/-! ## Frames that go no further -/

section
variable {s : State} {n : TermNo} {k : HeadIx}

theorem fromUpHead_of_not_up (h : s.isUp k = false) (f : State → State) :
    fromUpHead k f s = s.countHead k fun c => { c with rxNotUp := inc c.rxNotUp } :=
  if_neg (by simp [h])

variable {unlisted : State → State} {listed : SlotIx → Term → State → State}

theorem classify_of_bad (h : s.part = .running) (hn : n = 0 ∨ n = 65535) : classify n unlisted listed s =
    s.modCls fun c => { c with ulBadTerminal := inc c.ulBadTerminal } := by
  rw [classify, if_neg (mt (State.standby_iff s).mp (by simp [h])), if_pos (badNumber_iff.mpr hn)]

theorem classify_of_unlisted (h : s.part = .running) (hn : ¬ (n = 0 ∨ n = 65535)) (hl : s.lookup n = none) :
    classify n unlisted listed s = unlisted s := by
  rw [classify, if_neg (mt (State.standby_iff s).mp (by simp [h])), if_neg (mt badNumber_iff.mp hn), hl]

theorem classify_of_listed (h : s.part = .running) (hn : ¬ (n = 0 ∨ n = 65535)) {i : SlotIx} {t : Term}
    (hl : s.lookup n = some (i, t)) : classify n unlisted listed s = listed i t s := by
  rw [classify, if_neg (mt (State.standby_iff s).mp (by simp [h])), if_neg (mt badNumber_iff.mp hn), hl]

/-- Where a data frame from a head goes no further (R23, R45, R46). -/
theorem fromUpHead_classify_drops (c : Instr) (hr : s.inReset = false)
    (hc : act c = .event (fromUpHead k (classify n unlisted listed))) :
    (s.isUp k = false → exec c s = .next (s.countHead k fun c => { c with rxNotUp := inc c.rxNotUp })) ∧
    (s.isUp k = true → s.part = .standby →
      exec c s = .next { s with cls := { s.cls with ulStandbyDrop := inc s.cls.ulStandbyDrop } }) ∧
    (s.isUp k = true → s.part = .running → n = 0 ∨ n = 65535 →
      exec c s = .next { s with cls := { s.cls with ulBadTerminal := inc s.cls.ulBadTerminal } }) ∧
    (s.isUp k = true → s.part = .running → n ≠ 0 → n ≠ 65535 → (∀ i e, s.term i = some e → e.number ≠ n) →
      exec c s = .next (unlisted s)) := by
  rw [exec_event hc hr]
  refine ⟨fun hu => ?_, fun hu hp => ?_, fun hu hp hn => ?_, fun hu hp h0 h1 hl => ?_⟩
  · rw [fromUpHead_of_not_up hu]
  · rw [fromUpHead_of_isUp hu, classify_of_standby hp]
    rfl
  · rw [fromUpHead_of_isUp hu, classify_of_bad hp hn]
    rfl
  · rw [fromUpHead_of_isUp hu, classify_of_unlisted hp (fun e => e.elim h0 h1) (State.lookup_eq_none.mpr hl)]

end

/-- Settles O34. -/
theorem discardedFramesAreCountedAlone : Obligations.DiscardedFramesAreCountedAlone := by
  intro s hr
  refine ⟨fun k => exec_event (c := .rxDamaged k) rfl hr, fun kd => exec_event (c := .trunkWrongKind kd) rfl hr,
    exec_event (c := .trunkDamaged) rfl hr, fun k => ?_, fun k kd => ?_,
    fun k => ⟨fun f => ?_, fun f => ?_, fun n g es => ?_, fun n b => ?_, fun f i e hu hp h0 h1 hl hc => ?_⟩⟩
  · exact exec_event (c := .mgmtOnHead k) rfl hr
  · exact exec_event (c := .ulWrongKind k kd) rfl hr
  · exact fromUpHead_classify_drops (.uplinkCrane k f) hr rfl
  · exact fromUpHead_classify_drops (.uplinkUser k f) hr rfl
  · exact fromUpHead_classify_drops (.meas k n g es) hr rfl
  · exact fromUpHead_classify_drops (.batch k n b) hr rfl
  · rw [exec_event (c := .uplinkCrane k f) rfl hr, fromUpHead_of_isUp hu,
      classify_of_listed hp (fun e => e.elim h0 h1) hl]
    refine congrArg _ ?_
    unfold craneListed
    cases hq : e.part with
    | crane c => simp [Term.isCrane, hq, ClassPart.cls] at hc
    | _ => rfl

end Sys2Proof.Machine
end

section
/-! PROOF. The samples of a report and the silence penalty (O28). -/

namespace Sys2Proof.Machine
open Sys2Proof Sys2Proof.Safety

/-! ## Counters -/

@[simp] theorem satAdd_zero (c : Counter) : satAdd c 0 = c := by
  unfold satAdd
  rw [Nat.add_zero, Nat.min_eq_left (by have := c.isLt; omega), BitVec.ofNat_toNat, BitVec.setWidth_eq]

theorem toNat_satAdd (c : Counter) (n : Nat) : (satAdd c n).toNat = min (c.toNat + n) 4294967295 := by
  rw [satAdd, BitVec.toNat_ofNat, Nat.mod_eq_of_lt (by omega)]

theorem satAdd_satAdd (c : Counter) (m n : Nat) : satAdd (satAdd c m) n = satAdd c (m + n) := by
  apply BitVec.eq_of_toNat_eq
  rw [toNat_satAdd, toNat_satAdd, toNat_satAdd]
  omega

/-! ## Cells -/

theorem HeadRecord.covers_iff {r : HeadRecord} {g : SegIx} :
    r.covers g = true ↔ r.winFirst ≤ g.val ∧ g.val ≤ r.winLast := by
  simp [HeadRecord.covers]

section
variable (s : State) (h : HeadIx) (g : SegIx)

theorem State.modCell_modCell (e f : Cell → Cell) : (s.modCell h g e).modCell h g f = s.modCell h g (f ∘ e) := by
  simp only [State.modCell, State.modCov, look_put_self, put_put, Function.comp]

theorem State.modCell_eq_self {f : Cell → Cell} (hf : f (s.cell h g) = s.cell h g) : s.modCell h g f = s := by
  have hc : f (look (look s.cov.cells h) g) = look (look s.cov.cells h) g := hf
  simp only [State.modCell, State.modCov, hc, put_look]

theorem State.modCell_congr {e f : Cell → Cell} (he : e (s.cell h g) = f (s.cell h g)) :
    s.modCell h g e = s.modCell h g f := by
  have hc : e (look (look s.cov.cells h) g) = f (look (look s.cov.cells h) g) := he
  simp only [State.modCell, State.modCov, hc]

theorem State.cell_modCell_self (f : Cell → Cell) : (s.modCell h g f).cell h g = f (s.cell h g) := by
  rw [State.cell_modCell, if_pos ⟨rfl, rfl⟩]

theorem State.cell_modCell_of_ne {j : HeadIx} {e : SegIx} (f : Cell → Cell) (hj : (j, e) ≠ (h, g)) :
    (s.modCell h g f).cell j e = s.cell j e := by
  rw [State.cell_modCell, if_neg]
  rintro ⟨rfl, rfl⟩
  exact hj rfl

/-! ## One sample -/

/-- R98, R99: a usable entry enters its cell, or is counted. -/
theorem sampleEntry_eq (q : Int) : sampleEntry g s (h, q) =
    if ¬ ((s.head h).record.winFirst ≤ g.val ∧ g.val ≤ (s.head h).record.winLast) then
      s.countCov fun c => { c with outOfWindow := inc c.outOfWindow }
    else if (s.cell h g).count < 65535 then
      (s.modCell h g (Cell.add q)).countCov fun c => { c with samplesAdmitted := inc c.samplesAdmitted }
    else s.countCov fun c => { c with countFull := inc c.countFull } := by
  unfold sampleEntry admitSample
  by_cases hc : (s.head h).record.covers g = true
  · rw [if_pos hc, if_neg (not_not.mpr (HeadRecord.covers_iff.mp hc))]
    rfl
  · rw [if_neg hc, if_pos (mt HeadRecord.covers_iff.mpr hc)]

/-! ## The penalty -/

/-- A cell with w penalty samples. -/
def Cell.penalised (w : Nat) (c : Cell) : Cell := { c with sum := c.sum - 80 * w, count := c.count + w }

theorem Cell.penalised_add (w : Nat) (c : Cell) : (c.add (-80)).penalised w = c.penalised (w + 1) := by
  simp only [Cell.penalised, Cell.add, Cell.mk.injEq, and_true]
  constructor <;> push_cast <;> omega

/-- R101: of n penalty samples, as many as the cell has room for enter it, and the others are counted. -/
theorem penaltySamples_eq (n : Nat) : penaltySamples h g n s =
    (s.modCell h g (Cell.penalised (min n (65535 - (s.cell h g).count)))).countCov fun c =>
      { c with countFull := satAdd c.countFull (n - min n (65535 - (s.cell h g).count)) } := by
  induction n generalizing s with
  | zero =>
    rw [Nat.zero_min, State.modCell_eq_self s h g (f := Cell.penalised 0) (by simp [Cell.penalised])]
    simp [penaltySamples, State.countCov, State.modCov]
  | succ n ih =>
    by_cases hc : (s.cell h g).count < 65535
    · have hcell : ((s.modCell h g (Cell.add (-80))).cell h g).count = (s.cell h g).count + 1 := by
        rw [State.cell_modCell, if_pos ⟨rfl, rfl⟩]
        rfl
      have hmin : min (n + 1) (65535 - (s.cell h g).count) = min n (65535 - ((s.cell h g).count + 1)) + 1 := by omega
      have hfirst : admitSample false h g (-80) s = s.modCell h g (Cell.add (-80)) := if_pos hc
      rw [penaltySamples, hfirst, ih, hcell, State.modCell_modCell, hmin, Nat.add_sub_add_right]
      congr 1
      exact State.modCell_congr _ _ _ (Cell.penalised_add _ _)
    · have hw : ∀ m, min m (65535 - (s.cell h g).count) = 0 := fun m => by omega
      have hfirst : admitSample false h g (-80) s = s.countCov fun c => { c with countFull := inc c.countFull } := if_neg hc
      have hcell : (s.countCov fun c => { c with countFull := inc c.countFull }).cell h g = s.cell h g := rfl
      have hnone : ∀ u : State, u.modCell h g (Cell.penalised 0) = u := fun u =>
        State.modCell_eq_self u h g (by simp [Cell.penalised])
      rw [penaltySamples, hfirst, ih, hcell, hw, hw, hnone, hnone]
      simp only [State.countCov, State.modCov, inc, satAdd_satAdd, Nat.sub_zero, Nat.add_comm 1 n]

variable {s} {i : SlotIx} {e : Term}

theorem isSilentGateway_iff {p : ClassPart} : p.isSilentGateway = true ↔ ∃ b n, p = .gateway (.silent b) n := by
  rcases p with _ | _ | ⟨st, n⟩ | _
  · simp [ClassPart.isSilentGateway]
  · simp [ClassPart.isSilentGateway]
  · cases st <;> simp [ClassPart.isSilentGateway]
  · simp [ClassPart.isSilentGateway]

variable {h g}

/-- R101: a silent gateway with a serving head whose window contains its segment. -/
theorem penaltyEntry_of_covered (he : s.term i = some e) (hp : e.part.isSilentGateway = true)
    (hv : e.ho.serving = some h) (hg : e.segment = some g) (hc : (s.head h).record.covers g = true) :
    penaltyEntry s i =
      if (look s.segs g).cranes = 0 then
        (penaltySamples h g s.mgmt.params.penaltyWeight s).countCov fun c =>
          { c with penaltyApplied := inc c.penaltyApplied }
      else s.countCov fun c => { c with penaltySuppressed := inc c.penaltySuppressed } := by
  simp only [penaltyEntry, he, hp, hv, hg, hc, if_true]
  rfl

/-- R101: any other entry gives no penalty. -/
theorem penaltyEntry_of_not_covered (hn : ∀ e, s.term i = some e →
      (∀ b n, e.part ≠ .gateway (.silent b) n) ∨ e.ho.serving = none ∨ e.segment = none ∨
      ∃ k g, e.ho.serving = some k ∧ e.segment = some g ∧
        ¬ ((s.head k).record.winFirst ≤ g.val ∧ g.val ≤ (s.head k).record.winLast)) :
    penaltyEntry s i = s := by
  unfold penaltyEntry
  cases he : s.term i with
  | none => rfl
  | some e =>
    by_cases hp : e.part.isSilentGateway = true
    · dsimp only
      rw [if_pos hp]
      rcases hn e he with h | h | h | ⟨k, g, hk, hg, hw⟩
      · obtain ⟨b, n, hb⟩ := isSilentGateway_iff.mp hp
        exact absurd hb (h b n)
      · rw [h]
      · cases hv : e.ho.serving <;> rw [h]
      · rw [hk, hg]
        exact if_neg (mt HeadRecord.covers_iff.mp hw)
    · exact if_neg hp

end

/-- Settles O28: an entry by the window and the cell's count, a report by its segment, and the penalty of one entry. -/
theorem samplesEnterLiveCells : Obligations.SamplesEnterLiveCells := by
  refine ⟨⟨fun s k g q => ?_, fun s i e u he => ?_⟩, fun s i => ⟨fun e b n k g he hp hv hg hf hl => ⟨fun hc => ?_, fun hc => ?_⟩,
    penaltyEntry_of_not_covered⟩⟩
  · intro c t live
    have ht : t = _ := sampleEntry_eq s k g q
    by_cases hw : live
    · rw [if_neg (not_not.mpr hw)] at ht
      by_cases hn : c.count < 65535
      · rw [if_pos hn] at ht
        rw [if_pos ⟨hw, hn⟩, if_neg (not_not.mpr hw), if_pos hn, ht]
        exact ⟨rfl, State.cell_modCell_self .., fun j f hj => State.cell_modCell_of_ne _ _ _ _ hj, rfl⟩
      · rw [if_neg hn] at ht
        rw [if_neg fun h => hn h.2, if_neg (not_not.mpr hw), if_neg hn, ht]
        exact ⟨rfl, rfl, fun _ _ _ => rfl, rfl⟩
    · rw [if_pos hw] at ht
      rw [if_neg fun h => hw h.1, if_pos hw, ht]
      exact ⟨rfl, rfl, fun _ _ _ => rfl, rfl⟩
  · simp only [reportSamples, he] <;> rfl
  · rw [penaltyEntry_of_covered he (isSilentGateway_iff.mpr ⟨b, n, hp⟩) hv hg (HeadRecord.covers_iff.mpr ⟨hf, hl⟩),
      if_neg (by omega)]
    rfl
  · intro c w
    rw [penaltyEntry_of_covered he (isSilentGateway_iff.mpr ⟨b, n, hp⟩) hv hg (HeadRecord.covers_iff.mpr ⟨hf, hl⟩),
      if_pos hc, penaltySamples_eq]
    exact ⟨rfl, State.cell_modCell_self .., fun j f hj => State.cell_modCell_of_ne _ _ _ _ hj, rfl⟩

end Sys2Proof.Machine
end

section
/-! PROOF. START, STOP and SOFT_RESET (O13, O14). -/

namespace Sys2Proof.Machine
open Sys2Proof Sys2Proof.Safety

/-! ## START -/

section
variable (s : State)

theorem startPart_eq : startPart s =
    { s with
      part := .running, heads := (startPart s).heads, terms := (startPart s).terms
      cov := { s.cov with deadline := some (s.uptime + s.mgmt.params.coveragePeriod * 1000) }
      reef := { s.reef with table := (startPart s).reef.table }
      exp := { s.exp with
        deadline := (startPart s).exp.deadline, expired := (startPart s).exp.expired, request := (startPart s).exp.request }
      trunk := { s.trunk with
        exportTurn := if s.exp.request = true ∧ (startPart s).exp.request = false then 0 else s.trunk.exportTurn } } := by
  unfold startPart
  rw [judgeRequest_eq, armFlush_eq]
  rfl

theorem startPart_deadline :
    (startPart s).exp.deadline = s.exp.list.head?.map fun p => p.join + s.mgmt.params.flushInterval := by
  unfold startPart
  rw [judgeRequest_deadline, armFlush_deadline]
  exact if_pos rfl

theorem startPart_expired_iff : (startPart s).exp.expired = true ↔
    ∃ p, s.exp.list.head? = some p ∧ p.join + s.mgmt.params.flushInterval ≤ s.uptime := by
  unfold startPart
  rw [judgeRequest_eq, armFlush_eq]
  dsimp only [State.flushAt]
  cases s.exp.list.head? <;> simp

theorem startPart_request_iff : (startPart s).exp.request = true ↔
    s.exp.list ≠ [] ∧ (s.mgmt.params.batchLimit ≤ s.exp.list.length ∨ (startPart s).exp.expired = true) := by
  unfold startPart
  rw [judgeRequest_eq]
  dsimp only
  rw [requestStands_iff, armFlush_eq]
  exact ⟨fun h => h.2, fun h => ⟨rfl, h⟩⟩

theorem headStarted_eq (d : Head) : headStarted d =
    match d.loopTest with
    | some e =>
      if e.held then { d with loopTest := some { e with held := false }, ctlQ := d.ctlQ ++ [.loopTest e.pattern] } else d
    | none => d := by
  unfold headStarted
  cases d.loopTest <;> rfl

theorem termStarted_eq (n : Nat) (e : Term) : termStarted n e =
    match e.part with
    | .gateway (.reporting b _) k => { e with part := .gateway (.reporting b (some n)) k }
    | _ => e := by
  unfold termStarted
  rcases e.part with _ | _ | ⟨_ | _ | _, _⟩ | _ <;> rfl

theorem reeferStarted_eq (n : Nat) (r : Reefer) : reeferStarted n r =
    if r.state = .active ∨ r.state = .alarm then { r with silence := some n } else r := by
  unfold reeferStarted
  by_cases h : isHeard r.state = true
  · rw [if_pos h, if_pos (isHeard_iff.mp h)]
  · rw [if_neg h, if_neg (mt isHeard_iff.mpr h)]

end

/-! ## STOP -/

theorem stopPart_eq (s : State) : stopPart s =
    { s with
      part := .standby, heads := (stopPart s).heads, terms := (stopPart s).terms, loops := (stopPart s).loops
      trunk := { s.trunk with craneQ := [], normalQ := [], overrun := false, exportTurn := 0 }
      cov := { s.cov with cells := (stopPart s).cov.cells, deadline := none }
      reef := { s.reef with table := (stopPart s).reef.table }
      exp := { s.exp with deadline := none, expired := false, request := false } } := by
  simp [stopPart, trunkStopped]

theorem stopPart_cell (s : State) (k : HeadIx) (g : SegIx) :
    (stopPart s).cell k g = { s.cell k g with sum := 0, count := 0 } := by
  simp [stopPart, State.cell, Cell.zeroed]

theorem termStopped_eq (e : Term) : termStopped e =
    { e with
      ho := .orphan, probe := 0, holdoff := 0, stray := 0, lsq := none
      part := match e.part with
        | .crane c =>
          .crane { link := if c.link = .dormant then .dormant else .unheard, valid := false, highest := 0, history := 0 }
        | .gateway (.reporting b _) n => .gateway (.reporting b none) n
        | p => p } := by
  unfold termStopped
  congr 1
  rcases e.part with ⟨_ | _ | _ | _, _, _, _⟩ | _ | ⟨_ | _ | _, _⟩ | _ <;> rfl

/-! ## SOFT_RESET -/

theorem softResetPart_eq (s : State) : softResetPart s =
    { s with
      part := .standby, heads := (softResetPart s).heads, terms := (softResetPart s).terms
      loops := (softResetPart s).loops, segs := (softResetPart s).segs
      trunk := { s.trunk with
        craneQ := [], noticeQ := [], replyQ := [], normalQ := [], overrun := false, exportTurn := 0 }
      cov := { s.cov with cells := (softResetPart s).cov.cells, deadline := none, index := 0 }
      reef := { s.reef with table := (softResetPart s).reef.table, tableFull := false, purge := none }
      exp := { s.exp with list := [], deadline := none, expired := false, request := false } } := by
  simp [softResetPart, trunkStopped]

theorem softResetPart_cell (s : State) (k : HeadIx) (g : SegIx) :
    (softResetPart s).cell k g = { sum := 0, count := 0, avg := none, state := .none } := by
  simp [softResetPart, State.cell, clearedMap, Cell.cleared]

theorem termSoftReset_eq (e : Term) : termSoftReset e =
    { e with
      ho := .orphan, probe := 0, holdoff := 0, stray := 0, lsq := none, segment := none
      part := match e.part with
        | .crane c =>
          .crane { link := if c.link = .dormant then .dormant else .unheard, valid := false, highest := 0, history := 0 }
        | .gateway _ n => .gateway .unheard n
        | p => p } := by
  unfold termSoftReset
  congr 1
  rcases e.part with ⟨_ | _ | _ | _, _, _, _⟩ | _ | _ | _ <;> rfl

theorem reeferSoftReset_eq (r : Reefer) : reeferSoftReset r =
    { r with
      state := if r.state = .unplugged then .unplugged else .unheard
      outRun := 0, inRun := 0, silence := none, pending := false } := by
  unfold reeferSoftReset
  congr 1
  cases r.state <;> rfl

/-! ## The requests -/

/-- Settles O13: START and STOP, each in the part state it acts in and in the other. -/
theorem startAndStopChangeThePartState : Obligations.StartAndStopChangeThePartState := by
  refine ⟨fun s h ha => ?_, fun s h ha => ?_⟩
  · refine ⟨if (asked s h).running then asked s h else startPart (asked s h),
      (exec_accepted rfl ha).trans (congrArg _ (answer_asker ..)), fun hp => ?_, fun hp => ?_⟩
    · exact if_pos ((State.running_iff _).mpr hp)
    · have hf : ¬ (asked s h).running = true := by
        rw [Bool.not_eq_true]
        exact (State.standby_iff _).mpr hp
      rw [if_neg hf]
      refine ⟨startPart_eq _, fun k => ?_, fun i => ?_, fun i => ?_, startPart_deadline _, startPart_expired_iff _,
        startPart_request_iff _⟩
      · exact (startPart_head _ k).trans (headStarted_eq _)
      · exact (startPart_term _ i).trans (congrArg (fun f => (s.term i).map f) (funext fun e => termStarted_eq _ e))
      · exact (startPart_reefer _ i).trans (congrArg (fun f => (s.reefer i).map f) (funext fun r => reeferStarted_eq _ r))
  · refine ⟨if (asked s h).running then stopPart (asked s h) else asked s h,
      (exec_accepted rfl ha).trans (congrArg _ (answer_asker ..)), fun hp => ?_, fun hp => ?_⟩
    · refine if_neg ?_
      rw [Bool.not_eq_true]
      exact (State.standby_iff _).mpr hp
    · have hrun : (asked s h).running = true := (State.running_iff _).mpr hp
      rw [if_pos hrun]
      refine ⟨stopPart_eq _, fun k => stopPart_head _ k, fun i => ?_, fun k g => stopPart_cell _ k g,
        fun k => stopPart_loop _ k, fun i => stopPart_reefer _ i⟩
      exact (stopPart_term _ i).trans (congrArg (fun f => (s.term i).map f) (funext termStopped_eq))

/-- Settles O14. -/
theorem softResetSetsBlocksBack : Obligations.SoftResetSetsBlocksBack := by
  refine fun s h ha => ⟨softResetPart (asked s h), (exec_accepted rfl ha).trans (congrArg _ (answer_asker ..)),
    softResetPart_eq _, fun k => softResetPart_head _ k, fun i => ?_, fun g => ?_, fun k g => softResetPart_cell _ k g,
    fun k => softResetPart_loop _ k, fun i => ?_⟩
  · exact (softResetPart_term _ i).trans (congrArg (fun f => (s.term i).map f) (funext termSoftReset_eq))
  · exact look_replicate _ _
  · exact (softResetPart_reefer _ i).trans (congrArg (fun f => (s.reefer i).map f) (funext reeferSoftReset_eq))

end Sys2Proof.Machine
end

section
/-! PROOF. The guard (O26), the link events and expiries of a head (O22), and loop tests (O23). -/

namespace Sys2Proof.Machine
open Sys2Proof Sys2Proof.Safety

/-! ## The guard -/

section
variable (s : State) (k : HeadIx)

theorem guardEval_eq (noise : Byte) : guardEval k noise s =
    if (s.loop k).guarded then
      if (s.head k).record.guardLimit = 0 then leaveGuarded k 3 s
      else if (s.head k).record.autoRestore = false ∨ (s.head k).record.guardLimit < noise.toNat then setRun k 0 s
      else if (s.head k).record.guardCount ≤ (s.loop k).run + 1 then leaveGuarded k 1 s
      else setRun k ((s.loop k).run + 1) s
    else if (s.head k).record.guardLimit = 0 ∨ noise.toNat ≤ (s.head k).record.guardLimit then setRun k 0 s
    else if (s.head k).record.guardCount ≤ (s.loop k).run + 1 then enterGuarded k noise s
    else setRun k ((s.loop k).run + 1) s := by
  unfold guardEval
  cases hg : (s.loop k).guarded with
  | true =>
    by_cases hz : (s.head k).record.guardLimit = 0
    · simp [hg, hz]
    · by_cases hn : (s.head k).record.guardLimit < noise.toNat <;>
        cases ha : (s.head k).record.autoRestore <;> simp [hg, hz, hn, ha]
  | false =>
    by_cases hz : (s.head k).record.guardLimit = 0
    · simp [hg, hz]
    · by_cases hn : (s.head k).record.guardLimit < noise.toNat
      · simp [hg, hz, hn, Nat.not_le.mpr hn]
      · simp [hg, hz, hn, Nat.not_lt.mp hn]

theorem setWidth_eq_ofNat_toNat (b : Byte) : b.setWidth 16 = BitVec.ofNat 16 b.toNat := by
  apply BitVec.eq_of_toNat_eq
  rw [BitVec.toNat_setWidth, BitVec.toNat_ofNat]

theorem ctlAdmits_setpoint_iff (v : Nat) : s.ctlAdmits k (.setpoint v) = true ↔
    s.headOpen k = true ∧ ((s.head k).ctlQ.any CtlFrame.isSetpoint = true ∨ (s.head k).ctlQ.length < 8) := by
  have hv : (CtlFrame.setpoint v).isSetpoint = true := rfl
  simp only [State.ctlAdmits, hv, Bool.true_and, Bool.and_eq_true, Bool.or_eq_true, decide_eq_true_eq]

/-- A SETPOINT offered is the last setpoint, absent if refused. -/
theorem offerSetpoint_eq (v : Nat) : offerSetpoint k v s =
    { offerCtl k (.setpoint v) s with
      loops := put s.loops k
        { s.loop k with
          lastSet :=
            if s.headOpen k = true ∧ ((s.head k).ctlQ.any CtlFrame.isSetpoint = true ∨ (s.head k).ctlQ.length < 8) then
              some v
            else none } } := by
  unfold offerSetpoint State.modLoop
  rw [offerCtl_loops]
  by_cases hv : s.ctlAdmits k (.setpoint v) = true
  · rw [if_pos hv, if_pos ((ctlAdmits_setpoint_iff s k v).mp hv)]
    rfl
  · rw [if_neg hv, if_neg (mt (ctlAdmits_setpoint_iff s k v).mpr hv)]
    rfl

end

/-- Settles O26: the run, the entry, the exit, the SETPOINT offered, and the request. -/
theorem guardEntersLeavesAndReleases : Obligations.GuardEntersLeavesAndReleases := by
  refine ⟨fun s k noise => guardEval_eq s k noise, fun s k noise => ?_, fun s k cause => rfl,
    fun s k v => offerSetpoint_eq s k v, fun s h p ha => (exec_accepted rfl ha).trans (congrArg _ ?_)⟩
  · rw [setWidth_eq_ofNat_toNat] <;> rfl
  · cases p with
    | none => simp only [guardReleaseBody, settled, answer_asker] <;> rfl
    | some b =>
      cases hb : ix? 12 b.toNat <;> simp only [guardReleaseBody, settled, answer_asker, asked_loop, hb] <;> rfl

/-! ## Link events and expiries -/

section
variable {s : State} {k : HeadIx}

theorem exists_due_iff {d : Option Nat} {now : Nat} : (∃ t ∈ d, t ≤ now) ↔ due d now = true := due_iff.symm

/-- A link-down by the link state (R25, R34). -/
theorem linkDown_eq (s : State) (k : HeadIx) : linkDown k s =
    match (s.head k).link with
    | .up _ => goOffline k 1 s
    | .restarting r => if r.kind = .warm ∧ r.blankEnd = none then goOffline k 3 s else s
    | _ => s := by
  unfold linkDown
  cases (s.head k).link with
  | restarting r => rcases r with ⟨_ | _, p, _ | b, d⟩ <;> rfl
  | _ => rfl

theorem pulseEnds_eq (s : State) (k : HeadIx) : pulseEnds k s =
    match (s.head k).link with
    | .restarting r =>
      if ∃ d ∈ r.pulseEnd, d ≤ s.uptime then
        setHead s k { s.head k with link := .restarting { r with pulseEnd := none } }
      else s
    | _ => s := by
  unfold pulseEnds
  cases (s.head k).link with
  | restarting r => simp only [exists_due_iff]; rfl
  | _ => rfl

theorem blankingEnds_eq (s : State) (k : HeadIx) : blankingEnds k s =
    match (s.head k).link with
    | .restarting r =>
      if ∃ d ∈ r.blankEnd, d ≤ s.uptime then
        if (s.head k).ethUp then
          setHead s k { s.head k with link := .restarting { r with blankEnd := none } }
        else goOffline k 3 s
      else s
    | _ => s := by
  unfold blankingEnds
  cases (s.head k).link with
  | restarting r => simp only [exists_due_iff]; rfl
  | _ => rfl

theorem restartExpiry_eq (s : State) (k : HeadIx) : restartExpiry k s =
    match (s.head k).link with
    | .restarting r =>
      if r.deadline ≤ s.uptime then
        headGone k .offline false (raise .headRestartFailed k.val (match r.kind with | .cold => 1 | .warm => 2) s)
      else s
    | _ => s := by
  unfold restartExpiry
  cases (s.head k).link with
  | restarting r => cases hk : r.kind <;> simp only [hk] <;> rfl
  | _ => rfl

end

/-- Settles O22. -/
theorem linkEventsAndHeadExpiriesActByState : Obligations.LinkEventsAndHeadExpiriesActByState := by
  refine ⟨⟨fun s k => rfl, fun s k => ?_, fun s k cause => rfl, fun s => rfl, fun s => rfl⟩,
    fun s k hr => ⟨?_, ?_, ?_, ?_⟩⟩
  · intro m
    have hm : (setEth k false s).modHead k (fun d => { d with tx := none }) = m := State.modHead_modHead ..
    show Host.Outcome.next (outsideReset (linkDown k) _) = _
    rw [hm]
    refine congrArg _ ?_
    by_cases hr : s.inReset = true
    · rw [if_pos hr]
      exact if_pos hr
    · rw [if_neg hr]
      refine (if_neg hr).trans ?_
      have hl : (m.head k).link = (s.head k).link := by
        rw [show m.head k = _ from look_put_self ..]
      rw [linkDown_eq, hl] <;> rfl
  · refine (exec_event (c := .headSilenceExpiry k) rfl hr).trans (congrArg _ ?_)
    unfold silenceExpiry
    cases (s.head k).link <;> rfl
  · refine (exec_event (c := .pulseEnd k) rfl hr).trans (congrArg _ ((pulseEnds_eq s k).trans ?_))
    cases (s.head k).link <;> rfl
  · refine (exec_event (c := .blankingEnd k) rfl hr).trans (congrArg _ ((blankingEnds_eq s k).trans ?_))
    cases (s.head k).link <;> rfl
  · refine (exec_event (c := .restartDeadlineExpiry k) rfl hr).trans (congrArg _ ((restartExpiry_eq s k).trans ?_))
    cases (s.head k).link <;> rfl

/-! ## Loop tests -/

theorem zip_toList_eq {α β : Type} {n : Nat} (v : Vector α n) (w : Vector β n) :
    List.zip v.toList w.toList = (List.finRange n).map fun i => (v[i], w[i]) := by
  apply List.ext_getElem
  · simp
  · intro i h₁ h₂
    simp

theorem mismatches_eq (p b : Vector Byte 16) :
    mismatches p b = (List.finRange 16).countP fun i => decide (b[i] ≠ ~~~p[i]) := by
  unfold mismatches
  rw [zip_toList_eq, List.countP_map]
  rfl

theorem echoResult_eq (p b : Vector Byte 16) :
    echoResult p b = if mismatches p b = 0 then .pass else .fail (mismatches p b) := by
  unfold echoResult
  cases mismatches p b <;> rfl

theorem endLoopTest_of_test {s : State} {k : HeadIx} {e : LoopTest} (he : (s.head k).loopTest = some e)
    (res : LoopResult) : endLoopTest k res s =
    (let d := { s.head k with loopTest := none, ctlQ := (s.head k).ctlQ.filter fun c => !c.isLoopTest }
     if e.replies = false then setHead s k d
     else if s.trunk.replyQ.length < 8 then
      { s with
        heads := put s.heads k d
        trunk := { s.trunk with
          replyQ := s.trunk.replyQ ++ [{ code := 14, tag := e.tag, status := .done, data := .loopTest res }] } }
     else setHead s k { d with cnt := { d.cnt with replyLost := inc d.cnt.replyLost } }) := by
  unfold endLoopTest offerLoopReply
  rw [he]
  dsimp only
  cases e.replies with
  | false => rfl
  | true =>
    rw [if_pos rfl, if_neg Bool.true_eq_false.mp, State.modHead_trunk]
    refine ite_congr rfl (fun _ => rfl) fun _ => ?_
    exact State.modHead_modHead ..

/-- A test starts: its frame is queued in RUNNING and held in STANDBY (R36). -/
theorem startLoopTest_eq (k : HeadIx) (pattern : Vector Byte 16) (a : Asker) (s : State) : startLoopTest k pattern a s =
    setHead s k { s.head k with
      loopTest := some
        { pattern, deadline := s.uptime + 50, tag := a.tag, replies := a.own, held := decide (s.part = .standby) }
      ctlQ := if s.part = .running then (s.head k).ctlQ ++ [.loopTest pattern] else (s.head k).ctlQ } := by
  unfold startLoopTest State.running
  cases s.part <;> rfl

/-- Settles O23. -/
theorem loopTestsStartAndEnd : Obligations.LoopTestsStartAndEnd := by
  refine ⟨fun s h p ha => (exec_accepted rfl ha).trans (congrArg _ ?_), fun s k bytes hr => ?_, fun s k hr => ?_,
    fun s k e res he => endLoopTest_of_test he res⟩
  · cases p with
    | none => simp only [headLooptestBody, settled, answer_asker] <;> rfl
    | some q =>
      cases hk : ix? 12 q.head.toNat with
      | none => simp only [headLooptestBody, settled, answer_asker, hk] <;> rfl
      | some k =>
        simp only [headLooptestBody, settled, answer_asker, hk, State.isUp, asked_head, State.running_iff, asked_part]
        refine ite_congr rfl (fun _ => rfl) fun _ => ite_congr rfl (fun _ => rfl) fun _ => ite_congr rfl (fun _ => rfl)
          fun _ => startLoopTest_eq ..
  · refine (exec_event rfl hr).trans (congrArg _ ?_)
    unfold echoFrame
    refine ite_congr rfl (fun _ => ?_) fun _ => rfl
    cases he : (s.head k).loopTest with
    | none => rfl
    | some e =>
      dsimp only
      rw [echoResult_eq, mismatches_eq]
  · refine (exec_event rfl hr).trans (congrArg _ ?_)
    unfold loopTestExpiry
    cases (s.head k).loopTest <;> simp

end Sys2Proof.Machine
end

section
/-! PROOF. The requests of the Reefer Report Unit (O43). -/

namespace Sys2Proof.Machine
open Sys2Proof Sys2Proof.Safety

theorem clampNat_eq_max_min {lo hi : Nat} (h : lo ≤ hi) (x : Nat) : clampNat lo hi x = max lo (min hi x) := by
  unfold clampNat
  split
  · omega
  · split <;> omega

/-- Table 8-5: a band class within its ranges. -/
theorem clampBand_eq (q : BandP) : clampBand q =
    { lower := max 1 (min 200 q.lower.toNat), upper := max 1 (min 200 q.upper.toNat)
      persistence := max 1 (min 8 q.persistence.toNat), deadband := max 1 (min 50 q.deadband.toNat)
      refresh := max 1 (min 240 q.refresh.toNat) } := by
  simp only [clampBand, clampNat_eq_max_min (show 1 ≤ 200 by decide), clampNat_eq_max_min (show 1 ≤ 8 by decide),
    clampNat_eq_max_min (show 1 ≤ 50 by decide), clampNat_eq_max_min (show 1 ≤ 240 by decide)]

theorem bandClamped_iff {q : BandP} {b : Band} : bandClamped q b = false ↔
    b.lower = q.lower.toNat ∧ b.upper = q.upper.toNat ∧ b.persistence = q.persistence.toNat ∧
      b.deadband = q.deadband.toNat ∧ b.refresh = q.refresh.toNat := by
  simp [bandClamped, and_assoc]

theorem isPurgeable_iff {st : ReeferState} : isPurgeable st = false ↔ st = .active ∨ st = .alarm := by
  cases st <;> simp [isPurgeable]

theorem ofNat_eq_zero_iff {n : Nat} {v : BitVec n} : v.toNat = 0 ↔ v = 0 :=
  ⟨fun h => BitVec.eq_of_toNat_eq (by simpa using h), fun h => by simp [h]⟩

/-! ## Selectors -/

/-- The checks of REEFER_REMOVE and REEFER_READ, in order (R140). -/
theorem pickReefer_eq (s : State) (p : Option ReeferSelP) : pickReefer p s =
    match p with
    | none => .refused .badParam
    | some ⟨none, _⟩ => .refused .badParam
    | some ⟨some .tag, v⟩ =>
      if v = 0 ∨ 1048575 < v.toNat then .refused .badParam
      else if s.reef.purge.isSome then .refused .busy
      else
        match s.findTag v.toNat with
        | some (i, r) => .entry i r
        | none => .refused .notFound
    | some ⟨some .index, v⟩ =>
      match ix? 2048 v.toNat with
      | none => .refused .badParam
      | some i =>
        if s.reef.purge.isSome then .refused .busy
        else
          match s.reefer i with
          | some r => .entry i r
          | none => .refused .notFound := by
  rcases p with _ | ⟨_ | _ | _, v⟩
  · rfl
  · rfl
  · simp only [pickReefer, ofNat_eq_zero_iff] <;> rfl
  · rfl

theorem State.findTag_eq_none {s : State} {tag : Nat} :
    s.findTag tag = none ↔ ∀ i r, s.reefer i = some r → r.tag ≠ tag := by
  constructor
  · intro h i r hr he
    unfold State.findTag at h
    split at h
    next j hj =>
      obtain ⟨q, hq⟩ : ∃ q, s.reefer j = some q := by
        have := findIx_some hj
        exact Option.isSome_iff_exists.mp (by
          unfold State.reefer
          cases hl : look s.reef.table j with
          | none => simp [hl] at this
          | some q => rfl)
      simp [hq] at h
    next hn =>
      have := findIx_none hn i
      rw [show look s.reef.table i = some r from hr] at this
      simp [he] at this
  · intro h
    cases hf : s.findTag tag with
    | none => rfl
    | some p =>
      obtain ⟨i, r⟩ := p
      obtain ⟨hr, ht⟩ := State.findTag_eq_some hf
      exact absurd ht (h i r hr)

/-! ## The lowest free index -/

/-- The index found is the lowest that matches. -/
theorem findIx_below {α : Type} {n : Nat} {p : α → Bool} {v : Vector α n} {i : Fin n} (h : findIx p v = some i)
    {j : Fin n} (hj : j < i) : p (look v j) = false := by
  unfold findIx at h
  split at h
  next k hk =>
    split at h
    next hn =>
      cases h
      obtain ⟨_, _, below⟩ := List.findIdx?_eq_some_iff_getElem.mp hk
      simpa [look] using below j.val hj
    · cases h
  · cases h

theorem State.freeReeferIx_eq_none {s : State} : s.freeReeferIx = none ↔ ∀ i, s.reefer i ≠ none := by
  constructor
  · intro h i hi
    have := findIx_none h i
    simp [show look s.reef.table i = none from hi] at this
  · intro h
    cases hf : s.freeReeferIx with
    | none => rfl
    | some i => exact absurd (Machine.State.freeReeferIx_eq_some hf) (h i)

theorem State.freeReeferIx_eq_some_iff {s : State} {i : ReeferIx} :
    s.freeReeferIx = some i ↔ s.reefer i = none ∧ ∀ j, j < i → s.reefer j ≠ none := by
  constructor
  · intro h
    refine ⟨Machine.State.freeReeferIx_eq_some h, fun j hj hn => ?_⟩
    have := findIx_below h hj
    simp [show look s.reef.table j = none from hn] at this
  · rintro ⟨hi, hb⟩
    cases hf : s.freeReeferIx with
    | none => exact absurd hi (State.freeReeferIx_eq_none.mp hf i)
    | some j =>
      have hj := Machine.State.freeReeferIx_eq_some hf
      rcases lt_trichotomy i j with hlt | rfl | hlt
      · have := findIx_below hf hlt
        simp [show look s.reef.table i = none from hi] at this
      · rfl
      · exact absurd hj (hb j hlt)

/-! ## The requests -/

section
variable {s : State} {h : Hdr} (ha : Accepted s h)
include ha

theorem exec_reeferRegister (p : Option ReeferRegP) : exec (.reeferRegister h p) s = .next
    (match p with
      | none => settled (asked s h) h 18 .badParam
      | some q =>
        match ix? 4 q.cls.toNat with
        | none => settled (asked s h) h 18 .badParam
        | some c =>
          if q.tag = 0 ∨ 1048575 < q.tag.toNat then settled (asked s h) h 18 .badParam
          else if s.reef.purge.isSome then settled (asked s h) h 18 .busy
          else if (s.findTag q.tag.toNat).isSome then settled (asked s h) h 18 .duplicate
          else
            match s.freeReeferIx with
            | none => settled (asked s h) h 18 .full
            | some i =>
              told
                { asked s h with
                  reef := { s.reef with table := put s.reef.table i (some (newReefer q.tag.toNat c s.uptime)) } }
                h 18 .done (.reeferIndex i)) := by
  refine (exec_accepted rfl ha).trans (congrArg _ ?_)
  have htag : ∀ n, (asked s h).findTag n = s.findTag n := fun _ => rfl
  have hfree : (asked s h).freeReeferIx = s.freeReeferIx := rfl
  cases p with
  | none => simp only [reeferRegisterBody, settled, answer_asker] <;> rfl
  | some q =>
    cases hc : ix? 4 q.cls.toNat with
    | none => simp only [reeferRegisterBody, settled, answer_asker, hc] <;> rfl
    | some c =>
      simp only [reeferRegisterBody, settled, answer_asker, hc, ofNat_eq_zero_iff, asked_reef, htag, hfree]
      refine ite_congr rfl (fun _ => rfl) fun _ => ite_congr rfl (fun _ => rfl) fun _ => ite_congr rfl (fun _ => rfl)
        fun _ => ?_
      cases s.freeReeferIx <;> rfl

theorem exec_bandLoad (p : Option BandP) : exec (.bandLoad h p) s = .next
    (match p with
      | none => settled (asked s h) h 22 .badParam
      | some q =>
        match ix? 4 q.cls.toNat with
        | none => settled (asked s h) h 22 .badParam
        | some c =>
          if s.reef.purge.isSome then settled (asked s h) h 22 .busy
          else
            settled { asked s h with reef := { s.reef with bands := put s.reef.bands c (clampBand q) } } h 22
              (if (clampBand q).lower = q.lower.toNat ∧ (clampBand q).upper = q.upper.toNat ∧
                  (clampBand q).persistence = q.persistence.toNat ∧ (clampBand q).deadband = q.deadband.toNat ∧
                  (clampBand q).refresh = q.refresh.toNat then .done
                else .clamped)) := by
  refine (exec_accepted rfl ha).trans (congrArg _ ?_)
  cases p with
  | none => simp only [bandLoadBody, settled, answer_asker] <;> rfl
  | some q =>
    cases hc : ix? 4 q.cls.toNat with
    | none => simp only [bandLoadBody, settled, answer_asker, hc] <;> rfl
    | some c =>
      simp only [bandLoadBody, settled, answer_asker, hc]
      refine ite_congr rfl (fun _ => rfl) fun _ => ?_
      refine congrArg (fun st => told _ h 22 st .empty) ?_
      cases hb : bandClamped q (clampBand q) with
      | false => rw [if_neg Bool.false_ne_true, if_pos (bandClamped_iff.mp hb)]
      | true => rw [if_pos rfl, if_neg fun e => by simp [bandClamped_iff.mpr e] at hb]

theorem exec_reeferRemove (p : Option ReeferSelP) : exec (.reeferRemove h p) s = .next
    (match pickReefer p s with
      | .refused st => settled (asked s h) h 19 st
      | .entry i r => settled (freeReefer i r (asked s h)) h 19 .done) := by
  refine (exec_accepted rfl ha).trans (congrArg _ ?_)
  have hp : pickReefer p (asked s h) = pickReefer p s := by
    rw [pickReefer_eq, pickReefer_eq]
    rfl
  unfold reeferRemoveBody
  rw [hp]
  cases pickReefer p s <;> exact answer_asker ..

theorem exec_reeferPurge (p : Option PurgeP) : exec (.reeferPurge h p) s = .next
    (match p with
      | none => settled (asked s h) h 21 .badParam
      | some q =>
        match q.state with
        | none => settled (asked s h) h 21 .badParam
        | some st =>
          if st = .active ∨ st = .alarm then settled (asked s h) h 21 .badParam
          else if s.reef.purge.isSome then settled (asked s h) h 21 .busy
          else
            { asked s h with
              reef := { s.reef with
                purge := some
                  { state := st, minAge := q.minAge.toNat, next := 0, removed := 0, tag := h.tag
                    replies := decide (h.dest ≠ 255) } } }) := by
  refine (exec_accepted rfl ha).trans (congrArg _ ?_)
  cases p with
  | none => simp only [reeferPurgeBody, settled, answer_asker] <;> rfl
  | some q =>
    cases hq : q.state with
    | none => simp only [reeferPurgeBody, settled, answer_asker, hq] <;> rfl
    | some st => simp only [reeferPurgeBody, settled, answer_asker, hq, isPurgeable_iff] <;> rfl

end

/-- Settles O43. -/
theorem reeferRequestsCheckAndAct : Obligations.ReeferRequestsCheckAndAct := by
  refine ⟨fun s h ha => ⟨fun p => exec_reeferRegister ha p, fun p => (exec_bandLoad ha p).trans ?_,
    fun p => exec_reeferRemove ha p, fun p => exec_reeferPurge ha p⟩, fun s p => pickReefer_eq s p,
    fun s tag i r => State.findTag_eq_some, fun s tag => State.findTag_eq_none, fun s i => State.freeReeferIx_eq_some_iff,
    fun s => State.freeReeferIx_eq_none⟩
  simp only [clampBand_eq] <;> rfl

end Sys2Proof.Machine
end

section
/-! PROOF. Uplink data frames of listed terminals (O32), the head a frame came through (O36), and the close of a coverage
period (O29). -/

namespace Sys2Proof.Machine
open Sys2Proof Sys2Proof.Safety

/-! ## Uplink data frames -/

section
variable {s : State} {k : HeadIx} {f : BerthFrame} {i : SlotIx} {e : Term}

theorem craneListed_of_crane {c : CranePart} (he : e.part = .crane c) : craneListed k f i e s =
    (let w := windowStep c f.seq
     let m := craneActivity i k
      { s with
        terms := put s.terms i (some { e with part := .crane w.2 })
        crane := match w.1 with
          | .accept => { s.crane with accepted := inc s.crane.accepted }
          | .duplicate => { s.crane with duplicate := inc s.crane.duplicate }
          | .stale => { s.crane with stale := inc s.crane.stale } }
     if w.1 = .accept then
       offerTrunkCrane { f with flags := f.flags &&& 254, headIndex := BitVec.ofNat 8 k.val } (judgeHead i k m)
     else m) := by
  unfold craneListed
  rw [he]
  dsimp only
  cases hw : (windowStep c f.seq).1 with
  | accept => rw [if_pos rfl]; rfl
  | duplicate => rw [if_neg (by decide)]; rfl
  | stale => rw [if_neg (by decide)]; rfl

theorem userListed_eq (he : s.term i = some e) : userListed k f i e s =
    offerTrunkNormal { f with flags := f.flags &&& 254, headIndex := BitVec.ofNat 8 k.val }
      (judgeHead i k (if e.isCrane then craneActivity i k s else s)) := by
  unfold userListed
  cases hc : e.isCrane with
  | true => rfl
  | false => rw [craneActivity_of_not_crane he hc]; rfl

end

/-- Settles O32. -/
theorem uplinkFramesAreJudgedAndForwarded : Obligations.UplinkFramesAreJudgedAndForwarded := by
  refine ⟨fun s k f i e c hr hu hp h0 h1 hl hc => ?_, fun s k f i e hr hu hp h0 h1 hl => ?_⟩
  · intro w m
    rw [exec_event (c := .uplinkCrane k f) rfl hr, fromUpHead_of_isUp hu, classify_of_listed hp (fun e => e.elim h0 h1) hl]
    exact congrArg _ (craneListed_of_crane hc)
  · rw [exec_event (c := .uplinkUser k f) rfl hr, fromUpHead_of_isUp hu, classify_of_listed hp (fun e => e.elim h0 h1) hl,
      userListed_eq (State.lookup_eq_some hl).1]

/-! ## The head of a frame -/

theorem halves_eq (lo hi : Nat) : halves lo hi = BitVec.ofNat 8 hi ++ BitVec.ofNat 8 lo := by
  apply BitVec.eq_of_toNat_eq
  rw [halves, BitVec.toNat_append, BitVec.toNat_ofNat, BitVec.toNat_ofNat, BitVec.toNat_ofNat,
    ← Nat.shiftLeft_add_eq_or_of_lt (Nat.mod_lt _ (by decide)), Nat.shiftLeft_eq]
  omega

section
variable (s : State) (i : SlotIx) (k : HeadIx) (e : Term)

/-- R78, R79: a stray frame is counted, and at the limit re-anchors the entry. -/
theorem strayFrame_eq (v : HeadIx) : strayFrame i e k v s =
    if e.stray + 1 < s.mgmt.params.strayLimit then
      { s with terms := put s.terms i (some { e with stray := e.stray + 1 }) }
    else
      raise .reanchor e.number.toNat (BitVec.ofNat 8 v.val ++ BitVec.ofNat 8 k.val)
        { s with
          ho := { s.ho with reanchors := inc s.ho.reanchors }
          terms := put s.terms i (some
            { e with ho := .settled k, probe := 0, stray := 0, holdoff := s.mgmt.params.holdoff, lsq := none }) } := by
  unfold strayFrame State.params
  by_cases h : e.stray + 1 < s.mgmt.params.strayLimit
  · rw [if_neg (Nat.not_le.mpr h), if_pos h]
    rfl
  · rw [if_pos (Nat.not_lt.mp h), if_neg h, ← halves_eq]
    rfl

end

/-- Settles O36: by the handover state of the entry, and where the frame came through. -/
theorem framesAnchorStrayReanchorOrArrive : Obligations.FramesAnchorStrayReanchorOrArrive := by
  intro s i k e he
  rcases e with ⟨no, part, ho, probe, hold, st, g, q⟩
  intro moved served stray
  have hstray : ∀ v, strayFrame i ⟨no, part, ho, probe, hold, st, g, q⟩ k v s = stray v := strayFrame_eq s i k _
  unfold judgeHead
  rw [he]
  dsimp only
  cases ho with
  | orphan => rfl
  | settled v =>
    dsimp only
    rw [hstray]
    exact if_congr eq_comm rfl rfl
  | probing v c =>
    dsimp only
    rw [hstray]
    exact if_congr eq_comm rfl rfl
  | bicast v c d =>
    dsimp only
    rw [hstray]
    exact if_congr eq_comm rfl (if_congr eq_comm rfl rfl)

end Sys2Proof.Machine
end

section
/-! PROOF. The close of a coverage period (O29). -/

namespace Sys2Proof.Machine
open Sys2Proof Sys2Proof.Safety

section
variable (s : State)

theorem penaltyEntry_index (i : SlotIx) : (penaltyEntry s i).cov.index = s.cov.index := by
  by_cases hn : ∀ e, s.term i = some e →
      (∀ b n, e.part ≠ .gateway (.silent b) n) ∨ e.ho.serving = none ∨ e.segment = none ∨
      ∃ k g, e.ho.serving = some k ∧ e.segment = some g ∧
        ¬ ((s.head k).record.winFirst ≤ g.val ∧ g.val ≤ (s.head k).record.winLast)
  · rw [penaltyEntry_of_not_covered hn]
  · unfold penaltyEntry
    (repeat' split) <;> simp [penaltySamples_eq, State.modCell]

@[simp] theorem penalty_index : (penalty s).cov.index = s.cov.index := by
  unfold penalty
  split
  · exact foldl_keeps (fun s => s.cov.index) penaltyEntry penaltyEntry_index _ _
  · rfl

/-- The state of a close before the loops are offered the period index. -/
def State.closed (s : State) : State :=
  { penalty s with
    cov := { (penalty s).cov with
      cells := closeCells (penalty s), index := s.cov.index + 1
      deadline := some (s.uptime + s.mgmt.params.coveragePeriod * 1000)
      cnt := { (penalty s).cov.cnt with closes := inc (penalty s).cov.cnt.closes } } }

theorem coverageClose_eq_loopClose : coverageClose s = loopClose (s.cov.index + 1) s.closed := by
  unfold coverageClose
  dsimp only [State.params]
  rw [penalty_uptime, penalty_mgmt]
  simp only [State.modCov, penalty_index]
  rfl

theorem closed_cell (k : HeadIx) (g : SegIx) : s.closed.cell k g =
    (let c := (penalty s).cell k g
     if (s.head k).record.winFirst ≤ g.val ∧ g.val ≤ (s.head k).record.winLast then
       if s.mgmt.params.minSamples ≤ c.count then
         { sum := 0, count := 0, avg := some (roundDiv c.sum c.count), state := .fresh }
       else { sum := 0, count := 0, avg := c.avg, state := .sparse }
     else { c with sum := 0, count := 0 }) := by
  have hcell : s.closed.cell k g = look (look (closeCells (penalty s)) k) g := rfl
  rw [hcell, closeCells, look_tabulate, look_tabulate, State.head_congr (penalty_heads s)]
  dsimp only [State.params]
  rw [penalty_mgmt]
  by_cases hw : (s.head k).record.winFirst ≤ g.val ∧ g.val ≤ (s.head k).record.winLast
  · rw [if_pos (HeadRecord.covers_iff.mpr hw), if_pos hw]
    unfold Cell.averaged
    split <;> rfl
  · rw [if_neg (mt HeadRecord.covers_iff.mp hw), if_neg hw]
    rfl

theorem updateIfLinked_eq (k : HeadIx) : updateIfLinked s k =
    match (s.head k).link with
    | .up _ => loopUpdate k s
    | .restarting _ => loopUpdate k s
    | _ => s := by
  unfold updateIfLinked
  cases (s.head k).link <;> rfl

end

/-- Settles O29: whether the deadline is due, the cells averaged and advanced, and the loops updated. -/
theorem coverageCloseAveragesAndAdvances : Obligations.CoverageCloseAveragesAndAdvances := by
  refine ⟨fun s hr => (exec_event rfl hr).trans (congrArg _ ?_), fun s => ?_⟩
  · unfold coverageExpiry
    exact if_congr due_iff rfl rfl
  · intro p t
    have hloop : updateIfLinked = fun (x : State) (k : HeadIx) =>
        match (x.head k).link with
        | .up _ => loopUpdate k x
        | .restarting _ => loopUpdate k x
        | _ => x := funext fun x => funext fun k => updateIfLinked_eq x k
    refine ⟨s.closed, ?_, rfl, closed_cell s⟩
    have ht : t = _ := coverageClose_eq_loopClose s
    rw [ht, loopClose, hloop, show s.closed.params = s.mgmt.params from congrArg Mgmt.params (penalty_mgmt s)] <;> rfl

end Sys2Proof.Machine
end

section
/-! PROOF. The departure of a head (O37): the entries, the counts and the notices, slot by slot. -/

namespace Sys2Proof.Machine
open Sys2Proof Sys2Proof.Safety

/-! ## Notices raised one after the other -/

/-- A notice to be raised of a terminal: its kind, its terminal number and its detail. -/
abbrev TermNotice := NoticeKind × TermNo × BitVec 16

def raiseAll (l : List TermNotice) (s : State) : State := l.foldl (fun x n => raise n.1 n.2.1.toNat n.2.2 x) s

/-- A state with another Terminal Table and other handover counters. -/
def State.withTable (ts : Vector (Option Term) 256) (c : HandoverCounters) (s : State) : State :=
  { s with terms := ts, ho := c }

section
variable (s : State) (ts : Vector (Option Term) 256) (c : HandoverCounters)

@[simp] theorem withTable_terms : (s.withTable ts c).terms = ts := rfl
@[simp] theorem withTable_ho : (s.withTable ts c).ho = c := rfl
@[simp] theorem withTable_trunk : (s.withTable ts c).trunk = s.trunk := rfl
@[simp] theorem withTable_mgmt : (s.withTable ts c).mgmt = s.mgmt := rfl

end

section
variable (s : State) (k : NoticeKind) (u : Nat) (d : BitVec 16)

theorem raise_withTable (ts : Vector (Option Term) 256) (c : HandoverCounters) :
    raise k u d (s.withTable ts c) = (raise k u d s).withTable ts c := by
  have hmask : (s.withTable ts c).mgmt.mask = s.mgmt.mask := rfl
  cases hm : s.mgmt.mask.getLsbD k.bit with
  | false =>
    rw [raise_mgmt_of_masked hm, raise_mgmt_of_masked (hmask ▸ hm)]
    rfl
  | true =>
    rw [raise_of_unmasked hm, raise_of_unmasked (hmask ▸ hm)]
    rfl

theorem raiseAll_withTable (l : List TermNotice) (ts : Vector (Option Term) 256) (c : HandoverCounters) :
    raiseAll l (s.withTable ts c) = (raiseAll l s).withTable ts c := by
  induction l generalizing s with
  | nil => rfl
  | cons n l ih =>
    show raiseAll l (raise _ _ _ _) = (raiseAll l (raise _ _ _ s)).withTable ts c
    rw [raise_withTable, ih]

theorem raiseAll_append (l m : List TermNotice) : raiseAll (l ++ m) s = raiseAll m (raiseAll l s) := List.foldl_append

/-- A notice changes the notices of the Management Unit and of the trunk alone. -/
theorem raise_eq_notices : raise k u d s =
    { s with
      mgmt := { (raise k u d s).mgmt with params := s.mgmt.params, mask := s.mgmt.mask }
      trunk := { s.trunk with noticeQ := (raise k u d s).trunk.noticeQ, cnt := (raise k u d s).trunk.cnt } } := by
  cases hm : s.mgmt.mask.getLsbD k.bit with
  | false => rw [raise_mgmt_of_masked hm]
  | true =>
    rw [raise_of_unmasked hm]
    cases noticeAdmitted s.trunk.noticeQ.length k <;> rfl

theorem raiseAll_eq_notices (l : List TermNotice) : raiseAll l s =
    { s with
      mgmt := { (raiseAll l s).mgmt with params := s.mgmt.params, mask := s.mgmt.mask }
      trunk := { s.trunk with noticeQ := (raiseAll l s).trunk.noticeQ, cnt := (raiseAll l s).trunk.cnt } } := by
  induction l generalizing s with
  | nil => rfl
  | cons n l ih =>
    show raiseAll l (raise _ _ _ s) = { s with
      mgmt := { (raiseAll l (raise _ _ _ s)).mgmt with params := s.mgmt.params, mask := s.mgmt.mask }
      trunk := { s.trunk with
        noticeQ := (raiseAll l (raise _ _ _ s)).trunk.noticeQ, cnt := (raiseAll l (raise _ _ _ s)).trunk.cnt } }
    have one := raise_eq_notices s n.1 n.2.1.toNat n.2.2
    rw [ih]
    generalize raiseAll l (raise n.1 n.2.1.toNat n.2.2 s) = v
    rw [one]

theorem raiseAll_withTable_eq (l : List TermNotice) (ts : Vector (Option Term) 256) (c : HandoverCounters) :
    (raiseAll l s).withTable ts c =
      { s with
        terms := ts, ho := c
        mgmt := { (raiseAll l s).mgmt with params := s.mgmt.params, mask := s.mgmt.mask }
        trunk := { s.trunk with noticeQ := (raiseAll l s).trunk.noticeQ, cnt := (raiseAll l s).trunk.cnt } } := by
  have h := raiseAll_eq_notices s l
  generalize raiseAll l s = v at h ⊢
  exact congrArg (State.withTable ts c) h

theorem raise_summary : (raise k u d s).mgmt.summary = s.mgmt.summary ||| (1#21 <<< k.bit) :=
  (trunkQueuesAdmitByTheTable.1 k u d s).1

theorem NoticeKind.bit_lt (k : NoticeKind) : k.bit < 21 := by cases k <;> decide

theorem raiseAll_keeps_summary (l : List TermNotice) {b : Nat} (h : s.mgmt.summary.getLsbD b = true) :
    (raiseAll l s).mgmt.summary.getLsbD b = true := by
  induction l generalizing s with
  | nil => exact h
  | cons n l ih => exact ih _ (by rw [raise_summary, BitVec.getLsbD_or, h, Bool.true_or])

/-- A notice raised stands in the summary (R163). -/
theorem raiseAll_summary_of_mem {l : List TermNotice} {n : TermNotice} (hn : n ∈ l) :
    (raiseAll l s).mgmt.summary.getLsbD n.1.bit = true := by
  induction l generalizing s with
  | nil => cases hn
  | cons m l ih =>
    rcases List.mem_cons.mp hn with rfl | hn
    · refine raiseAll_keeps_summary _ l ?_
      have hset : ∀ k : NoticeKind, (1#21 <<< k.bit).getLsbD k.bit = true := by
        intro k
        cases k <;> decide
      rw [raise_summary, BitVec.getLsbD_or, hset, Bool.or_true]
    · exact ih _ hn

end

/-! ## One entry -/

/-- The handover states that a departure of head d orphans, forces or reverts (Table 5-3). -/
def servedOn (d : HeadIx) (ho : Handover) : Bool :=
  match ho with
  | .settled v => decide (v = d)
  | .probing v _ => decide (v = d)
  | _ => false

def forcedBy (d : HeadIx) (ho : Handover) : Bool :=
  match ho with
  | .bicast v _ _ => decide (v = d)
  | _ => false

def candidateLost (d : HeadIx) (ho : Handover) : Bool :=
  match ho with
  | .bicast v c _ => decide (v ≠ d ∧ c = d)
  | _ => false

/-- The notice of a bicast that ends with the departure of head d. -/
def departNotice (d : HeadIx) (o : Option Term) : Option TermNotice :=
  match o with
  | some e =>
    match e.ho with
    | .bicast v c _ =>
      if v = d then some (NoticeKind.handoverForced, e.number, BitVec.ofNat 8 v.val ++ BitVec.ofNat 8 c.val)
      else if c = d then some (NoticeKind.handoverFailed, e.number, 2#8 ++ BitVec.ofNat 8 c.val)
      else none
    | _ => none
  | none => none

/-- The counters with the numbers of entries orphaned, forced and reverted. -/
def departCounts (a b n : Nat) (c : HandoverCounters) : HandoverCounters :=
  { c with
    orphanings := satAdd c.orphanings a
    bicastForced := satAdd c.bicastForced b
    bicastCandidateLost := satAdd c.bicastCandidateLost n }

theorem departCounts_zero (c : HandoverCounters) : departCounts 0 0 0 c = c := by
  simp only [departCounts, satAdd_zero]

theorem departCounts_departCounts (a b n a' b' n' : Nat) (c : HandoverCounters) :
    departCounts a' b' n' (departCounts a b n c) = departCounts (a + a') (b + b') (n + n') c := by
  simp only [departCounts, satAdd_satAdd]

section
variable (d : HeadIx) (warm : Bool) (s : State) (i : SlotIx)

/-- How many of an entry are orphaned, forced or reverted. -/
def hits (p : Handover → Bool) (o : Option Term) : Nat := if o.any fun e => p e.ho then 1 else 0

theorem hits_some (p : Handover → Bool) (e : Term) : hits p (some e) = if p e.ho then 1 else 0 := rfl

/-- An entry that a departure leaves without a notice: the counters alone, and the Terminal Table. -/
theorem departEntry_eq_of_quiet {e : Term} (ht : s.term i = some e) (hq : departNotice d (some e) = none)
    (ts : Vector (Option Term) 256) (c : HandoverCounters) (he : departEntry d warm s i = s.withTable ts c)
    (hc : c = departCounts (if warm then 0 else hits (servedOn d) (some e)) (hits (forcedBy d) (some e))
      (hits (candidateLost d) (some e)) s.ho) :
    departEntry d warm s i =
      (raiseAll (departNotice d (s.term i)).toList s).withTable (departEntry d warm s i).terms
        (departCounts (if warm then 0 else hits (servedOn d) (s.term i)) (hits (forcedBy d) (s.term i))
          (hits (candidateLost d) (s.term i)) s.ho) := by
  rw [ht, hq, ← hc, he]
  rfl

/-- What a departure does to one entry: its notice, its counters and its row of Table 5-3. -/
theorem departEntry_eq : departEntry d warm s i =
    (raiseAll (departNotice d (s.term i)).toList s).withTable (departEntry d warm s i).terms
      (departCounts (if warm then 0 else hits (servedOn d) (s.term i)) (hits (forcedBy d) (s.term i))
        (hits (candidateLost d) (s.term i)) s.ho) := by
  cases ht : s.term i with
  | none =>
    have hs : departEntry d warm s i = s := by rw [departEntry, ht]
    rw [hs]
    simp only [hits, Option.any_none, Bool.false_eq_true, if_false, ite_self, departCounts_zero]
    rfl
  | some e =>
    rw [← ht]
    cases hh : e.ho with
    | orphan =>
      refine departEntry_eq_of_quiet d warm s i ht (by simp [departNotice, hh]) s.terms s.ho ?_ ?_
      · simp only [departEntry, ht, hh]; rfl
      · simp [hits_some, hh, servedOn, forcedBy, candidateLost, departCounts_zero]
    | settled v =>
      by_cases hv : v = d ∧ warm = false
      · refine departEntry_eq_of_quiet d warm s i ht (by simp [departNotice, hh]) (put s.terms i (some e.orphaned))
          { s.ho with orphanings := inc s.ho.orphanings } ?_ ?_
        · simp only [departEntry, ht, hh, if_pos hv]; rfl
        · simp [hits_some, hh, servedOn, forcedBy, candidateLost, departCounts, hv, inc]
      · refine departEntry_eq_of_quiet d warm s i ht (by simp [departNotice, hh]) s.terms s.ho ?_ ?_
        · simp only [departEntry, ht, hh, if_neg hv]; rfl
        · cases warm <;> simp_all [hits_some, servedOn, forcedBy, candidateLost, departCounts_zero]
    | probing v c =>
      by_cases hv : v = d
      · cases warm with
        | true =>
          refine departEntry_eq_of_quiet d true s i ht (by simp [departNotice, hh]) s.terms s.ho ?_ ?_
          · simp only [departEntry, ht, hh, if_pos hv, if_true]; rfl
          · simp [hits_some, hh, forcedBy, candidateLost, departCounts_zero]
        | false =>
          refine departEntry_eq_of_quiet d false s i ht (by simp [departNotice, hh]) (put s.terms i (some e.orphaned))
            { s.ho with orphanings := inc s.ho.orphanings } ?_ ?_
          · simp only [departEntry, ht, hh, if_pos hv, Bool.false_eq_true, if_false]; rfl
          · simp [hits_some, hh, servedOn, forcedBy, candidateLost, departCounts, hv, inc]
      · have hc : s.ho = departCounts (if warm then 0 else hits (servedOn d) (some e)) (hits (forcedBy d) (some e))
            (hits (candidateLost d) (some e)) s.ho := by
          simp [hits_some, hh, servedOn, forcedBy, candidateLost, departCounts_zero, hv]
        by_cases hd : c = d
        · refine departEntry_eq_of_quiet d warm s i ht (by simp [departNotice, hh])
            (put s.terms i (some { e with ho := .settled v, probe := 0 })) s.ho ?_ hc
          simp only [departEntry, ht, hh, if_neg hv, if_pos hd]; rfl
        · refine departEntry_eq_of_quiet d warm s i ht (by simp [departNotice, hh]) s.terms s.ho ?_ hc
          simp only [departEntry, ht, hh, if_neg hv, if_neg hd]; rfl
    | bicast v c x =>
      by_cases hv : v = d
      · have hn : (departNotice d (some e)).toList =
            [(.handoverForced, e.number, BitVec.ofNat 8 v.val ++ BitVec.ofNat 8 c.val)] := by
          simp [departNotice, hh, hv]
        have hc : departCounts (if warm then 0 else hits (servedOn d) (some e)) (hits (forcedBy d) (some e))
            (hits (candidateLost d) (some e)) s.ho = { s.ho with bicastForced := inc s.ho.bicastForced } := by
          simp [hits_some, hh, servedOn, forcedBy, candidateLost, departCounts, hv, inc]
        have he : departEntry d warm s i = forceBicast i e v c s := by
          simp only [departEntry, ht, hh, if_pos hv]
        rw [ht, hn, hc, he]
        unfold forceBicast
        rw [halves_eq, raise_terms]
        exact raise_withTable s _ _ _ _ _
      · by_cases hd : c = d
        · have hn : (departNotice d (some e)).toList = [(.handoverFailed, e.number, 2#8 ++ BitVec.ofNat 8 c.val)] := by
            simp [departNotice, hh, hv, hd]
          have hc : departCounts (if warm then 0 else hits (servedOn d) (some e)) (hits (forcedBy d) (some e))
              (hits (candidateLost d) (some e)) s.ho =
              { s.ho with bicastCandidateLost := inc s.ho.bicastCandidateLost } := by
            simp [hits_some, hh, servedOn, forcedBy, candidateLost, departCounts, hv, hd, inc]
          have he : departEntry d warm s i = loseCandidate i e v c s := by
            simp only [departEntry, ht, hh, if_neg hv, if_pos hd]
          rw [ht, hn, hc, he]
          unfold loseCandidate
          rw [halves_eq, raise_terms]
          exact raise_withTable s _ _ _ _ _
        · refine departEntry_eq_of_quiet d warm s i ht (by simp [departNotice, hh, hv, hd]) s.terms s.ho ?_ ?_
          · simp only [departEntry, ht, hh, if_neg hv, if_neg hd]; rfl
          · simp [hits_some, hh, servedOn, forcedBy, candidateLost, departCounts_zero, hv, hd]

/-! ## All entries -/

/-- How many of a list of slots are orphaned, forced or reverted. -/
def hitCount (p : Handover → Bool) (l : List SlotIx) (s : State) : Nat :=
  l.countP fun i => (s.term i).any fun e => p e.ho

theorem hitCount_cons (p : Handover → Bool) (l : List SlotIx) :
    hitCount p (i :: l) s = hits p (s.term i) + hitCount p l s := by
  unfold hitCount hits
  rw [List.countP_cons, Nat.add_comm]

/-- The departure over a list of slots, none twice. -/
theorem departEntries_eq (l : List SlotIx) (hl : l.Nodup) : l.foldl (departEntry d warm) s =
    (raiseAll (l.filterMap fun i => departNotice d (s.term i)) s).withTable (l.foldl (departEntry d warm) s).terms
      (departCounts (if warm then 0 else hitCount (servedOn d) l s) (hitCount (forcedBy d) l s)
        (hitCount (candidateLost d) l s) s.ho) := by
  induction l generalizing s with
  | nil =>
    have hz : ∀ p, hitCount p [] s = 0 := fun _ => rfl
    simp only [hz, ite_self, departCounts_zero]
    rfl
  | cons i l ih =>
    obtain ⟨hi, hl⟩ := List.nodup_cons.mp hl
    have hterm : ∀ j ∈ l, (departEntry d warm s i).term j = s.term j := fun j hj => by
      rw [departEntry_term, if_neg fun e : j = i => hi (e ▸ hj)]
    have hcount : ∀ p, hitCount p l (departEntry d warm s i) = hitCount p l s := fun p =>
      List.countP_congr fun j hj => by rw [hterm j hj]
    have hnotes : (l.filterMap fun j => departNotice d ((departEntry d warm s i).term j)) =
        l.filterMap fun j => departNotice d (s.term j) :=
      List.filterMap_congr fun j hj => by rw [hterm j hj]
    have hcons : ((i :: l).filterMap fun j => departNotice d (s.term j)) =
        (departNotice d (s.term i)).toList ++ l.filterMap fun j => departNotice d (s.term j) := by
      cases h : departNotice d (s.term i) <;> simp [h]
    have first := departEntry_eq d warm s i
    have hho : (departEntry d warm s i).ho = _ := congrArg State.ho first
    calc (i :: l).foldl (departEntry d warm) s
        = (raiseAll (l.filterMap fun j => departNotice d (s.term j)) (departEntry d warm s i)).withTable
            ((i :: l).foldl (departEntry d warm) s).terms
            (departCounts (if warm then 0 else hitCount (servedOn d) l s) (hitCount (forcedBy d) l s)
              (hitCount (candidateLost d) l s) (departEntry d warm s i).ho) := by
          have rest := ih (departEntry d warm s i) hl
          simp only [hcount, hnotes] at rest
          exact rest
      _ = (raiseAll ((departNotice d (s.term i)).toList ++ l.filterMap fun j => departNotice d (s.term j)) s).withTable
            ((i :: l).foldl (departEntry d warm) s).terms
            (departCounts (if warm then 0 else hitCount (servedOn d) l s) (hitCount (forcedBy d) l s)
              (hitCount (candidateLost d) l s) (departEntry d warm s i).ho) := by
          refine (congrArg (fun x => (raiseAll _ x).withTable _ _) first).trans ?_
          rw [raiseAll_withTable, raiseAll_append]
          rfl
      _ = _ := by
          rw [hcons, hho]
          refine congrArg (fun c => State.withTable _ c _) ((departCounts_departCounts ..).trans ?_)
          rw [hitCount_cons, hitCount_cons, hitCount_cons]
          cases warm <;> rfl

/-- What the departure of a head does: Table 5-3, the counters and the notices in slot order (R80). -/
theorem departure_eq : departure d warm s =
    (raiseAll ((List.finRange 256).filterMap fun i => departNotice d (s.term i)) s).withTable (departure d warm s).terms
      (departCounts (if warm then 0 else hitCount (servedOn d) (List.finRange 256) s)
        (hitCount (forcedBy d) (List.finRange 256) s) (hitCount (candidateLost d) (List.finRange 256) s) s.ho) :=
  departEntries_eq d warm s _ (List.nodup_finRange _)

theorem departure_terms_mem {e : Term} {n : TermNotice} (he : s.term i = some e) (hn : departNotice d (some e) = some n) :
    (departure d warm s).mgmt.summary.getLsbD n.1.bit = true := by
  rw [departure_eq, withTable_mgmt]
  refine raiseAll_summary_of_mem s (List.mem_filterMap.mpr ⟨i, List.mem_finRange i, ?_⟩)
  rw [he, hn]

end

theorem Term.departed_eq (d : HeadIx) (warm : Bool) (n : Nat) (e : Term) : e.departed d warm n =
    match e.ho with
    | .orphan => e
    | .settled v =>
      if v = d ∧ warm = false then { e with ho := .orphan, probe := 0, holdoff := 0, stray := 0, lsq := none } else e
    | .probing v c =>
      if v = d then
        if warm then e else { e with ho := .orphan, probe := 0, holdoff := 0, stray := 0, lsq := none }
      else if c = d then { e with ho := .settled v, probe := 0 }
      else e
    | .bicast v c _ =>
      if v = d then { e with ho := .settled c, probe := 0, stray := 0, holdoff := n, lsq := none }
      else if c = d then { e with ho := .settled v, probe := 0, holdoff := n }
      else e := by
  unfold Term.departed
  cases e.ho <;> rfl

/-- Settles O37. -/
theorem departuresFollowTable53 : Obligations.DeparturesFollowTable53 := by
  intro s d warm t count
  have h0 : t = departure d warm s := rfl
  have ht : t = _ := departure_eq d warm s
  rw [← h0] at ht
  clear_value t
  refine ⟨fun i => ?_, ?_, fun i e v c x he hh => ⟨fun hv => ?_, fun hv hc => ?_⟩, ?_, ?_⟩
  · rw [h0, departure_term]
    exact congrArg (fun f => (s.term i).map f) (funext fun e => Term.departed_eq d warm _ e)
  · rw [ht, withTable_ho]
    rfl
  · rw [h0]
    exact departure_terms_mem d warm s i he
      (n := (.handoverForced, e.number, BitVec.ofNat 8 v.val ++ BitVec.ofNat 8 c.val)) (by simp [departNotice, hh, hv])
  · rw [h0]
    exact departure_terms_mem d warm s i he
      (n := (.handoverFailed, e.number, 2#8 ++ BitVec.ofNat 8 c.val)) (by simp [departNotice, hh, hv, hc])
  · have hho : t.ho = _ := (congrArg State.ho ht).trans (withTable_ho ..)
    have hm := (congrArg State.mgmt ht).trans (withTable_mgmt ..)
    have hk := (congrArg State.trunk ht).trans (withTable_trunk ..)
    rw [← hho] at ht
    rw [hm, hk]
    exact ht.trans (raiseAll_withTable_eq ..)
  · have hnotes : (fun i => departNotice d (s.term i)) = fun i =>
        match s.term i with
        | some e =>
          match e.ho with
          | .bicast v c _ =>
            if v = d then some (NoticeKind.handoverForced, e.number, BitVec.ofNat 8 v.val ++ BitVec.ofNat 8 c.val)
            else if c = d then some (NoticeKind.handoverFailed, e.number, 2#8 ++ BitVec.ofNat 8 c.val)
            else none
          | _ => none
        | none => none := by
      funext i
      unfold departNotice
      cases s.term i with
      | none => rfl
      | some e => dsimp only <;> cases e.ho <;> rfl
    rw [hnotes] at ht
    have hho := congrArg State.ho ht
    rw [withTable_ho] at hho
    rw [← hho] at ht
    exact ht

end Sys2Proof.Machine
end

section
/-! PROOF. Measurement reports, stage by stage (O35). -/

namespace Sys2Proof.Machine
open Sys2Proof Sys2Proof.Safety

/-! ## The segment -/

section
variable {s : State} {i : SlotIx} {e : Term}

/-- The segment is recorded in the entry, and the Segment Table follows (R14 to R16). -/
theorem recordSegment_eq (he : s.term i = some e) (seg : Byte) : recordSegment i seg s =
    { s with
      terms := put s.terms i (some { e with segment := ix? 48 seg.toNat })
      segs := (recordSegment i seg s).segs
      ho := if 48 ≤ seg.toNat ∧ seg.toNat ≠ 63 then { s.ho with segmentInvalid := inc s.ho.segmentInvalid } else s.ho } := by
  unfold recordSegment moveSeg
  rw [he]
  dsimp only [segmentOf]
  by_cases hs : e.segment = ix? 48 seg.toNat <;> by_cases hi : 48 ≤ seg.toNat ∧ seg.toNat ≠ 63
  · rw [if_pos hs, if_pos hi, if_pos hi]; rfl
  · rw [if_pos hs, if_neg hi, if_neg hi]; rfl
  · rw [if_neg hs, if_pos hi, if_pos hi]; rfl
  · rw [if_neg hs, if_neg hi, if_neg hi]; rfl

theorem recordSegment_segs (he : s.term i = some e) (seg : Byte) : (recordSegment i seg s).segs =
    if e.segment = ix? 48 seg.toNat then s.segs
    else modSeg e.part (· + 1) (ix? 48 seg.toNat) (modSeg e.part (· - 1) e.segment s.segs) := by
  unfold recordSegment moveSeg
  rw [he]
  dsimp only [segmentOf]
  by_cases hs : e.segment = ix? 48 seg.toNat <;> by_cases hi : 48 ≤ seg.toNat ∧ seg.toNat ≠ 63
  · rw [if_pos hs, if_pos hi, if_pos hs]; rfl
  · rw [if_pos hs, if_neg hi, if_pos hs]; rfl
  · rw [if_neg hs, if_pos hi, if_neg hs]; rfl
  · rw [if_neg hs, if_neg hi, if_neg hs]; rfl

/-- One count of the Segment Table when an entry moves from an old segment to a new one (R15). -/
def stepped (old new : Option SegIx) (x : SegIx) (n : Nat) : Nat :=
  if old = new then n else if old = some x then n - 1 else if new = some x then n + 1 else n

theorem look_recordSegment_segs (he : s.term i = some e) (seg : Byte) (x : SegIx) :
    look (recordSegment i seg s).segs x =
      bumpSeg e.part (stepped e.segment (ix? 48 seg.toNat) x) (look s.segs x) := by
  rw [recordSegment_segs he]
  generalize ix? 48 seg.toNat = g
  unfold stepped
  by_cases hs : e.segment = g
  · simp only [hs, if_true]
    cases e.part <;> rfl
  · simp only [hs, if_false, look_modSeg]
    by_cases ho : e.segment = some x
    · have hg : ¬ g = some x := fun h => hs (ho.trans h.symm)
      simp only [ho, hg, if_true, if_false]
    · by_cases hg : g = some x
      · simp only [ho, hg, if_true, if_false]
      · simp only [ho, hg, if_false]
        cases e.part <;> rfl

/-- The last serving quality comes from the entry for the serving head (R82). -/
theorem storeLsq_eq (he : s.term i = some e) (u : List (HeadIx × Int)) : storeLsq i u s =
    match e.ho.serving with
    | some v =>
      match u.find? fun p => decide (p.1 = v) with
      | some p => { s with terms := put s.terms i (some { e with lsq := some p.2 }) }
      | none => s
    | none => s := by
  unfold storeLsq
  rw [he]
  dsimp only
  cases e.ho.serving with
  | none => rfl
  | some v =>
    dsimp only [qualityFor]
    cases u.find? fun p => decide (p.1 = v) <;> rfl

end

/-! ## The entries -/

theorem clampQuality_eq (q : Int) : clampQuality q = max (-80) (min 175 q) := clampInt_eq_max_min (by decide) q

/-- The first entry of a report for a head. -/
def firstFor (es : List MeasEntry) (k : HeadIx) : Option MeasEntry := es.find? fun e => decide (e.head.toNat = k.val)

section
variable {e : MeasEntry} {es : List MeasEntry} {k h : HeadIx}

theorem firstFor_cons_of_bad (hb : ¬ e.head.toNat < 12) : firstFor (e :: es) k = firstFor es k :=
  List.find?_cons_of_neg (by have := k.isLt; simp; omega)

theorem firstFor_cons_self (hh : e.head.toNat = h.val) : firstFor (e :: es) h = some e :=
  List.find?_cons_of_pos (by simp [hh])

theorem firstFor_cons_of_ne (hh : e.head.toNat = h.val) (hk : k ≠ h) : firstFor (e :: es) k = firstFor es k :=
  List.find?_cons_of_neg (by simpa [hh] using fun he => hk (Fin.ext he.symm))

end

section
variable (s : State)

theorem sortEntries_cons_of_bad {e : MeasEntry} (hb : ¬ e.head.toNat < 12) (seen : List HeadIx) (es : List MeasEntry) :
    sortEntries s seen (e :: es) =
      { sortEntries s seen es with badHead := (sortEntries s seen es).badHead + 1 } := by
  rw [sortEntries, ix?_of_not_lt hb]

theorem sortEntries_cons_of_seen {e : MeasEntry} {h : HeadIx} (hh : e.head.toNat = h.val) {seen : List HeadIx}
    (hs : h ∈ seen) (es : List MeasEntry) :
    sortEntries s seen (e :: es) =
      { sortEntries s seen es with repeated := (sortEntries s seen es).repeated + 1 } := by
  rw [sortEntries, ix?_eq_some.mpr hh]
  exact if_pos hs

theorem sortEntries_cons_of_new {e : MeasEntry} {h : HeadIx} (hh : e.head.toNat = h.val) {seen : List HeadIx}
    (hs : h ∉ seen) (es : List MeasEntry) :
    sortEntries s seen (e :: es) =
      if s.isUp h then
        { sortEntries s (h :: seen) es with
          usable := (h, trimmed s h e.quality) :: (sortEntries s (h :: seen) es).usable }
      else sortEntries s (h :: seen) es := by
  rw [sortEntries, ix?_eq_some.mpr hh]
  exact if_neg hs

/-- Usable are the first entries of the UP heads not named before. -/
theorem mem_usable_iff (es : List MeasEntry) (seen : List HeadIx) (k : HeadIx) (q : Int) :
    (k, q) ∈ (sortEntries s seen es).usable ↔
      k ∉ seen ∧ s.isUp k = true ∧ ∃ e, firstFor es k = some e ∧ q = trimmed s k e.quality := by
  induction es generalizing seen with
  | nil => simp [sortEntries, firstFor]
  | cons e es ih =>
    by_cases hb : e.head.toNat < 12
    · obtain ⟨h, hh⟩ : ∃ h : HeadIx, e.head.toNat = h.val := ⟨⟨_, hb⟩, rfl⟩
      by_cases hs : h ∈ seen
      · rw [sortEntries_cons_of_seen s hh hs, ih]
        refine and_congr_right fun hk => ?_
        rw [firstFor_cons_of_ne hh fun e : k = h => hk (e ▸ hs)]
      · rw [sortEntries_cons_of_new s hh hs]
        by_cases hkh : k = h
        · subst hkh
          have hno : (k, q) ∉ (sortEntries s (k :: seen) es).usable := fun hp =>
            ((ih (k :: seen)).mp hp).1 (List.mem_cons_self ..)
          rw [firstFor_cons_self hh]
          cases s.isUp k <;> simp [hno, hs]
        · have hrest : (k, q) ∈ (sortEntries s (h :: seen) es).usable ↔
              k ∉ seen ∧ s.isUp k = true ∧ ∃ x, firstFor (e :: es) k = some x ∧ q = trimmed s k x.quality := by
            rw [ih, firstFor_cons_of_ne hh hkh]
            simp [hkh]
          rw [← hrest]
          cases s.isUp h <;> simp [hkh]
    · rw [sortEntries_cons_of_bad s hb, ih, firstFor_cons_of_bad hb]

theorem usable_nodup (es : List MeasEntry) (seen : List HeadIx) :
    ((sortEntries s seen es).usable.map Prod.fst).Nodup := by
  induction es generalizing seen with
  | nil => exact List.nodup_nil
  | cons e es ih =>
    by_cases hb : e.head.toNat < 12
    · obtain ⟨h, hh⟩ : ∃ h : HeadIx, e.head.toNat = h.val := ⟨⟨_, hb⟩, rfl⟩
      by_cases hs : h ∈ seen
      · rw [sortEntries_cons_of_seen s hh hs]
        exact ih seen
      · rw [sortEntries_cons_of_new s hh hs]
        split
        · refine List.nodup_cons.mpr ⟨fun hm => ?_, ih _⟩
          obtain ⟨⟨x, q⟩, hp, rfl⟩ := List.mem_map.mp hm
          exact ((mem_usable_iff s es (x :: seen) x q).mp hp).1 (List.mem_cons_self ..)
        · exact ih _
    · rw [sortEntries_cons_of_bad s hb]
      exact ih seen

theorem sortEntries_badHead (es : List MeasEntry) (seen : List HeadIx) :
    (sortEntries s seen es).badHead = es.countP fun e => decide (11 < e.head.toNat) := by
  induction es generalizing seen with
  | nil => rfl
  | cons e es ih =>
    rw [List.countP_cons]
    by_cases hb : e.head.toNat < 12
    · rw [if_neg (by simp; omega), Nat.add_zero]
      obtain ⟨h, hh⟩ : ∃ h : HeadIx, e.head.toNat = h.val := ⟨⟨_, hb⟩, rfl⟩
      by_cases hs : h ∈ seen
      · rw [sortEntries_cons_of_seen s hh hs]
        exact ih seen
      · rw [sortEntries_cons_of_new s hh hs]
        split <;> exact ih _
    · rw [if_pos (by simp; omega), sortEntries_cons_of_bad s hb]
      exact congrArg (· + 1) (ih seen)

end

/-- Two counts over a list without repetition that differ at one element alone. -/
theorem countP_eq_add_one {α : Type} {p q : α → Bool} {l : List α} (hl : l.Nodup) {a : α} (ha : a ∈ l)
    (hp : p a = true) (hq : q a = false) (hpq : ∀ b ∈ l, b ≠ a → p b = q b) : l.countP p = l.countP q + 1 := by
  induction l with
  | nil => cases ha
  | cons b l ih =>
    obtain ⟨hb, hl⟩ := List.nodup_cons.mp hl
    rw [List.countP_cons, List.countP_cons]
    by_cases hba : b = a
    · subst hba
      have htail : l.countP p = l.countP q :=
        List.countP_congr fun c hc => by rw [hpq c (List.mem_cons_of_mem _ hc) fun e => hb (e ▸ hc)]
      rw [htail, hp, hq]
      rfl
    · have hrest := ih hl ((List.mem_cons.mp ha).resolve_left (Ne.symm hba)) fun c hc =>
        hpq c (List.mem_cons_of_mem _ hc)
      rw [hrest, hpq b (List.mem_cons_self ..) hba]
      omega

/-- Each entry names no head, a head named before, or a head for the first time. -/
theorem sortEntries_total (s : State) (es : List MeasEntry) (seen : List HeadIx) :
    (sortEntries s seen es).repeated + (sortEntries s seen es).badHead +
      (List.finRange 12).countP (fun k => decide (k ∉ seen) && (firstFor es k).isSome) = es.length := by
  induction es generalizing seen with
  | nil =>
    have hz : (List.finRange 12).countP (fun k => decide (k ∉ seen) && (firstFor [] k).isSome) = 0 :=
      List.countP_eq_zero.mpr fun k _ => by simp [firstFor]
    rw [hz]
    rfl
  | cons e es ih =>
    rw [List.length_cons]
    by_cases hb : e.head.toNat < 12
    · obtain ⟨h, hh⟩ : ∃ h : HeadIx, e.head.toNat = h.val := ⟨⟨_, hb⟩, rfl⟩
      by_cases hs : h ∈ seen
      · rw [sortEntries_cons_of_seen s hh hs, ← ih seen]
        have hcount : (List.finRange 12).countP (fun k => decide (k ∉ seen) && (firstFor (e :: es) k).isSome) =
            (List.finRange 12).countP fun k => decide (k ∉ seen) && (firstFor es k).isSome := by
          refine List.countP_congr fun k _ => ?_
          by_cases hk : k ∈ seen
          · simp [hk]
          · rw [firstFor_cons_of_ne hh fun e : k = h => hk (e ▸ hs)]
        dsimp only
        omega
      · have hone : (List.finRange 12).countP (fun k => decide (k ∉ seen) && (firstFor (e :: es) k).isSome) =
            (List.finRange 12).countP (fun k => decide (k ∉ h :: seen) && (firstFor es k).isSome) + 1 := by
          refine countP_eq_add_one (List.nodup_finRange 12) (List.mem_finRange h) ?_ ?_ fun k _ hk => ?_
          · simp [hs, firstFor_cons_self hh]
          · simp
          · rw [firstFor_cons_of_ne hh hk]
            simp [hk]
        have rest := ih (h :: seen)
        rw [sortEntries_cons_of_new s hh hs]
        by_cases hu : s.isUp h = true
        · rw [if_pos hu]
          dsimp only
          omega
        · rw [if_neg hu]
          omega
    · rw [sortEntries_cons_of_bad s hb, ← ih seen]
      simp only [firstFor_cons_of_bad hb]
      omega

/-- Settles O35: the stages of a report, the segment, the last serving quality, and the sorting of the entries. -/
theorem measurementReportsActInOrder : Obligations.MeasurementReportsActInOrder := by
  refine ⟨⟨fun s k n seg es i e hr hu hp h0 h1 hl => ?_, fun s i e seg he => ?_, fun s i e u he => ?_⟩, fun s es => ?_⟩
  · intro m r
    rw [exec_event (c := .meas k n seg es) rfl hr, fromUpHead_of_isUp hu, classify_of_listed hp (fun e => e.elim h0 h1) hl]
    have hact : craneActivity i k s = if e.isCrane then craneActivity i k s else s := by
      cases hc : e.isCrane with
      | true => rfl
      | false => exact craneActivity_of_not_crane (State.lookup_eq_some hl).1 hc k
    have hm : judgeHead i k (recordSegment i seg (craneActivity i k s)) = m :=
      congrArg (fun x => judgeHead i k (recordSegment i seg x)) hact
    refine congrArg _ ?_
    unfold measListed
    dsimp only
    rw [hm]
    rfl
  · intro g t
    refine ⟨recordSegment_eq he seg, fun x => (look_recordSegment_segs he seg x).trans ?_⟩
    cases e.part <;> rfl
  · exact (storeLsq_eq he u).trans (by rfl)
  · intro r first clamp
    refine ⟨fun k q => ?_, usable_nodup s es [], sortEntries_badHead s es [], ?_⟩
    · rw [mem_usable_iff]
      simp only [trimmed, clampQuality_eq]
      simp [firstFor, first, clamp]
    · have total := sortEntries_total s es []
      simp only [List.not_mem_nil, not_false_eq_true, decide_true, Bool.true_and] at total
      exact total

end Sys2Proof.Machine
end

section
/-! PROOF. The evaluation of a report (O38): targets, triggers, and the handover. -/

namespace Sys2Proof.Machine
open Sys2Proof Sys2Proof.Safety

/-! ## The best head of a list -/

/-- A listed head stands before another: a higher quality, ties to the lower index. -/
def Beats (a b : HeadIx × Int) : Prop := b.2 < a.2 ∨ (b.2 = a.2 ∧ a.1 ≤ b.1)

theorem Beats.refl (a : HeadIx × Int) : Beats a a := .inr ⟨rfl, le_refl _⟩

theorem Beats.trans {a b c : HeadIx × Int} (h : Beats a b) (k : Beats b c) : Beats a c := by
  unfold Beats at *
  rcases h with h | ⟨h, hi⟩ <;> rcases k with k | ⟨k, ki⟩
  · exact .inl (by omega)
  · exact .inl (by omega)
  · exact .inl (by omega)
  · exact .inr ⟨by omega, hi.trans ki⟩

theorem better_beats (a b : HeadIx × Int) : Beats (better a b) a ∧ Beats (better a b) b := by
  unfold better
  split
  next h => exact ⟨.refl a, h.imp_right fun h => ⟨h.1.symm, h.2⟩⟩
  next h =>
    refine ⟨?_, .refl b⟩
    obtain ⟨hq, hi⟩ := not_or.mp h
    rcases lt_or_eq_of_le (not_lt.mp hq) with hlt | heq
    · exact .inl hlt
    · exact .inr ⟨heq, le_of_lt (not_le.mp fun hle => hi ⟨heq, hle⟩)⟩

theorem foldl_better_beats (l : List (HeadIx × Int)) (a : HeadIx × Int) :
    Beats (l.foldl better a) a ∧ ∀ b ∈ l, Beats (l.foldl better a) b := by
  induction l generalizing a with
  | nil => exact ⟨.refl a, fun b hb => by cases hb⟩
  | cons c l ih =>
    obtain ⟨hstart, hrest⟩ := ih (better a c)
    obtain ⟨ha, hc⟩ := better_beats a c
    refine ⟨hstart.trans ha, fun b hb => ?_⟩
    rcases List.mem_cons.mp hb with rfl | hb
    · exact hstart.trans hc
    · exact hrest b hb

theorem best_beats {l : List (HeadIx × Int)} {p : HeadIx × Int} (h : best l = some p) : ∀ b ∈ l, Beats p b := by
  cases l with
  | nil => cases h
  | cons a l =>
    obtain ⟨ha, hl⟩ := foldl_better_beats l a
    cases h
    intro b hb
    rcases List.mem_cons.mp hb with rfl | hb
    · exact ha
    · exact hl b hb

theorem best_eq_none {l : List (HeadIx × Int)} : best l = none ↔ l = [] := by
  cases l <;> simp [best]

/-! ## Targets -/

section
variable {s : State} {crane : Bool} {v : HeadIx}

theorem eligible_eq_true_iff {x : HeadIx} : eligible s crane v x = true ↔ s.isUp x = true ∧ x ≠ v ∧
    (crane = true → (s.loop x).status = .firm ∨ (s.loop x).status = .weak ∨ (s.loop x).status = .unmeasured) := by
  unfold eligible
  cases crane <;> cases (s.loop x).status <;> simp

variable {u : List (HeadIx × Int)}

/-- The heads that may serve a segment. -/
def Covering (s : State) (crane : Bool) (v : HeadIx) (g : SegIx) (x : HeadIx) : Prop :=
  eligible s crane v x = true ∧ (s.head x).record.winFirst ≤ g.val ∧ g.val ≤ (s.head x).record.winLast

def coveringHeads (s : State) (crane : Bool) (v : HeadIx) (g : SegIx) : List HeadIx :=
  (List.finRange 12).filter fun t => eligible s crane v t && (s.head t).record.covers g

theorem mem_coveringHeads {g : SegIx} {x : HeadIx} : x ∈ coveringHeads s crane v g ↔ Covering s crane v g x := by
  simp [coveringHeads, Covering, HeadRecord.covers_iff]

theorem head?_coveringHeads_le {g : SegIx} {x y : HeadIx} (hx : (coveringHeads s crane v g).head? = some x)
    (hy : Covering s crane v g y) : x ≤ y := by
  have sorted : (coveringHeads s crane v g).Pairwise (· < ·) := (List.pairwise_lt_finRange 12).filter _
  have hy := mem_coveringHeads.mpr hy
  cases hc : coveringHeads s crane v g with
  | nil => simp [hc] at hx
  | cons a l =>
    rw [hc] at hx hy sorted
    cases hx
    rcases List.mem_cons.mp hy with rfl | hy
    · exact le_refl _
    · exact le_of_lt ((List.pairwise_cons.mp sorted).1 y hy)

theorem positionTarget_eq (g : SegIx) : positionTarget s crane v g u =
    match best (u.filter fun p => decide (p.1 ∈ coveringHeads s crane v g)) with
    | some p => some p.1
    | none => (coveringHeads s crane v g).head? := rfl

/-- R84: no target exactly when no eligible head covers the segment. -/
theorem positionTarget_eq_none {g : SegIx} : positionTarget s crane v g u = none ↔ ∀ x, ¬ Covering s crane v g x := by
  rw [positionTarget_eq]
  cases hb : best (u.filter fun p => decide (p.1 ∈ coveringHeads s crane v g)) with
  | some p =>
    have hp := best_mem hb
    simp only [List.mem_filter, decide_eq_true_eq, mem_coveringHeads] at hp
    simpa using ⟨p.1, hp.2⟩
  | none =>
    dsimp only
    rw [List.head?_eq_none_iff, List.eq_nil_iff_forall_not_mem]
    simp only [mem_coveringHeads]

/-- R84: the best listed covering head, or the lowest one when none is listed. -/
theorem positionTarget_eq_some {g : SegIx} {x : HeadIx} (h : positionTarget s crane v g u = some x) :
    Covering s crane v g x ∧
      ((∃ q, (x, q) ∈ u ∧ ∀ y p, (y, p) ∈ u → Covering s crane v g y → p < q ∨ (p = q ∧ x ≤ y)) ∨
       ((∀ y p, (y, p) ∈ u → ¬ Covering s crane v g y) ∧ ∀ y, Covering s crane v g y → x ≤ y)) := by
  rw [positionTarget_eq] at h
  cases hb : best (u.filter fun p => decide (p.1 ∈ coveringHeads s crane v g)) with
  | some p =>
    rw [hb] at h
    cases h
    have hp := best_mem hb
    simp only [List.mem_filter, decide_eq_true_eq, mem_coveringHeads] at hp
    refine ⟨hp.2, .inl ⟨p.2, hp.1, fun y q hy hc => ?_⟩⟩
    exact best_beats hb (y, q) (by simpa [mem_coveringHeads] using ⟨hy, hc⟩)
  | none =>
    rw [hb] at h
    refine ⟨mem_coveringHeads.mp (List.mem_of_head? h), .inr ⟨fun y p hy hc => ?_, fun y hc => head?_coveringHeads_le h hc⟩⟩
    have : (y, p) ∈ u.filter fun p => decide (p.1 ∈ coveringHeads s crane v g) := by
      simpa [mem_coveringHeads] using ⟨hy, hc⟩
    rw [best_eq_none.mp hb] at this
    cases this

/-- The entries that qualify for the quality trigger (R85). -/
def Qualifies (s : State) (crane : Bool) (v : HeadIx) (ref : Option Int) (u : List (HeadIx × Int)) (x : HeadIx) (q : Int) :
    Prop :=
  (x, q) ∈ u ∧ eligible s crane v x = true ∧ ∃ r, ref = some r ∧ r + s.mgmt.params.hysteresis ≤ q

theorem mem_qualifying {r q : Int} {x : HeadIx} :
    (x, q) ∈ (u.filter fun p => eligible s crane v p.1 && decide (r + (s.params.hysteresis : Int) ≤ p.2)) ↔
      Qualifies s crane v (some r) u x q := by
  unfold State.params
  simp [Qualifies]

theorem qualityTarget_eq_none {ref : Option Int} :
    qualityTarget s crane v ref u = none ↔ ∀ x q, ¬ Qualifies s crane v ref u x q := by
  cases ref with
  | none => simp [qualityTarget, Qualifies]
  | some r =>
    unfold qualityTarget
    rw [Option.map_eq_none_iff, best_eq_none, List.eq_nil_iff_forall_not_mem]
    simp only [Prod.forall, mem_qualifying]

theorem qualityTarget_eq_some {ref : Option Int} {x : HeadIx} (h : qualityTarget s crane v ref u = some x) :
    ∃ q, Qualifies s crane v ref u x q ∧ ∀ y p, Qualifies s crane v ref u y p → p < q ∨ (p = q ∧ x ≤ y) := by
  cases ref with
  | none => cases h
  | some r =>
    obtain ⟨⟨x, q⟩, hb, rfl⟩ := Option.map_eq_some_iff.mp h
    exact ⟨q, mem_qualifying.mp (best_mem hb), fun y p hy => best_beats hb (y, p) (mem_qualifying.mpr hy)⟩

end

/-! ## Triggers -/

section
variable {s : State} {i : SlotIx} {e : Term} {v : HeadIx} {u : List (HeadIx × Int)}

theorem ctlAdmits_order_iff {n : TermNo} {x : HeadIx} :
    s.ctlAdmits v (.order n x) = true ↔ s.headOpen v = true ∧ (s.head v).ctlQ.length < 8 := by
  have hf : (CtlFrame.order n x).isSetpoint = false := rfl
  simp only [State.ctlAdmits, hf, Bool.false_and, Bool.false_or, Bool.and_eq_true, decide_eq_true_eq]

/-- R87 to R89: a handover whose order is admitted; the entry stays as it is if it is not. -/
theorem executeHandover_eq (i : SlotIx) (e : Term) (v x : HeadIx) (u : List (HeadIx × Int)) (s : State) :
    executeHandover i e v x u s =
      let m := offerCtl v (.order e.number x) s
      if s.headOpen v = true ∧ (s.head v).ctlQ.length < 8 then
        if e.isCrane then
          { m with
            ho := { s.ho with bicastStarts := inc s.ho.bicastStarts }
            terms := put s.terms i (some
              { e with ho := .bicast v x (s.uptime + s.mgmt.params.bicastTimeout), probe := 0 }) }
        else
          { m with
            ho := { s.ho with hardHandovers := inc s.ho.hardHandovers }
            terms := put s.terms i (some
              { e with
                ho := .settled x, probe := 0, stray := 0, holdoff := s.mgmt.params.holdoff
                lsq := (u.find? fun p => decide (p.1 = x)).map Prod.snd }) }
      else m := by
  unfold executeHandover
  dsimp only
  refine if_congr ctlAdmits_order_iff ?_ rfl
  have hho : (offerCtl v (.order e.number x) s).ho = s.ho := offerCtl_ho ..
  have hterms : (offerCtl v (.order e.number x) s).terms = s.terms := offerCtl_terms ..
  rw [← hho, ← hterms]
  rfl

/-- The probing table of R85. -/
theorem qualityTrigger_eq (hh : e.ho = .settled v ∨ ∃ c, e.ho = .probing v c) : qualityTrigger i e v u s =
    (let go := fun (x : HeadIx) (n : Nat) =>
      let e' := { e with ho := .probing v x, probe := n }
      let m := { s with terms := put s.terms i (some e') }
      if s.mgmt.params.probeLimit ≤ n then executeHandover i e' v x u m else m
     match qualityTarget s e.isCrane v e.lsq u with
      | some b => go b (if e.ho.candidate = some b then min (e.probe + 1) s.mgmt.params.probeLimit else 1)
      | none =>
        { s with terms := put s.terms i (some
            (match e.ho with
              | .probing _ _ => { e with ho := .settled v, probe := 0 }
              | _ => e)) }) := by
  unfold qualityTrigger
  dsimp only [State.params]
  generalize qualityTarget s e.isCrane v e.lsq u = b
  rcases e with ⟨no, part, ho, probe, hold, stray, g, q⟩
  dsimp only at hh ⊢
  rcases hh with rfl | ⟨c, rfl⟩
  · cases b with
    | none => rfl
    | some b =>
      have hc : ¬ (Handover.settled v).candidate = some b := by simp [Handover.candidate]
      simp only [hc, if_false]
      rfl
  · cases b with
    | none => rfl
    | some b =>
      by_cases hb : b = c
      · subst hb
        simp only [Term.probed, Handover.candidate, if_true]
        rfl
      · have hc : ¬ some c = some b := fun h => hb (Option.some.inj h).symm
        simp only [Term.probed, Handover.candidate, hb, hc, if_false]
        rfl

/-- R83, R84: the hold-off, then the trigger that the segment selects. -/
theorem evaluateServed_eq (i : SlotIx) (e : Term) (v : HeadIx) (u : List (HeadIx × Int)) (s : State) :
    evaluateServed i e v u s =
      if 0 < e.holdoff then { s with terms := put s.terms i (some { e with holdoff := e.holdoff - 1 }) }
      else
        match e.segment with
        | some g =>
          if g.val < (s.head v).record.winFirst ∨ (s.head v).record.winLast < g.val then
            match positionTarget s e.isCrane v g u with
            | some x => executeHandover i e v x u s
            | none => { s with ho := { s.ho with noCover := inc s.ho.noCover } }
          else qualityTrigger i e v u s
        | none => qualityTrigger i e v u s := by
  unfold evaluateServed
  refine ite_congr rfl (fun _ => rfl) fun _ => ?_
  cases e.segment with
  | none => rfl
  | some g =>
    dsimp only
    by_cases hw : (s.head v).record.winFirst ≤ g.val ∧ g.val ≤ (s.head v).record.winLast
    · rw [if_pos (HeadRecord.covers_iff.mpr hw), if_neg (by omega)]
    · rw [if_neg (mt HeadRecord.covers_iff.mp hw), if_pos (by omega)]
      unfold positionTrigger
      cases positionTarget s e.isCrane v g u <;> rfl

/-- R83: only an entry served without a bicast is evaluated. -/
theorem evaluate_eq (he : s.term i = some e) : evaluate i u s =
    match e.ho.serving, e.ho.deadline with
    | some v, none => evaluateServed i e v u s
    | _, _ => s := by
  unfold evaluate
  rw [he]
  dsimp only
  cases e.ho <;> rfl

end

/-- Settles O38. -/
theorem reportsStartHandoversByTriggers : Obligations.ReportsStartHandoversByTriggers := by
  refine ⟨⟨fun s i e u he => (evaluate_eq he).trans ?_, fun s crane v x => eligible_eq_true_iff, fun s crane v g u _ => ?_,
    fun s crane v ref u _ => ?_, fun s i e v u => ?_⟩, fun s i e v x u => executeHandover_eq i e v x u s⟩
  · simp only [evaluateServed_eq] <;> rfl
  · exact ⟨positionTarget_eq_none, fun x h => positionTarget_eq_some h⟩
  · exact ⟨qualityTarget_eq_none, fun x h => qualityTarget_eq_some h⟩
  · exact fun hh => qualityTrigger_eq hh

end Sys2Proof.Machine
end

section
/-! PROOF. Records against the Reefer Table (O41) and the six steps of a processed record (O42). -/

namespace Sys2Proof.Machine
open Sys2Proof Sys2Proof.Safety

/-! ## The entry of a record -/

section
variable {s : State} {g : SlotIx} {no : TermNo} {seg : Option SegIx} {rec : BatchRecord}

theorem handleRecord_of_bad (h : rec.tag = 0 ∨ 1048575 < rec.tag) : handleRecord g no seg s rec =
    { s with reef := { s.reef with cnt := { s.reef.cnt with badTag := inc s.reef.cnt.badTag } } } := if_pos h

theorem handleRecord_of_held (h : ¬ (rec.tag = 0 ∨ 1048575 < rec.tag)) {i : ReeferIx} {r : Reefer}
    (hf : s.findTag rec.tag = some (i, r)) : handleRecord g no seg s rec = processRecord g no seg i r rec.body s := by
  rw [handleRecord, if_neg h, hf]

theorem handleRecord_of_unknown (h : ¬ (rec.tag = 0 ∨ 1048575 < rec.tag)) (hf : s.findTag rec.tag = none) :
    handleRecord g no seg s rec = unknownTag g no seg rec s := by
  rw [handleRecord, if_neg h, hf]

theorem unknownTag_of_not_learned (h : s.mgmt.params.autoLearn = false) : unknownTag g no seg rec s =
    { s with reef := { s.reef with cnt := { s.reef.cnt with unknownTagDrop := inc s.reef.cnt.unknownTagDrop } } } :=
  if_neg (by simp [State.params, h])

theorem unknownTag_of_full (h : s.mgmt.params.autoLearn = true) (hf : s.freeReeferIx = none) :
    unknownTag g no seg rec s =
      (let drop := { s with reef := { s.reef with cnt := { s.reef.cnt with unknownTagDrop := inc s.reef.cnt.unknownTagDrop } } }
       if s.reef.tableFull then drop
       else raise .tableFull rec.tag no { drop with reef := { drop.reef with tableFull := true } }) := by
  refine (if_pos h).trans ?_
  rw [hf]
  rfl

theorem unknownTag_of_free (h : s.mgmt.params.autoLearn = true) {i : ReeferIx} (hf : s.freeReeferIx = some i) :
    unknownTag g no seg rec s =
      processRecord g no seg i (newReefer rec.tag 0 s.uptime) rec.body
        { s with reef := { s.reef with
            table := put s.reef.table i (some (newReefer rec.tag 0 s.uptime))
            cnt := { s.reef.cnt with autoLearned := inc s.reef.cnt.autoLearned } } } := by
  refine (if_pos h).trans ?_
  rw [hf]
  rfl

end

/-- Settles O41: a tag out of range, held, and unknown with auto-learn off, a full table and a free index. -/
theorem recordsFindOrLearnTheirEntry : Obligations.RecordsFindOrLearnTheirEntry := by
  intro s g no seg rec held drop
  have range : 1 ≤ rec.tag → rec.tag ≤ 1048575 → ¬ (rec.tag = 0 ∨ 1048575 < rec.tag) := by omega
  have unknown : ¬ held → s.findTag rec.tag = none := fun h =>
    State.findTag_eq_none.mpr fun i r hr ht => h ⟨i, r, hr, ht⟩
  refine ⟨handleRecord_of_bad, fun h1 h2 hh => ?_, fun h1 h2 hh ha => ?_, fun h1 h2 hh ha hn => ?_,
    fun i h1 h2 hh ha hi hb => ?_⟩
  · cases hf : s.findTag rec.tag with
    | none =>
      obtain ⟨i, r, hr, ht⟩ := hh
      exact absurd ht (State.findTag_eq_none.mp hf i r hr)
    | some p =>
      obtain ⟨i, r⟩ := p
      obtain ⟨hr, ht⟩ := State.findTag_eq_some hf
      exact ⟨i, r, hr, ht, handleRecord_of_held (range h1 h2) hf⟩
  · rw [handleRecord_of_unknown (range h1 h2) (unknown hh), unknownTag_of_not_learned ha]
  · rw [handleRecord_of_unknown (range h1 h2) (unknown hh),
      unknownTag_of_full ha (State.freeReeferIx_eq_none.mpr hn)]
  · rw [handleRecord_of_unknown (range h1 h2) (unknown hh),
      unknownTag_of_free ha (State.freeReeferIx_eq_some_iff.mpr ⟨hi, hb⟩)]

/-! ## The steps of a record -/

theorem Reefer.heard_eq (b : RecordBody) (r : Reefer) : r.heard b =
    if b = .off then { r with state := .unplugged, outRun := 0, inRun := 0, silence := none }
    else if r.state = .unheard ∨ r.state = .unplugged ∨ r.state = .silent then
      { r with state := .active, outRun := 0, inRun := 0 }
    else r := by
  have quiet : ∀ st : ReeferState, (match st with
      | .unheard | .unplugged | .silent => { r with state := .active, outRun := 0, inRun := 0 }
      | .active | .alarm => r) =
      if st = .unheard ∨ st = .unplugged ∨ st = .silent then { r with state := .active, outRun := 0, inRun := 0 } else r := by
    intro st
    cases st <;> simp
  cases b with
  | off => rfl
  | _ => exact (quiet r.state).trans (if_neg (by simp)).symm

theorem Reefer.heard_state_of_silent {r : Reefer} (h : r.state = .silent) (b : RecordBody) :
    (r.heard b).state = .active ↔ b ≠ .off := by
  rw [Reefer.heard_eq]
  by_cases hb : b = .off <;> simp [hb, h]

theorem setpointFaults_eq (b : RecordBody) : setpointFaults b =
    match b with
    | .full sp _ _ _ _ _ => if sp < -300 ∨ 300 < sp then 1 else 0
    | _ => 0 := by
  cases b with
  | full sp su re co de al =>
    dsimp only [setpointFaults]
    split <;> split <;> omega
  | _ => rfl

theorem sensorFault_eq (v : Int) : sensorFault v = if v < -400 ∨ 600 < v then 1 else 0 := by
  unfold sensorFault
  split <;> split <;> omega

theorem sensorFaults_eq (b : RecordBody) : sensorFaults b =
    (match b with
      | .full _ su re _ _ _ => [su, re]
      | .temp su re => [su, re]
      | _ => []).countP (fun v => decide (v < -400 ∨ 600 < v)) := by
  cases b <;> simp [sensorFaults, sensorFault_eq, List.countP_cons, Nat.add_comm]

theorem Reefer.evaluated_of_unknown {c : Band} {b : RecordBody} {y : Reefer}
    (h : b = .beat ∨ b = .off ∨ y.setpoint = none ∨ y.supply = none ∨ y.defrost = true) : y.evaluated c b = y := by
  have unknown : ∀ o p : Option Int, o = none ∨ p = none ∨ y.defrost = true → (match o, p with
      | some sp, some su => if y.defrost then y else y.judged c sp su
      | _, _ => y) = y := by
    intro o p h
    cases o with
    | none => rfl
    | some sp =>
      cases p with
      | none => rfl
      | some su => exact if_pos (by simpa using h)
  cases b with
  | beat => rfl
  | off => rfl
  | _ => exact unknown _ _ (by simpa using h)

theorem Reefer.evaluated_of_known {c : Band} {b : RecordBody} {y : Reefer} {sp su : Int} (hb : b ≠ .beat) (ho : b ≠ .off)
    (hp : y.setpoint = some sp) (hs : y.supply = some su) (hd : y.defrost = false) :
    y.evaluated c b = y.judged c sp su := by
  cases b with
  | beat => exact absurd rfl hb
  | off => exact absurd rfl ho
  | _ => simp only [Reefer.evaluated, hp, hs, hd, Bool.false_eq_true, if_false]

/-! ## The record processed -/

section
variable {s : State}

theorem moveReefer_eq (o : Option SlotIx) (g : SlotIx) (s : State) :
    moveReefer o g s = { s with terms := (moveReefer o g s).terms } := by
  unfold moveReefer
  split
  · rfl
  · rw [bumpReefers_eq, bumpReefers_eq o]

/-- The counts of the old and the new gateway (R132). -/
theorem moveReefer_term_eq (o : Option SlotIx) (g j : SlotIx) : (moveReefer o g s).term j = (s.term j).map fun e =>
    match e.part with
    | .gateway st n =>
      { e with part := .gateway st (if o = some g then n else if j = g then n + 1 else if o = some j then n - 1 else n) }
    | _ => e := by
  rw [moveReefer_term]
  cases s.term j with
  | none => split_ifs <;> rfl
  | some e =>
    rcases e with ⟨num, part, ho, probe, hold, stray, seg, q⟩
    by_cases ho : o = some g
    · simp only [ho, if_true]
      cases part <;> rfl
    · by_cases hg : g = j
      · subst hg
        simp only [ho, if_true, if_false]
        cases part <;> rfl
      · by_cases hj : o = some j
        · subst hj
          simp only [ho, hg, Ne.symm hg, if_true, if_false]
          cases part <;> rfl
        · simp only [ho, hg, Ne.symm hg, hj, if_false]
          cases part <;> rfl

/-- The entry placed under its gateway and processed, with the counters, before its notices and its offer. -/
def State.placed (g : SlotIx) (seg : Option SegIx) (i : ReeferIx) (r : Reefer) (b : RecordBody) (s : State) : State :=
  let z := Reefer.processed (look s.reef.bands r.cls) b { r with gateway := some g, segment := seg, lastHeard := s.uptime }
  { s with
    terms := (moveReefer r.gateway g s).terms
    reef := { s.reef with
      table := put s.reef.table i (some { z with
        silence := if z.state = .active ∨ z.state = .alarm then some (s.uptime + s.mgmt.params.reeferSilence * 1000)
          else none })
      cnt := { s.reef.cnt with
        records := inc s.reef.cnt.records
        setpointInvalid := satAdd s.reef.cnt.setpointInvalid (setpointFaults b)
        sensorFault := satAdd s.reef.cnt.sensorFault (sensorFaults b) } } }

theorem Reefer.armed_eq (n : Nat) (r : Reefer) : r.armed n =
    { r with silence := if r.state = .active ∨ r.state = .alarm then some n else none } := by
  unfold Reefer.armed
  congr 1
  exact if_congr isHeard_iff rfl rfl

theorem processRecord_eq (g : SlotIx) (no : TermNo) (seg : Option SegIx) (i : ReeferIx) (r : Reefer) (b : RecordBody)
    (s : State) :
    let base := { r with gateway := some g, segment := seg, lastHeard := s.uptime }
    processRecord g no seg i r b s =
      offerExport i r.state (bandNotice r.tag (base.heard b) (base.processed (look s.reef.bands r.cls) b)
        (if r.state = .silent ∧ b ≠ .off then raise .reeferResumed r.tag no (s.placed g seg i r b)
         else s.placed g seg i r b)) := by
  intro base
  have hplaced : ((moveReefer r.gateway g s).setReefer i (some ((base.processed (look s.reef.bands r.cls) b).armed
      (s.uptime + s.reeferTimeout)))).countReef (fun c =>
        { c with
          records := inc c.records
          setpointInvalid := satAdd c.setpointInvalid (setpointFaults b)
          sensorFault := satAdd c.sensorFault (sensorFaults b) }) = s.placed g seg i r b := by
    rw [Reefer.armed_eq, moveReefer_eq]
    rfl
  have hresumed : (r.state = .silent ∧ (base.heard b).state = .active) ↔ (r.state = .silent ∧ b ≠ .off) :=
    and_congr_right fun h => Reefer.heard_state_of_silent (r := base) h b
  unfold processRecord
  dsimp only
  rw [hplaced]
  refine congrArg (fun x => offerExport i r.state (bandNotice _ _ _ x)) ?_
  exact if_congr hresumed rfl rfl

end

/-- Settles O42: the record processed, then each of its steps. -/
theorem processedRecordsFollowTheSixSteps : Obligations.ProcessedRecordsFollowTheSixSteps := by
  refine ⟨fun s g no seg i r b => ?_, fun c b r => ?_⟩
  · intro base z placed resumed before
    exact ⟨s.placed g seg i r b, _, processRecord_eq g no seg i r b s, fun j => moveReefer_term_eq r.gateway g j, rfl, rfl⟩
  · intro quiet x y z
    have hz : z = y.evaluated c b := rfl
    refine ⟨Reefer.heard_eq b r, ?_, setpointFaults_eq b, sensorFaults_eq b, fun h => ?_, fun sp su hb ho hp hs hd => ?_⟩
    · cases b <;> rfl
    · exact Reefer.evaluated_of_unknown h
    · exact Reefer.evaluated_of_known hb ho hp hs hd

end Sys2Proof.Machine
end

section
/-! PROOF. Batches (O40): the gateway part, the records in order, and the reading of one record. -/

namespace Sys2Proof.Machine
open Sys2Proof Sys2Proof.Safety

/-! ## One record -/

theorem exists_cons_of_lt_length {α : Type} {n : Nat} {l : List α} (h : n < l.length) :
    ∃ a m, l = a :: m ∧ n ≤ m.length := by
  cases l with
  | nil => simp at h
  | cons a m => exact ⟨a, m, rfl, by simpa [Nat.lt_succ_iff] using h⟩

section
variable {hd : Byte}

/-- The kinds of Table 11-6 read from at least as many bytes as they have. -/
theorem readRecord_full (hk : hd &&& 127 = 1) (t2 t1 t0 a1 a0 b1 b0 c1 c0 fl al : Byte) (rest : List Byte) :
    readRecord (hd :: t2 :: t1 :: t0 :: a1 :: a0 :: b1 :: b0 :: c1 :: c0 :: fl :: al :: rest) =
      .record
        { tag := (t2 ++ t1 ++ t0).toNat
          body := .full (a1 ++ a0).toInt (b1 ++ b0).toInt (c1 ++ c0).toInt (fl.getLsbD 0) (fl.getLsbD 1) al }
        (hd.getLsbD 7) rest := by
  simp only [readRecord, hk]
  rfl

theorem readRecord_temp (hk : hd &&& 127 = 2) (t2 t1 t0 b1 b0 c1 c0 : Byte) (rest : List Byte) :
    readRecord (hd :: t2 :: t1 :: t0 :: b1 :: b0 :: c1 :: c0 :: rest) =
      .record { tag := (t2 ++ t1 ++ t0).toNat, body := .temp (b1 ++ b0).toInt (c1 ++ c0).toInt } (hd.getLsbD 7) rest := by
  simp only [readRecord, hk]
  rfl

theorem readRecord_beat (hk : hd &&& 127 = 3) (t2 t1 t0 : Byte) (rest : List Byte) :
    readRecord (hd :: t2 :: t1 :: t0 :: rest) =
      .record { tag := (t2 ++ t1 ++ t0).toNat, body := .beat } (hd.getLsbD 7) rest := by
  simp only [readRecord, hk]
  rfl

theorem readRecord_off (hk : hd &&& 127 = 4) (t2 t1 t0 : Byte) (rest : List Byte) :
    readRecord (hd :: t2 :: t1 :: t0 :: rest) =
      .record { tag := (t2 ++ t1 ++ t0).toNat, body := .off } (hd.getLsbD 7) rest := by
  simp only [readRecord, hk]
  rfl

/-- A record is partial when it ends before the last byte of its kind. -/
theorem readRecord_short {more : List Byte}
    (h : (hd &&& 127 = 1 ∧ more.length < 11) ∨ (hd &&& 127 = 2 ∧ more.length < 7) ∨
      ((hd &&& 127 = 3 ∨ hd &&& 127 = 4) ∧ more.length < 3)) : readRecord (hd :: more) = .partialRecord := by
  rcases h with ⟨hk, hl⟩ | ⟨hk, hl⟩ | ⟨hk | hk, hl⟩
  all_goals
    simp only [readRecord, hk, BitVec.reduceToNat]
    split
    · simp only [List.length_cons] at hl
      omega
    · rfl

theorem readRecord_unknown {more : List Byte} (h1 : hd &&& 127 ≠ 1) (h2 : hd &&& 127 ≠ 2) (h3 : hd &&& 127 ≠ 3)
    (h4 : hd &&& 127 ≠ 4) : readRecord (hd :: more) = .unknown := by
  have kind : ∀ k : Byte, hd &&& 127 ≠ k → (hd &&& 127).toNat ≠ k.toNat := fun k h e => h (BitVec.eq_of_toNat_eq e)
  dsimp only [readRecord]
  split
  next h => exact absurd h (kind 1 h1)
  next h => exact absurd h (kind 2 h2)
  next h => exact absurd h (kind 3 h3)
  next h => exact absurd h (kind 4 h4)
  next => rfl

theorem exists_three_of_length {more : List Byte} (h : ¬ more.length < 3) :
    ∃ t2 t1 t0 rest, more = t2 :: t1 :: t0 :: rest := by
  obtain ⟨t2, more, rfl, h⟩ := exists_cons_of_lt_length (n := 2) (by omega : 2 < more.length)
  obtain ⟨t1, more, rfl, h⟩ := exists_cons_of_lt_length (by omega : 1 < more.length)
  obtain ⟨t0, more, rfl, -⟩ := exists_cons_of_lt_length (by omega : 0 < more.length)
  exact ⟨t2, t1, t0, more, rfl⟩

theorem exists_seven_of_length {more : List Byte} (h : ¬ more.length < 7) :
    ∃ t2 t1 t0 b1 b0 c1 c0 rest, more = t2 :: t1 :: t0 :: b1 :: b0 :: c1 :: c0 :: rest := by
  obtain ⟨b2, b1, b0, more, rfl⟩ := exists_three_of_length (more := more) (by omega)
  simp only [List.length_cons] at h
  obtain ⟨a2, a1, a0, more, rfl⟩ := exists_three_of_length (more := more) (by omega)
  simp only [List.length_cons] at h
  obtain ⟨a, more, rfl, -⟩ := exists_cons_of_lt_length (by omega : 0 < more.length)
  exact ⟨_, _, _, _, _, _, _, more, rfl⟩

theorem exists_eleven_of_length {more : List Byte} (h : ¬ more.length < 11) :
    ∃ t2 t1 t0 a1 a0 b1 b0 c1 c0 fl al rest,
      more = t2 :: t1 :: t0 :: a1 :: a0 :: b1 :: b0 :: c1 :: c0 :: fl :: al :: rest := by
  obtain ⟨a, b, c, d, e, f, g, more, rfl⟩ := exists_seven_of_length (more := more) (by omega)
  simp only [List.length_cons] at h
  obtain ⟨a2, a1, a0, more, rfl⟩ := exists_three_of_length (more := more) (by omega)
  simp only [List.length_cons] at h
  obtain ⟨x, more, rfl, -⟩ := exists_cons_of_lt_length (by omega : 0 < more.length)
  exact ⟨_, _, _, _, _, _, _, _, _, _, _, more, rfl⟩

/-- The header of no known kind. -/
def NoKind (hd : Byte) : Prop := hd &&& 127 ≠ 1 ∧ hd &&& 127 ≠ 2 ∧ hd &&& 127 ≠ 3 ∧ hd &&& 127 ≠ 4

/-- A record that ends before the last byte of its kind. -/
def EndsEarly (hd : Byte) (more : List Byte) : Prop :=
  (hd &&& 127 = 1 ∧ more.length < 11) ∨ (hd &&& 127 = 2 ∧ more.length < 7) ∨
    ((hd &&& 127 = 3 ∨ hd &&& 127 = 4) ∧ more.length < 3)

/-- A record of a known kind with all of its bytes. -/
inductive Whole (hd : Byte) : List Byte → Prop
  | full (hk : hd &&& 127 = 1) (t2 t1 t0 a1 a0 b1 b0 c1 c0 fl al : Byte) (rest : List Byte) :
    Whole hd (t2 :: t1 :: t0 :: a1 :: a0 :: b1 :: b0 :: c1 :: c0 :: fl :: al :: rest)
  | temp (hk : hd &&& 127 = 2) (t2 t1 t0 b1 b0 c1 c0 : Byte) (rest : List Byte) :
    Whole hd (t2 :: t1 :: t0 :: b1 :: b0 :: c1 :: c0 :: rest)
  | beat (hk : hd &&& 127 = 3) (t2 t1 t0 : Byte) (rest : List Byte) : Whole hd (t2 :: t1 :: t0 :: rest)
  | off (hk : hd &&& 127 = 4) (t2 t1 t0 : Byte) (rest : List Byte) : Whole hd (t2 :: t1 :: t0 :: rest)

theorem header_cases (hd : Byte) (more : List Byte) : NoKind hd ∨ EndsEarly hd more ∨ Whole hd more := by
  by_cases h1 : hd &&& 127 = 1
  · by_cases hl : more.length < 11
    · exact .inr (.inl (.inl ⟨h1, hl⟩))
    · obtain ⟨_, _, _, _, _, _, _, _, _, _, _, rest, rfl⟩ := exists_eleven_of_length hl
      exact .inr (.inr (.full h1 ..))
  by_cases h2 : hd &&& 127 = 2
  · by_cases hl : more.length < 7
    · exact .inr (.inl (.inr (.inl ⟨h2, hl⟩)))
    · obtain ⟨_, _, _, _, _, _, _, rest, rfl⟩ := exists_seven_of_length hl
      exact .inr (.inr (.temp h2 ..))
  by_cases h34 : hd &&& 127 = 3 ∨ hd &&& 127 = 4
  · by_cases hl : more.length < 3
    · exact .inr (.inl (.inr (.inr ⟨h34, hl⟩)))
    · obtain ⟨_, _, _, rest, rfl⟩ := exists_three_of_length hl
      exact .inr (.inr (h34.elim (.beat · ..) (.off · ..)))
  · exact .inl ⟨h1, h2, fun h => h34 (.inl h), fun h => h34 (.inr h)⟩

/-- What is read of a record with all of its bytes. -/
def Reads (b : List Byte) (r : BatchRecord) (final : Bool) (rest : List Byte) : Prop :=
  ∃ hd t2 t1 t0 more, b = hd :: t2 :: t1 :: t0 :: more ∧ final = hd.getLsbD 7 ∧ r.tag = (t2 ++ t1 ++ t0).toNat ∧
    match r.body with
    | .full sp su re co de al =>
      (hd &&& 127) = 1 ∧ ∃ a1 a0 b1 b0 c1 c0 fl, more = a1 :: a0 :: b1 :: b0 :: c1 :: c0 :: fl :: al :: rest ∧
        sp = (a1 ++ a0).toInt ∧ su = (b1 ++ b0).toInt ∧ re = (c1 ++ c0).toInt ∧ co = fl.getLsbD 0 ∧ de = fl.getLsbD 1
    | .temp su re => (hd &&& 127) = 2 ∧ ∃ b1 b0 c1 c0, more = b1 :: b0 :: c1 :: c0 :: rest ∧
        su = (b1 ++ b0).toInt ∧ re = (c1 ++ c0).toInt
    | .beat => (hd &&& 127) = 3 ∧ more = rest
    | .off => (hd &&& 127) = 4 ∧ more = rest

theorem Whole.reads {more : List Byte} (h : Whole hd more) :
    ∃ r rest, readRecord (hd :: more) = .record r (hd.getLsbD 7) rest ∧ Reads (hd :: more) r (hd.getLsbD 7) rest := by
  cases h with
  | full hk t2 t1 t0 a1 a0 b1 b0 c1 c0 fl al rest =>
    exact ⟨_, rest, readRecord_full hk .., hd, t2, t1, t0, _, rfl, rfl, rfl, hk, a1, a0, b1, b0, c1, c0, fl, rfl, rfl, rfl,
      rfl, rfl, rfl⟩
  | temp hk t2 t1 t0 b1 b0 c1 c0 rest =>
    exact ⟨_, rest, readRecord_temp hk .., hd, t2, t1, t0, _, rfl, rfl, rfl, hk, b1, b0, c1, c0, rfl, rfl, rfl⟩
  | beat hk t2 t1 t0 rest => exact ⟨_, rest, readRecord_beat hk .., hd, t2, t1, t0, _, rfl, rfl, rfl, hk, rfl⟩
  | off hk t2 t1 t0 rest => exact ⟨_, rest, readRecord_off hk .., hd, t2, t1, t0, _, rfl, rfl, rfl, hk, rfl⟩

end

theorem readRecord_eq_unknown_iff {b : List Byte} : readRecord b = .unknown ↔ ∃ hd more, b = hd :: more ∧ NoKind hd := by
  constructor
  · intro h
    cases b with
    | nil => cases h
    | cons hd more =>
      rcases header_cases hd more with hn | he | hw
      · exact ⟨hd, more, rfl, hn⟩
      · rw [readRecord_short he] at h
        cases h
      · obtain ⟨r, rest, hr, -⟩ := hw.reads
        rw [hr] at h
        cases h
  · rintro ⟨hd, more, rfl, h1, h2, h3, h4⟩
    exact readRecord_unknown h1 h2 h3 h4

theorem readRecord_eq_partial_iff {b : List Byte} :
    readRecord b = .partialRecord ↔ b = [] ∨ ∃ hd more, b = hd :: more ∧ EndsEarly hd more := by
  constructor
  · intro h
    cases b with
    | nil => exact .inl rfl
    | cons hd more =>
      rcases header_cases hd more with ⟨h1, h2, h3, h4⟩ | he | hw
      · rw [readRecord_unknown h1 h2 h3 h4] at h
        cases h
      · exact .inr ⟨hd, more, rfl, he⟩
      · obtain ⟨r, rest, hr, -⟩ := hw.reads
        rw [hr] at h
        cases h
  · rintro (rfl | ⟨hd, more, rfl, he⟩)
    · rfl
    · exact readRecord_short he

theorem reads_of_readRecord {b : List Byte} {r : BatchRecord} {final : Bool} {rest : List Byte}
    (h : readRecord b = .record r final rest) : Reads b r final rest := by
  cases b with
  | nil => cases h
  | cons hd more =>
    rcases header_cases hd more with ⟨h1, h2, h3, h4⟩ | he | hw
    · rw [readRecord_unknown h1 h2 h3 h4] at h
      cases h
    · rw [readRecord_short he] at h
      cases h
    · obtain ⟨r', rest', hr, hs⟩ := hw.reads
      rw [hr] at h
      cases h
      exact hs

/-! ## The records of a batch -/

theorem readRecords_succ (n : Nat) (b : List Byte) : readRecords (n + 1) b =
    match readRecord b with
    | .record r final rest =>
      if final then ([r], .final) else (r :: (readRecords n rest).1, (readRecords n rest).2)
    | .partialRecord => ([], .truncated)
    | .unknown => ([], .unknownKind) := by
  rw [readRecords]
  cases readRecord b with
  | record r final rest => cases final <;> rfl
  | _ => rfl

theorem length_readRecords_le (n : Nat) (b : List Byte) : (readRecords n b).1.length ≤ n := by
  induction n generalizing b with
  | zero => exact le_refl _
  | succ n ih =>
    rw [readRecords_succ]
    cases readRecord b with
    | record r final rest =>
      dsimp only
      cases final with
      | true => simp
      | false => simpa using ih rest
    | _ => simp

/-! ## The gateway part -/

/-- A BATCH of a listed gateway (R126, R128). -/
theorem batchListed_of_gateway {s : State} {e : Term} {st : GatewayState} {cnt : Nat} (he : e.part = .gateway st cnt)
    (payload : List Byte) (i : SlotIx) : batchListed payload i e s =
    (let x := { s with
      terms := put s.terms i (some
        { e with
          part := .gateway (.reporting s.uptime (some (s.uptime + s.mgmt.params.gatewaySilence * 1000))) cnt }) }
     let y := match st with
      | .silent last =>
        raise .gatewayResumed e.number.toNat (BitVec.ofNat 16 (min ((s.uptime - last) / 1000) 65535)) x
      | _ => x
     countEnd (readRecords 30 payload).2 ((readRecords 30 payload).1.foldl (handleRecord i e.number e.segment)
       { y with reef := { s.reef with cnt := { s.reef.cnt with batches := inc s.reef.cnt.batches } } })) := by
  unfold batchListed
  rw [he]
  dsimp only
  refine congrArg (fun x => countEnd _ (List.foldl _ x _)) ?_
  cases st with
  | silent last =>
    dsimp only [gatewayHeard, State.countReef, State.modReef]
    rw [raise_reef]
    rfl
  | _ => rfl

theorem countEnd_eq (p : BatchEnd) (z : State) : countEnd p z =
    match p with
    | .final => z
    | .truncated => { z with reef := { z.reef with cnt := { z.reef.cnt with batchTruncated := inc z.reef.cnt.batchTruncated } } }
    | .unknownKind => { z with reef := { z.reef with cnt := { z.reef.cnt with unknownKind := inc z.reef.cnt.unknownKind } } } := by
  cases p <;> rfl

/-- Settles O40. -/
theorem batchesAreReadRecordByRecord : Obligations.BatchesAreReadRecordByRecord := by
  refine ⟨fun s k n payload i e hr hu hp h0 h1 hl => ?_, readRecords_succ, fun b => rfl, length_readRecords_le,
    fun b => readRecord_eq_unknown_iff, fun b => readRecord_eq_partial_iff, fun hd t2 t1 t0 a1 a0 b1 b0 c1 c0 fl al rest => ?_,
    fun b r final rest => reads_of_readRecord⟩
  · rw [exec_event (c := .batch k n payload) rfl hr, fromUpHead_of_isUp hu,
      classify_of_listed hp (fun e => e.elim h0 h1) hl]
    refine congrArg _ ?_
    rcases e with ⟨no, part, ho, probe, hold, stray, g, q⟩
    cases part with
    | gateway st cnt => exact (batchListed_of_gateway rfl payload i).trans (countEnd_eq _ _)
    | _ => rfl
  · exact ⟨fun hk => readRecord_full hk .., fun hk => readRecord_temp hk .., fun hk => readRecord_beat hk ..,
      fun hk => readRecord_off hk ..⟩

end Sys2Proof.Machine
end

section
/-! PROOF. A head that leaves its link state, as a whole state, and HEAD_RESTART (O20). -/

namespace Sys2Proof.Machine
open Sys2Proof Sys2Proof.Safety

/-! ## A departure beside the heads -/

section
variable (s : State) (h : HeadIx) (f : Head → Head)

theorem raise_modHead (k : NoticeKind) (u : Nat) (x : BitVec 16) :
    raise k u x (s.modHead h f) = (raise k u x s).modHead h f := by
  have hmask : (s.modHead h f).mgmt.mask = s.mgmt.mask := rfl
  cases hm : s.mgmt.mask.getLsbD k.bit with
  | false =>
    rw [raise_mgmt_of_masked hm, raise_mgmt_of_masked (hmask ▸ hm)]
    rfl
  | true =>
    rw [raise_of_unmasked hm, raise_of_unmasked (hmask ▸ hm)]
    rfl

theorem forceBicast_modHead (i : SlotIx) (e : Term) (v c : HeadIx) :
    forceBicast i e v c (s.modHead h f) = (forceBicast i e v c s).modHead h f :=
  raise_modHead ((s.setTerm i (some (e.movedTo c s.params.holdoff))).modHo fun n =>
    { n with bicastForced := inc n.bicastForced }) h f _ _ _

theorem loseCandidate_modHead (i : SlotIx) (e : Term) (v c : HeadIx) :
    loseCandidate i e v c (s.modHead h f) = (loseCandidate i e v c s).modHead h f :=
  raise_modHead ((s.setTerm i (some (e.revertedTo v s.params.holdoff))).modHo fun n =>
    { n with bicastCandidateLost := inc n.bicastCandidateLost }) h f _ _ _

theorem departEntry_modHead (d : HeadIx) (warm : Bool) (i : SlotIx) :
    departEntry d warm (s.modHead h f) i = (departEntry d warm s i).modHead h f := by
  unfold departEntry
  rw [show (s.modHead h f).term i = s.term i from rfl]
  cases s.term i with
  | none => rfl
  | some e =>
    dsimp only
    cases e.ho with
    | orphan => rfl
    | settled v => dsimp only; split <;> rfl
    | probing v c =>
      dsimp only
      split
      · cases warm <;> rfl
      · split <;> rfl
    | bicast v c x =>
      dsimp only
      split
      · exact forceBicast_modHead ..
      · split
        · exact loseCandidate_modHead ..
        · rfl

/-- A departure does not look at the heads. -/
theorem departure_modHead (d : HeadIx) (warm : Bool) :
    departure d warm (s.modHead h f) = (departure d warm s).modHead h f := by
  unfold departure
  generalize List.finRange 256 = l
  induction l generalizing s with
  | nil => rfl
  | cons i l ih => rw [List.foldl_cons, List.foldl_cons, departEntry_modHead, ih]

end

/-! ## The end of a loop test -/

/-- Whether a test in flight is answered at its end. -/
def Head.testReplies (d : Head) : Bool :=
  match d.loopTest with
  | some e => e.replies
  | none => false

/-- A head whose test has ended, with a reply that cannot be queued counted. -/
def Head.testEnded (full : Prop) [Decidable full] (d : Head) : Head :=
  { d with
    loopTest := none, ctlQ := d.untested
    cnt := { d.cnt with replyLost := if d.testReplies ∧ full then inc d.cnt.replyLost else d.cnt.replyLost } }

/-- The reply queue with the reply of a test that ends. -/
def Head.testReply (d : Head) (res : LoopResult) (q : List Reply) : List Reply :=
  match d.loopTest with
  | some e =>
    if e.replies ∧ q.length < 8 then q ++ [{ code := 14, tag := e.tag, status := .done, data := .loopTest res }] else q
  | none => q

/-- The end of a test, whether one is in flight or not (R37). -/
theorem endLoopTest_eq (s : State) (k : HeadIx) (res : LoopResult) : endLoopTest k res s =
    { s with
      heads := put s.heads k ((s.head k).testEnded (8 ≤ s.trunk.replyQ.length))
      trunk := { s.trunk with replyQ := (s.head k).testReply res s.trunk.replyQ } } := by
  cases ht : (s.head k).loopTest with
  | none =>
    have hd : (s.head k).testEnded (8 ≤ s.trunk.replyQ.length) = s.head k := by
      generalize s.head k = d at ht
      rcases d with ⟨rec, link, eth, test, last, al, cq, rq, nq, ov, tx, cnt⟩
      subst ht
      simp [Head.testEnded, Head.testReplies, Head.untested]
    have hq : (s.head k).testReply res s.trunk.replyQ = s.trunk.replyQ := by
      simp only [Head.testReply, ht]
    have hput : put s.heads k (s.head k) = s.heads := put_look ..
    rw [hd, hq, hput, endLoopTest, ht]
  | some e =>
    have hu : (s.head k).untested = (s.head k).ctlQ.filter fun c => !c.isLoopTest := if_pos (by simp [ht])
    rw [endLoopTest_of_test ht]
    simp only [Head.testEnded, Head.testReplies, Head.testReply, hu, ht]
    cases e.replies with
    | false => simp
    | true =>
      by_cases hl : s.trunk.replyQ.length < 8
      · simp [hl, Nat.not_le.mpr hl]
      · simp [hl, Nat.not_lt.mp hl]

/-! ## A head gone -/

/-- A head after it has left its link state: its test ended, its alarms cleared, and its queues flushed unless the
departure is WARM (R26). -/
def Head.gone (next : HeadLink) (warm : Bool) (full : Prop) [Decidable full] (d : Head) : Head :=
  { d with
    link := next, loopTest := none, alarms := 0
    ctlQ := if warm then d.untested else [], craneQ := if warm then d.craneQ else []
    normalQ := if warm then d.normalQ else [], overrun := if warm then d.overrun else false
    cnt := { d.cnt with
      flushed := if warm then d.cnt.flushed
        else satAdd d.cnt.flushed (d.ctlQ.length + d.craneQ.length + d.normalQ.length)
      replyLost := if d.testReplies ∧ full then inc d.cnt.replyLost else d.cnt.replyLost } }

theorem Head.gone_of_flushed (next : HeadLink) (full : Prop) [Decidable full] (d : Head) :
    { Head.testEnded full { d with link := next }.flushed with alarms := 0 } = d.gone next false full := by
  have hq : Head.untested { d with link := next }.flushed = [] := ite_self _
  simp only [Head.testEnded, hq]
  rfl

theorem flush_eq (s : State) (k : HeadIx) : flush k s =
    { s with
      heads := put s.heads k (s.head k).flushed
      loops := if (s.head k).ctlQ.any CtlFrame.isSetpoint then put s.loops k { s.loop k with lastSet := none }
        else s.loops } := by
  unfold flush
  dsimp only
  by_cases hq : (s.head k).ctlQ.any CtlFrame.isSetpoint = true
  · rw [if_pos hq, if_pos hq]
    rfl
  · rw [if_neg hq, if_neg hq]
    rfl

/-- R26 as a whole state: the departure, the head, its loop and the reply of its test. -/
theorem headGone_eq (s : State) (k : HeadIx) (next : HeadLink) (warm : Bool) : headGone k next warm s =
    { departure k warm s with
      heads := put s.heads k ((s.head k).gone next warm (8 ≤ s.trunk.replyQ.length))
      loops := if warm = false ∧ (s.head k).ctlQ.any CtlFrame.isSetpoint then
        put s.loops k { s.loop k with lastSet := none } else s.loops
      trunk := { (departure k warm s).trunk with replyQ := (s.head k).testReply .headLost s.trunk.replyQ } } := by
  have hheads : (departure k warm s).heads = s.heads := departure_heads ..
  have hloops : (departure k warm s).loops = s.loops := departure_loops ..
  have hreply : (departure k warm s).trunk.replyQ = s.trunk.replyQ := departure_replyQ ..
  unfold headGone
  rw [departure_modHead]
  generalize departure k warm s = v at hheads hloops hreply ⊢
  dsimp only
  rw [endLoopTest_eq]
  cases warm with
  | true =>
    simp only [if_true, State.modHead, State.head, hheads, hreply, look_put_self, put_put, Bool.true_eq_false, false_and,
      if_false, ← hloops]
    rfl
  | false =>
    simp only [Bool.false_eq_true, if_false, flush_eq, State.modHead, State.head, State.loop, hheads, hloops, hreply,
      look_put_self, put_put, true_and]
    rw [← Head.gone_of_flushed]
    rfl

/-! ## HEAD_RESTART -/

theorem headRestartBody_eq (s : State) (h : Hdr) (p : Option HeadRestartP) :
    headRestartBody p (asker h 13) (asked s h) =
      match p with
      | none => settled (asked s h) h 13 .badParam
      | some q =>
        match ix? 12 q.head.toNat, q.kind with
        | some k, some kind =>
          match (s.head k).link with
          | .disabled => settled (asked s h) h 13 .wrongState
          | .restarting _ => settled (asked s h) h 13 .busy
          | _ => headGone k (.restarting (startRestart kind (asked s h))) (decide (kind = .warm))
              (settled (asked s h) h 13 .done)
        | _, _ => settled (asked s h) h 13 .badParam := by
  cases p with
  | none => exact answer_asker ..
  | some q =>
    cases hk : ix? 12 q.head.toNat with
    | none =>
      simp only [headRestartBody, hk, answer_asker]
      rfl
    | some k =>
      cases hq : q.kind with
      | none =>
        simp only [headRestartBody, hk, hq, answer_asker]
        rfl
      | some kind =>
        simp only [headRestartBody, hk, hq, answer_asker, asked_head]
        cases (s.head k).link <;> rfl

/-- Settles O20: the request, and what leaving a link state makes of the head and of the rest. -/
theorem headRestartsLeaveUp : Obligations.HeadRestartsLeaveUp := by
  refine ⟨fun s h p ha => (exec_accepted rfl ha).trans (congrArg _ ((headRestartBody_eq s h p).trans ?_)),
    fun s k next warm => ?_⟩
  · rcases p with _ | q
    · rfl
    · dsimp only
      cases ix? 12 q.head.toNat with
      | none => rfl
      | some k =>
        rcases q.kind with _ | _ | _
        · rfl
        · cases (s.head k).link <;> rfl
        · cases (s.head k).link <;> rfl
  · intro t d lost
    have ht : t = _ := headGone_eq s k next warm
    have hd : t.head k = d.gone next warm (8 ≤ s.trunk.replyQ.length) := by
      rw [ht]
      exact look_put_self ..
    have hloop : t.loop k =
        if warm = false ∧ d.ctlQ.any CtlFrame.isSetpoint then { s.loop k with lastSet := none } else s.loop k :=
      by
        rw [headGone_loop]
        exact if_congr (and_iff_right rfl) rfl rfl
    have hwhole : t = { departure k warm s with
        heads := t.heads, loops := t.loops,
        trunk := { (departure k warm s).trunk with replyQ := t.trunk.replyQ } } := by
      rw [ht]
    have hreply : t.trunk.replyQ = d.testReply .headLost s.trunk.replyQ := by rw [ht]
    have htrunk : TrunkSteady s.trunk t.trunk := headGone_trunk s k next warm
    have hsegs : t.segs = s.segs := headGone_segs ..
    have hcov : t.cov = s.cov := headGone_cov ..
    have hreef : t.reef = s.reef := headGone_reef ..
    have hexp : t.exp = s.exp := headGone_exp ..
    have hpart : t.part = s.part := headGone_part ..
    have hother (j : HeadIx) (hj : j ≠ k) : t.head j = s.head j ∧ t.loop j = s.loop j := by
      refine ⟨headGone_head_of_ne s hj next warm, ?_⟩
      rw [headGone_loop, if_neg (hj ·.1)]
    have hterms : t.terms = (departure k warm s).terms := by rw [ht]
    have hho : t.ho = (departure k warm s).ho := by rw [ht]
    clear_value t
    rw [hd]
    exact ⟨rfl, rfl, rfl, rfl, rfl, rfl, rfl, rfl, rfl, hreply, hloop, hterms, hho, hother, hsegs, hcov, hreef, hexp,
      hpart, htrunk.craneQ, htrunk.normalQ, hwhole⟩

end Sys2Proof.Machine
end

section
/-! PROOF. HEAD_LOAD and a record that takes effect (O19). -/

namespace Sys2Proof.Machine
open Sys2Proof Sys2Proof.Safety

/-! ## The checks of HEAD_LOAD -/

/-- R20: a request's values within Table 2-1. -/
theorem clampRecord_eq {p : HeadLoadP} (en ar : Bool) (hm : ¬min p.pMax.toNat 120 < min p.pMin.toNat 120) :
    clampRecord p en ar =
      { enabled := en, winFirst := min p.winFirst.toNat 47, winLast := min p.winLast.toNat 47
        trim := max (-16) (min 15 p.trim.toInt), baseTarget := max (-40) (min 120 p.baseTarget.toInt)
        pMin := min p.pMin.toNat 120, pMax := min p.pMax.toNat 120
        initial := max (min p.pMin.toNat 120) (min (min p.pMax.toNat 120) p.initial.toNat)
        kp := min p.kp.toNat 1023, ki := min p.ki.toNat 1023, kd := min p.kd.toNat 1023
        slew := max 1 (min 40 p.slew.toNat), guardLimit := p.guardLimit.toNat
        guardCount := max 1 (min 8 p.guardCount.toNat), autoRestore := ar
        alarmMask := p.alarmMask, alarmSense := p.alarmSense } := by
  have upper (hi x : Nat) : clampNat 0 hi x = min x hi := by
    rw [clampNat_eq_max_min (Nat.zero_le _), Nat.zero_max, min_comm]
  simp only [clampRecord, upper, clampNat_eq_max_min (Nat.not_lt.mp hm), clampNat_eq_max_min (show 1 ≤ 40 by decide),
    clampNat_eq_max_min (show 1 ≤ 8 by decide), clampInt_eq_max_min (show (-16 : Int) ≤ 15 by decide),
    clampInt_eq_max_min (show (-40 : Int) ≤ 120 by decide)]

/-- R20: DONE, or CLAMPED where a value was changed. -/
theorem recordClamped_status (p : HeadLoadP) (r : HeadRecord) :
    (if recordClamped p r then Status.clamped else .done) =
      if r.winFirst = p.winFirst.toNat ∧ r.winLast = p.winLast.toNat ∧ r.trim = p.trim.toInt ∧
        r.baseTarget = p.baseTarget.toInt ∧ r.pMin = p.pMin.toNat ∧ r.pMax = p.pMax.toNat ∧
        r.initial = p.initial.toNat ∧ r.kp = p.kp.toNat ∧ r.ki = p.ki.toNat ∧ r.kd = p.kd.toNat ∧
        r.slew = p.slew.toNat ∧ r.guardCount = p.guardCount.toNat then Status.done else .clamped := by
  simp only [recordClamped, and_assoc, ← Bool.decide_and, Bool.not_eq_true', decide_eq_false_iff_not, ite_not]

theorem headLoadBody_eq (s : State) (h : Hdr) (p : Option HeadLoadP) :
    headLoadBody p (asker h 11) (asked s h) =
      match p with
      | none => settled (asked s h) h 11 .badParam
      | some q =>
        match q.enabled, q.autoRestore, ix? 12 q.head.toNat with
        | some en, some ar, some k =>
          if 62 < q.winFirst.toNat ∨ 62 < q.winLast.toNat then settled (asked s h) h 11 .badParam
          else if min q.winLast.toNat 47 < min q.winFirst.toNat 47 then settled (asked s h) h 11 .badParam
          else if min q.pMax.toNat 120 < min q.pMin.toNat 120 then settled (asked s h) h 11 .badParam
          else applyRecord k (clampRecord q en ar)
            (settled (asked s h) h 11 (if recordClamped q (clampRecord q en ar) then .clamped else .done))
        | _, _, _ => settled (asked s h) h 11 .badParam := by
  cases p with
  | none => exact answer_asker ..
  | some q =>
    have upper (hi x : Nat) : clampNat 0 hi x = min x hi := by
      rw [clampNat_eq_max_min (Nat.zero_le _), Nat.zero_max, min_comm]
    have hfirst (en ar : Bool) : (clampRecord q en ar).winFirst = min q.winFirst.toNat 47 := upper ..
    have hlast (en ar : Bool) : (clampRecord q en ar).winLast = min q.winLast.toNat 47 := upper ..
    have hmin (en ar : Bool) : (clampRecord q en ar).pMin = min q.pMin.toNat 120 := upper ..
    have hmax (en ar : Bool) : (clampRecord q en ar).pMax = min q.pMax.toNat 120 := upper ..
    unfold headLoadBody checkHeadLoad
    dsimp only
    cases q.enabled with
    | none => exact answer_asker ..
    | some en =>
      cases q.autoRestore with
      | none => exact answer_asker ..
      | some ar =>
        cases ix? 12 q.head.toNat with
        | none => exact answer_asker ..
        | some k =>
          simp only [hfirst, hlast, hmin, hmax]
          by_cases hw : 62 < q.winFirst.toNat ∨ 62 < q.winLast.toNat
          · rw [if_pos hw, if_pos hw]
            exact answer_asker ..
          rw [if_neg hw, if_neg hw]
          by_cases ho : min q.winLast.toNat 47 < min q.winFirst.toNat 47
          · rw [if_pos ho, if_pos ho]
            exact answer_asker ..
          rw [if_neg ho, if_neg ho]
          by_cases hm : min q.pMax.toNat 120 < min q.pMin.toNat 120
          · rw [if_pos hm, if_pos hm]
            exact answer_asker ..
          rw [if_neg hm, if_neg hm]
          exact congrArg (applyRecord k _) (answer_asker ..)

/-! ## What a record changes -/

section
variable (s : State) (k : HeadIx) (r : HeadRecord)

/-- R105: the new record, and the cells of the new window. -/
theorem recorded_eq : recorded k r s =
    { s with
      heads := put s.heads k { s.head k with record := r }, cov := { s.cov with cells := (recorded k r s).cov.cells } } := by
  unfold recorded windowChange
  split <;> rfl

theorem recorded_cell_self (g : SegIx) : (recorded k r s).cell k g =
    if ((s.head k).record.winFirst = r.winFirst ∧ (s.head k).record.winLast = r.winLast) ∨
      ((s.head k).record.covers g = true ∧ r.covers g = true) then s.cell k g else Cell.cleared := by
  unfold recorded windowChange
  by_cases hw : (s.head k).record.winFirst = r.winFirst ∧ (s.head k).record.winLast = r.winLast
  · rw [if_pos hw, if_pos (.inl hw)]
    rfl
  · rw [if_neg hw]
    simp only [State.cell, State.modCov_cov, look_put_self, look_tabulate, hw, false_or, Bool.and_eq_true]
    rfl

theorem recorded_cell_of_ne {j : HeadIx} (hj : j ≠ k) (g : SegIx) : (recorded k r s).cell j g = s.cell j g := by
  unfold recorded windowChange
  split
  · rfl
  · simp only [State.cell, State.modCov_cov, look_put, if_neg hj]
    rfl

theorem loadSetpoint_cov (old : HeadRecord) : (loadSetpoint k old r s).cov = s.cov := by
  unfold loadSetpoint
  dsimp only
  (repeat' split) <;> simp [clampOffset]

/-- The cells are those of the new window; nothing else of the coverage changes. -/
theorem applyRecord_cov : (applyRecord k r s).cov = (recorded k r s).cov := by
  rcases Bool.eq_false_or_eq_true r.enabled with he | he <;> by_cases hl : (s.head k).link = .disabled
  · rw [applyRecord_of_enabled s k hl he]
    rfl
  · rw [applyRecord_of_stays s k hl he, loadSetpoint_cov]
  · rw [applyRecord_of_idle s k hl he]
    rfl
  · rw [applyRecord_of_gone s k hl he, clampOffset, State.modLoop_cov, headGone_cov]

theorem applyRecord_cell (j : HeadIx) (g : SegIx) : (applyRecord k r s).cell j g = (recorded k r s).cell j g := by
  rw [State.cell, State.cell, applyRecord_cov]

theorem loadSetpoint_rest (old : HeadRecord) : (loadSetpoint k old r s).terms = s.terms ∧
    (loadSetpoint k old r s).mgmt = s.mgmt ∧ (loadSetpoint k old r s).trunk = s.trunk := by
  unfold loadSetpoint
  dsimp only
  (repeat' split) <;> simp [clampOffset]

/-- A head that is enabled sends its terminals nowhere, and says so to nobody. -/
theorem applyRecord_rest (he : r.enabled = true) : (applyRecord k r s).terms = s.terms ∧
    (applyRecord k r s).mgmt = s.mgmt ∧ (applyRecord k r s).trunk = s.trunk := by
  by_cases hl : (s.head k).link = .disabled
  · rw [applyRecord_of_enabled s k hl he, loopEnabled]
    exact ⟨recorded_terms .., recorded_mgmt .., recorded_trunk ..⟩
  · obtain ⟨hterms, hmgmt, htrunk⟩ := loadSetpoint_rest (recorded k r s) k r (s.head k).record
    rw [applyRecord_of_stays s k hl he, hterms, hmgmt, htrunk]
    exact ⟨recorded_terms .., recorded_mgmt .., recorded_trunk ..⟩

theorem loadSetpoint_record (old : HeadRecord) : ((loadSetpoint k old r s).head k).record = (s.head k).record := by
  have offered (v : Nat) (u : State) (hu : u.heads = s.heads) :
      ((offerSetpoint k v u).head k).record = (s.head k).record := by
    obtain ⟨c, hc⟩ := offerCtl_head u k (.setpoint v)
    rw [offerSetpoint, State.head_modLoop, hc, State.head_congr hu]
  unfold loadSetpoint
  dsimp only
  (repeat' split) <;> first | rfl | exact offered _ _ rfl

theorem applyRecord_record : ((applyRecord k r s).head k).record = r := by
  rcases Bool.eq_false_or_eq_true r.enabled with he | he <;> by_cases hl : (s.head k).link = .disabled
  · rw [applyRecord_of_enabled s k hl he, loopEnabled, State.head_modLoop, State.head_modHead_self, recorded_head_self]
  · rw [applyRecord_of_stays s k hl he, loadSetpoint_record, recorded_head_self]
  · rw [applyRecord_of_idle s k hl he, clampOffset, State.head_modLoop, recorded_head_self]
  · obtain ⟨c, hc⟩ := headGone_head (recorded k r s) k .disabled false
    rw [applyRecord_of_gone s k hl he, clampOffset, State.head_modLoop, hc, recorded_head_self]

theorem applyRecord_link : ((applyRecord k r s).head k).link =
    if r.enabled then (if (s.head k).link = .disabled then .offline else (s.head k).link) else .disabled := by
  rcases Bool.eq_false_or_eq_true r.enabled with he | he <;> by_cases hl : (s.head k).link = .disabled
  · rw [applyRecord_of_enabled s k hl he, loopEnabled, State.head_modLoop, State.head_modHead_self, if_pos he, if_pos hl]
  · rw [applyRecord_of_stays s k hl he, loadSetpoint_link, recorded_link, if_pos he, if_neg hl]
  · rw [applyRecord_of_idle s k hl he, clampOffset, State.head_modLoop, recorded_link, hl, if_neg (by simp [he])]
  · rw [applyRecord_of_gone s k hl he, clampOffset, State.head_modLoop, headGone_link, if_pos rfl, if_neg (by simp [he])]

/-- R117: the loop of a head enabled from DISABLED begins anew; any other has its offset clamped. -/
def loadedLoop (l : LoopState) (fresh : Prop) [Decidable fresh] : LoopState :=
  if fresh then { l with u := r.initial, e1 := 0, e2 := 0, status := .unmeasured, guarded := false, run := 0 }
  else { l with u := clampNat r.pMin r.pMax l.u }

theorem loadSetpoint_loop_self (old : HeadRecord) : ∃ v, (loadSetpoint k old r s).loop k =
    { s.loop k with u := clampNat r.pMin r.pMax (s.loop k).u, lastSet := v } := by
  have clamped : (clampOffset k r s).loop k = { s.loop k with u := clampNat r.pMin r.pMax (s.loop k).u } :=
    State.loop_modLoop_self ..
  unfold loadSetpoint
  dsimp only
  (repeat' split) <;> simp only [offerSetpoint_loop, clamped] <;> exact ⟨_, rfl⟩

theorem applyRecord_loop_self : ∃ v, (applyRecord k r s).loop k =
    { loadedLoop r (s.loop k) ((s.head k).link = .disabled ∧ r.enabled = true) with lastSet := v } := by
  have same : (recorded k r s).loop k = s.loop k := State.loop_congr (recorded_loops s k) k
  rcases Bool.eq_false_or_eq_true r.enabled with he | he <;> by_cases hl : (s.head k).link = .disabled
  · rw [applyRecord_of_enabled s k hl he, loopEnabled, State.loop_modLoop_self, State.loop_modHead, same, loadedLoop,
      if_pos ⟨hl, he⟩]
    exact ⟨_, rfl⟩
  · rw [applyRecord_of_stays s k hl he, loadedLoop, if_neg (hl ·.1), ← same]
    exact loadSetpoint_loop_self ..
  · rw [applyRecord_of_idle s k hl he, clampOffset, State.loop_modLoop_self, same, loadedLoop, if_neg (by simp [he])]
    exact ⟨_, rfl⟩
  · have gone := headGone_loop (recorded k r s) k .disabled false k
    have kept : ¬((s.head k).link = .disabled ∧ r.enabled = true) := (hl ·.1)
    rw [same] at gone
    rw [applyRecord_of_gone s k hl he, clampOffset, State.loop_modLoop_self, gone, loadedLoop, if_neg kept]
    split <;> exact ⟨_, rfl⟩

end

/-- R117: what a record makes of a head that stays enabled. -/
theorem loadSetpoint_recorded (s : State) (k : HeadIx) (r : HeadRecord) :
    loadSetpoint k (s.head k).record r (recorded k r s) =
      (if (s.loop k).guarded = true then
        (if (s.head k).record.pMin = r.pMin then clampOffset k r (recorded k r s)
         else offerSetpoint k r.pMin (clampOffset k r (recorded k r s)))
       else if clampNat r.pMin r.pMax (s.loop k).u = (s.loop k).u then clampOffset k r (recorded k r s)
       else offerSetpoint k (clampNat r.pMin r.pMax (s.loop k).u) (clampOffset k r (recorded k r s))) := by
  have same : (recorded k r s).loop k = s.loop k := State.loop_congr (recorded_loops s k) k
  unfold loadSetpoint
  rw [same]

/-- A head gone keeps its offset, which the record then clamps. -/
theorem clampOffset_gone (s : State) (k : HeadIx) (r : HeadRecord) :
    clampOffset k r (headGone k .disabled false (recorded k r s)) =
      { headGone k .disabled false (recorded k r s) with
        loops := put (headGone k .disabled false (recorded k r s)).loops k
          { (headGone k .disabled false (recorded k r s)).loop k with
            u := clampNat r.pMin r.pMax (s.loop k).u } } := by
  have offset : ((headGone k .disabled false (recorded k r s)).loop k).u = (s.loop k).u := by
    rw [headGone_loop, State.loop_congr (recorded_loops s k)]
    split <;> rfl
  rw [← offset]
  rfl

theorem clampOffset_recorded (s : State) (k : HeadIx) (r : HeadRecord) : clampOffset k r (recorded k r s) =
    { s with
      heads := put s.heads k { s.head k with record := r }, cov := { s.cov with cells := (recorded k r s).cov.cells }
      loops := put s.loops k { s.loop k with u := clampNat r.pMin r.pMax (s.loop k).u } } := by
  have h := recorded_eq s k r
  generalize (recorded k r s).cov.cells = c at h
  rw [h]
  rfl

theorem loopEnabled_recorded (s : State) (k : HeadIx) (r : HeadRecord) :
    loopEnabled k r ((recorded k r s).modHead k fun d => { d with link := .offline }) =
    { s with
      heads := put s.heads k { s.head k with record := r, link := .offline }
      cov := { s.cov with cells := (recorded k r s).cov.cells }
      loops := put s.loops k
        { s.loop k with u := r.initial, e1 := 0, e2 := 0, status := .unmeasured, guarded := false, run := 0 } } := by
  have h := recorded_eq s k r
  generalize (recorded k r s).cov.cells = c at h
  rw [h, State.modHead, State.head, look_put_self, put_put]
  rfl

/-- Settles O19: the request by its checks in order, and a record by whether its head was and stays enabled. -/
theorem headLoadReplacesTheRecord : Obligations.HeadLoadReplacesTheRecord := by
  refine ⟨fun s h p ha => (exec_accepted rfl ha).trans (congrArg _ ((headLoadBody_eq s h p).trans ?_)), fun s k r => ?_⟩
  · rcases p with _ | q
    · rfl
    dsimp only
    rcases q.enabled with _ | en
    · rfl
    rcases q.autoRestore with _ | ar
    · rfl
    rcases ix? 12 q.head.toNat with _ | k
    · rfl
    dsimp only
    refine if_congr Iff.rfl rfl (if_congr Iff.rfl rfl ?_)
    by_cases hm : min q.pMax.toNat 120 < min q.pMin.toNat 120
    · rw [if_pos hm, if_pos hm]
    · rw [if_neg hm, if_neg hm, recordClamped_status, clampRecord_eq en ar hm]
  · intro t old wasOff u'
    have hcells : t.cov.cells = (recorded k r s).cov.cells := congrArg Coverage.cells (applyRecord_cov s k r)
    obtain ⟨v, hloop⟩ : ∃ v, t.loop k = _ := applyRecord_loop_self s k r
    have hrecord : (t.head k).record = r := applyRecord_record s k r
    have hlink : (t.head k).link =
        if r.enabled then (if wasOff then .offline else (s.head k).link) else .disabled := applyRecord_link s k r
    have hcell (g : SegIx) : t.cell k g = _ := (applyRecord_cell s k r k g).trans (recorded_cell_self s k r g)
    have hother (j : HeadIx) (hj : j ≠ k) : t.head j = s.head j ∧ t.loop j = s.loop j ∧ ∀ g, t.cell j g = s.cell j g :=
      ⟨applyRecord_head_of_ne s hj r, applyRecord_loop_of_ne s k hj r, fun g =>
        (applyRecord_cell s k r j g).trans (recorded_cell_of_ne s k r hj g)⟩
    have hsegs : t.segs = s.segs := applyRecord_segs ..
    obtain ⟨hreef, hexp, -⟩ : t.reef = s.reef ∧ t.exp = s.exp ∧ t.uptime = s.uptime := applyRecord_reef_exp s k r
    have hstays (hoff : ¬wasOff) (he : r.enabled = true) : t = _ :=
      (applyRecord_of_stays s k hoff he).trans (loadSetpoint_recorded s k r)
    have hon (hoff : wasOff) (he : r.enabled = true) : t = _ :=
      (applyRecord_of_enabled s k hoff he).trans (loopEnabled_recorded s k r)
    have hidle (hoff : wasOff) (he : r.enabled = false) : t = _ :=
      (applyRecord_of_idle s k hoff he).trans (clampOffset_recorded s k r)
    have hgone (hoff : ¬wasOff) (he : r.enabled = false) : t = _ :=
      (applyRecord_of_gone s k hoff he).trans (clampOffset_gone s k r)
    have hkept (he : r.enabled = true) : t.terms = s.terms ∧ t.mgmt = s.mgmt ∧ t.trunk = s.trunk :=
      applyRecord_rest s k r he
    clear_value t
    rw [hloop]
    refine ⟨hrecord, hlink, hcell, ?_, ?_, ?_, ?_, ?_, ?_, fun hoff he => ⟨_, hstays hoff he, ?_⟩, fun hoff => ?_,
      fun hoff he => ⟨headGone k .disabled false (recorded k r s), hgone hoff he, ?_⟩, hother, fun he => ?_, hsegs, hreef,
      hexp⟩
    · exact apply_ite LoopState.u ..
    · exact apply_ite LoopState.e1 ..
    · exact apply_ite LoopState.e2 ..
    · exact apply_ite LoopState.status ..
    · exact apply_ite LoopState.guarded ..
    · exact apply_ite LoopState.run ..
    · rw [hcells]
      exact clampOffset_recorded s k r
    · rw [hcells]
      rcases Bool.eq_false_or_eq_true r.enabled with he | he
      · rw [hon hoff he, if_pos he, if_pos he]
      · have hoff' : (s.head k).link = .disabled := hoff
        rw [hidle hoff he, if_neg (by simp [he]), if_neg (by simp [he]), ← hoff']
    · rw [hcells]
      exact congrArg (headGone k .disabled false) (recorded_eq s k r)
    · exact hkept he


end Sys2Proof.Machine
end

section
/-! PROOF. A HEADSTAT by the head's link state, with its alarm evaluation (O21). -/

namespace Sys2Proof.Machine
open Sys2Proof Sys2Proof.Safety

/-! ## The alarm evaluation -/

section
variable (s : State) (k : HeadIx) (flags : Byte)

theorem activeSet_getLsbD (mask sense flags : Byte) (b : Fin 8) : (activeSet mask sense flags).getLsbD b =
    (mask.getLsbD b && (if sense.getLsbD b then !flags.getLsbD b else flags.getLsbD b)) := by
  rw [activeSet, BitVec.getLsbD_and, BitVec.getLsbD_xor]
  cases sense.getLsbD b <;> simp

/-- No flag is newly active exactly when every active flag was active. -/
theorem fresh_eq_zero_iff (now old : Byte) :
    now &&& ~~~old = 0 ↔ ∀ b : Fin 8, now.getLsbD b = true → old.getLsbD b = true := by
  constructor
  · intro h b hb
    have bit := congrArg (BitVec.getLsbD · b) h
    simpa [hb] using bit
  · intro h
    refine BitVec.eq_of_getLsbD_eq fun i hi => ?_
    have bit := h ⟨i, hi⟩
    cases ho : old.getLsbD i <;> simp_all

theorem evalAlarms_eq : evalAlarms k flags s =
    if ∀ b : Fin 8, (activeSet (s.head k).record.alarmMask (s.head k).record.alarmSense flags).getLsbD b = true →
        (s.head k).alarms.getLsbD b = true then
      setHead s k { s.head k with alarms := activeSet (s.head k).record.alarmMask (s.head k).record.alarmSense flags }
    else
      raise .headAlarm k.val
        (activeSet (s.head k).record.alarmMask (s.head k).record.alarmSense flags ++
          (activeSet (s.head k).record.alarmMask (s.head k).record.alarmSense flags &&& ~~~(s.head k).alarms))
        (setHead s k { s.head k with alarms := activeSet (s.head k).record.alarmMask (s.head k).record.alarmSense flags }) := by
  unfold evalAlarms
  dsimp only
  rw [halves_eq, BitVec.ofNat_toNat, BitVec.ofNat_toNat, BitVec.setWidth_eq, BitVec.setWidth_eq]
  exact if_congr (fresh_eq_zero_iff ..) rfl rfl

theorem evalAlarms_heads : (evalAlarms k flags s).heads = put s.heads k
    { s.head k with alarms := activeSet (s.head k).record.alarmMask (s.head k).record.alarmSense flags } := by
  rw [evalAlarms_eq]
  split
  · rfl
  · exact raise_heads ..

theorem evalAlarms_head_self : (evalAlarms k flags s).head k =
    { s.head k with alarms := activeSet (s.head k).record.alarmMask (s.head k).record.alarmSense flags } := by
  rw [State.head, evalAlarms_heads, look_put_self]

theorem evalAlarms_keeps_summary {b : Nat} (h : s.mgmt.summary.getLsbD b = true) :
    (evalAlarms k flags s).mgmt.summary.getLsbD b = true := by
  rw [evalAlarms_eq]
  split
  · exact h
  · rw [raise_summary, BitVec.getLsbD_or]
    exact Bool.or_eq_true_iff.mpr (.inl h)

theorem raise_summary_self (n : NoticeKind) (u : Nat) (d : BitVec 16) :
    (raise n u d s).mgmt.summary.getLsbD n.bit = true := by
  rw [raise_summary, BitVec.getLsbD_or]
  refine Bool.or_eq_true_iff.mpr (.inr ?_)
  cases n <;> rfl

end

/-! ## A SETPOINT offered -/

section
variable {s : State} {k : HeadIx}

theorem mem_pushCtl (f : CtlFrame) (q : List CtlFrame) : f ∈ pushCtl f q := by
  unfold pushCtl
  split
  next h =>
    obtain ⟨c, hc, hs⟩ := List.any_eq_true.mp (Bool.and_eq_true_iff.mp h).2
    exact List.mem_map.mpr ⟨c, hc, if_pos hs⟩
  next => exact List.mem_append_right _ (List.mem_singleton_self f)

/-- A SETPOINT offered to an open head with room is its last setpoint and waits in its queue. -/
theorem offerSetpoint_of_room (ho : s.headOpen k = true) (hl : (s.head k).ctlQ.length < 8) (v : Nat) :
    ((offerSetpoint k v s).loop k).lastSet = some v ∧ CtlFrame.setpoint v ∈ ((offerSetpoint k v s).head k).ctlQ := by
  have admitted : s.ctlAdmits k (.setpoint v) = true := (ctlAdmits_setpoint_iff s k v).mpr ⟨ho, .inr hl⟩
  obtain ⟨c, hc⟩ := offerCtl_head s k (.setpoint v)
  constructor
  · rw [offerSetpoint_loop, if_pos rfl, if_pos admitted]
  · rw [offerSetpoint, State.head_modLoop, hc, if_pos admitted]
    exact mem_pushCtl ..

/-- A SETPOINT offered changes of a head its control queue and its counters. -/
theorem offerSetpoint_head (s : State) (k : HeadIx) (v : Nat) :
    ∃ q c, (offerSetpoint k v s).head k = { s.head k with ctlQ := q, cnt := c } := by
  obtain ⟨c, hc⟩ := offerCtl_head s k (.setpoint v)
  exact ⟨_, c, hc⟩

end

/-! ## A head enters UP (R24) -/

/-- A head that has entered UP, before its SETPOINT. -/
def entered (s : State) (k : HeadIx) (st : HeadStat) : State :=
  raise .headUp k.val 0
    (evalAlarms k st.flags (setHead s k { s.head k with link := .up s.silenceAt, last := some st, alarms := 0 }))

section
variable (s : State) (k : HeadIx) (st : HeadStat)

theorem entered_head : (entered s k st).head k =
    { s.head k with
      link := .up s.silenceAt, last := some st
      alarms := activeSet (s.head k).record.alarmMask (s.head k).record.alarmSense st.flags } := by
  rw [entered, State.head_congr (raise_heads ..), evalAlarms_head_self, State.head, look_put_self]

theorem entered_terms : (entered s k st).terms = s.terms := by
  rw [entered, raise_terms, evalAlarms_terms]

theorem entered_loops : (entered s k st).loops = s.loops := by
  rw [entered, raise_loops, evalAlarms_loops]

theorem entered_part : (entered s k st).part = s.part := by
  rw [entered, raise_part, evalAlarms_part]

theorem entered_summary : (entered s k st).mgmt.summary.getLsbD NoticeKind.headUp.bit = true := raise_summary_self ..

theorem entered_output : (entered s k st).output k = s.output k := by
  rw [State.output, entered_head, State.loop_congr (entered_loops s k st)]
  rfl

theorem enterUp_eq (tell : Bool) : enterUp k st tell s =
    if tell then offerSetpoint k (s.output k) (entered s k st) else entered s k st := by
  rw [← entered_output s k st]
  rfl

theorem entered_open (hp : s.part = .running) : (entered s k st).headOpen k = true :=
  headOpen_iff_part.mpr ⟨(entered_part s k st).trans hp, by rw [entered_head]; exact ⟨nofun, nofun⟩⟩

theorem enterUp_head (tell : Bool) : ∃ q c, (enterUp k st tell s).head k =
    { s.head k with
      link := .up s.silenceAt, last := some st, ctlQ := q, cnt := c
      alarms := activeSet (s.head k).record.alarmMask (s.head k).record.alarmSense st.flags } := by
  rw [enterUp_eq]
  cases tell with
  | false => exact ⟨_, _, entered_head s k st⟩
  | true =>
    obtain ⟨q, c, h⟩ := offerSetpoint_head (entered s k st) k (s.output k)
    exact ⟨q, c, h.trans (by rw [entered_head])⟩

theorem enterUp_summary (tell : Bool) :
    (enterUp k st tell s).mgmt.summary.getLsbD NoticeKind.headUp.bit = true := by
  rw [enterUp_eq]
  cases tell with
  | false => exact entered_summary s k st
  | true =>
    rw [if_pos rfl, offerSetpoint_mgmt]
    exact entered_summary s k st

/-- R33: whether the SETPOINT is offered with the entry into UP. -/
def Told : Prop := (s.head k).link = .offline ∨ (s.loop k).guarded = true ∨
  ∃ r, (s.head k).link = .restarting r ∧ r.kind = .cold

theorem headstatFrame_of_entering
    (he : (s.head k).link = .offline ∨ ∃ r, (s.head k).link = .restarting r ∧ r.pulseEnd = none) :
    ∃ tell, headstatFrame k st s = guardEval k st.noise (enterUp k st tell s) ∧ (tell = true ↔ Told s k) := by
  rcases he with ho | ⟨r, hr, hp⟩
  · exact ⟨true, by rw [headstatFrame, ho], by simp [Told, ho]⟩
  · refine ⟨decide (r.kind = .cold) || (s.loop k).guarded, by rw [headstatFrame, hr]; dsimp only; rw [hp], ?_⟩
    simp [Told, hr, or_comm]

end

/-! ## A HEADSTAT from a head that is UP (R27, R29) -/

section
variable (s : State) (k : HeadIx) (st : HeadStat)

/-- The head with its silence deadline armed anew. -/
def armed : State := setHead s k { s.head k with link := .up s.silenceAt }

/-- HEAD_REBOOTED raised, with the number of terminals served. -/
def rebootNoted : State :=
  raise .headRebooted k.val
    (BitVec.ofNat 16
      (min ((List.finRange 256).countP fun i => (s.term i).any fun e => decide (e.ho.serving = some k)) 65535)) (armed s k)

/-- A loop without its history. -/
def forgetHistory (s : State) (k : HeadIx) : State :=
  { s with loops := put s.loops k { s.loop k with e1 := 0, e2 := 0 } }

/-- The departure of a head that has rebooted, its loop history cleared. -/
def rebooted : State := forgetHistory (departure k false (rebootNoted s k)) k

theorem forgetHistory_heads : (forgetHistory s k).heads = s.heads := rfl
theorem forgetHistory_terms : (forgetHistory s k).terms = s.terms := rfl
theorem forgetHistory_part : (forgetHistory s k).part = s.part := rfl
theorem forgetHistory_mgmt : (forgetHistory s k).mgmt = s.mgmt := rfl
theorem forgetHistory_loop : (forgetHistory s k).loop k = { s.loop k with e1 := 0, e2 := 0 } := look_put_self ..

theorem rebootNoted_term (j : SlotIx) : (rebootNoted s k).term j = s.term j := State.term_congr (raise_terms ..) j
theorem rebootNoted_params : (rebootNoted s k).mgmt.params = s.mgmt.params := raise_params ..

theorem armed_head : (armed s k).head k = { s.head k with link := .up s.silenceAt } := look_put_self ..

theorem rebooted_heads : (rebooted s k).heads = (armed s k).heads := by
  rw [rebooted, forgetHistory_heads, departure_heads, rebootNoted, raise_heads]

theorem rebooted_loop : (rebooted s k).loop k = { s.loop k with e1 := 0, e2 := 0 } := by
  have same : (departure k false (rebootNoted s k)).loops = s.loops := by
    rw [departure_loops, rebootNoted, raise_loops]
    rfl
  rw [rebooted, forgetHistory_loop, State.loop_congr same]

theorem rebooted_part : (rebooted s k).part = s.part := by
  rw [rebooted, forgetHistory_part, departure_part, rebootNoted, raise_part]
  rfl

theorem rebooted_terms : (rebooted s k).terms = (departure k false s).terms := by
  rw [rebooted, forgetHistory_terms]
  refine table_ext fun j => ?_
  have left := departure_term k false (rebootNoted s k) j
  rw [rebootNoted_term, rebootNoted_params] at left
  exact left.trans (departure_term k false s j).symm

theorem rebooted_summary : (rebooted s k).mgmt.summary.getLsbD NoticeKind.headRebooted.bit = true := by
  rw [rebooted, forgetHistory_mgmt, departure_eq, withTable_mgmt]
  exact raiseAll_keeps_summary _ _ (raise_summary_self ..)

theorem rebooted_output : (rebooted s k).output k = s.output k := by
  rw [State.output, rebooted_loop, State.head_congr (rebooted_heads s k), armed_head]
  rfl

theorem headRebooted_eq : headRebooted k (armed s k) = offerSetpoint k (s.output k) (rebooted s k) := by
  rw [← rebooted_output]
  have served : servedCount k (armed s k) =
      (List.finRange 256).countP fun i => (s.term i).any fun e => decide (e.ho.serving = some k) := countTab_eq ..
  unfold headRebooted
  rw [served]
  rfl

theorem rebootSeen_iff (d : Head) (up : BitVec 32) : rebootSeen d up = true ↔ ∃ l ∈ d.last, up < l.uptime := by
  unfold rebootSeen
  cases d.last <;> simp

/-- The state in which the flags of a HEADSTAT from an UP head are evaluated. -/
def heard : State := if rebootSeen (s.head k) st.uptime then offerSetpoint k (s.output k) (rebooted s k) else armed s k

theorem statusUp_eq : statusUp k st s =
    evalAlarms k st.flags (setHead (heard s k st) k { (heard s k st).head k with last := some st }) := by
  unfold heard
  rw [← headRebooted_eq]
  rfl

theorem heard_head : ∃ q c, (heard s k st).head k = { s.head k with link := .up s.silenceAt, ctlQ := q, cnt := c } := by
  unfold heard
  cases rebootSeen (s.head k) st.uptime with
  | false => exact ⟨_, _, armed_head s k⟩
  | true =>
    obtain ⟨q, c, h⟩ := offerSetpoint_head (rebooted s k) k (s.output k)
    exact ⟨q, c, h.trans (by rw [State.head_congr (rebooted_heads s k), armed_head])⟩

end

section
variable (s : State) (k : HeadIx) (st : HeadStat)

theorem statusUp_head : ∃ q c, (statusUp k st s).head k =
    { s.head k with
      link := .up s.silenceAt, last := some st, ctlQ := q, cnt := c
      alarms := activeSet (s.head k).record.alarmMask (s.head k).record.alarmSense st.flags } := by
  obtain ⟨q, c, h⟩ := heard_head s k st
  refine ⟨q, c, ?_⟩
  rw [statusUp_eq, evalAlarms_head_self, State.head, look_put_self, h]

theorem statusUp_ctlQ : ((statusUp k st s).head k).ctlQ = ((heard s k st).head k).ctlQ := by
  rw [statusUp_eq, evalAlarms_head_self, State.head, look_put_self]

theorem statusUp_terms : (statusUp k st s).terms = (heard s k st).terms := by
  rw [statusUp_eq, evalAlarms_terms]

theorem statusUp_loops : (statusUp k st s).loops = (heard s k st).loops := by
  rw [statusUp_eq, evalAlarms_loops]

/-- R29: a HEADSTAT that shows the head has rebooted. -/
theorem statusUp_of_rebooted (hs : rebootSeen (s.head k) st.uptime = true) :
    (statusUp k st s).terms = (departure k false s).terms ∧
    (statusUp k st s).mgmt.summary.getLsbD NoticeKind.headRebooted.bit = true ∧
    ((statusUp k st s).loop k).e1 = 0 ∧ ((statusUp k st s).loop k).e2 = 0 ∧
    ((statusUp k st s).loop k).u = (s.loop k).u ∧
    (s.part = .running → (s.head k).ctlQ.length < 8 → ((statusUp k st s).loop k).lastSet = some (s.output k)) := by
  have hheard : heard s k st = offerSetpoint k (s.output k) (rebooted s k) := if_pos hs
  have hhead : (rebooted s k).head k = { s.head k with link := .up s.silenceAt } := by
    rw [State.head_congr (rebooted_heads s k), armed_head]
  have hloop : (statusUp k st s).loop k = (offerSetpoint k (s.output k) (rebooted s k)).loop k := by
    rw [State.loop_congr (statusUp_loops s k st), hheard]
  refine ⟨?_, ?_, ?_, ?_, ?_, fun hp hq => ?_⟩
  · rw [statusUp_terms, hheard, offerSetpoint_terms, rebooted_terms]
  · rw [statusUp_eq, hheard]
    refine evalAlarms_keeps_summary _ k st.flags ?_
    rw [offerSetpoint_mgmt]
    exact rebooted_summary s k
  · rw [hloop, offerSetpoint_loop, if_pos rfl, rebooted_loop]
  · rw [hloop, offerSetpoint_loop, if_pos rfl, rebooted_loop]
  · rw [hloop, offerSetpoint_loop, if_pos rfl, rebooted_loop]
  · rw [hloop]
    have isOpen : (rebooted s k).headOpen k = true :=
      headOpen_iff_part.mpr ⟨(rebooted_part s k).trans hp, by rw [hhead]; exact ⟨nofun, nofun⟩⟩
    exact (offerSetpoint_of_room isOpen (by rwa [hhead]) _).1

theorem statusUp_of_steady (hs : ¬rebootSeen (s.head k) st.uptime = true) :
    (statusUp k st s).terms = s.terms ∧ (statusUp k st s).loops = s.loops ∧
    ((statusUp k st s).head k).ctlQ = (s.head k).ctlQ := by
  have hheard : heard s k st = armed s k := if_neg hs
  rw [statusUp_terms, statusUp_loops, statusUp_ctlQ, hheard, armed_head]
  exact ⟨rfl, rfl, rfl⟩

end

/-- Settles O21: the HEADSTAT by link state, and the alarm evaluation flag by flag. -/
theorem headstatActsByLinkState : Obligations.HeadstatActsByLinkState := by
  refine ⟨fun s k noise flags up hr => ?_, fun s k flags => ?_⟩
  · intro st silence out
    have run : exec (.headstat k noise flags up) s = .next (headstatFrame k st s) := exec_event rfl hr
    refine ⟨fun hd => ?_, fun r d hl hp => ?_, fun he => ?_, fun d hl => ?_⟩
    · rw [run, headstatFrame, hd]
      rfl
    · rw [run, headstatFrame, hl]
      dsimp only
      rw [hp]
      rfl
    · obtain ⟨tell, hm, htell⟩ := headstatFrame_of_entering s k st he
      obtain ⟨q, c, hhead⟩ := enterUp_head s k st tell
      refine ⟨enterUp k st tell s, run.trans (congrArg _ hm), ?_, ?_, ?_, enterUp_summary .., enterUp_terms .., ?_, ?_, ?_⟩
      · rw [hhead]
        rfl
      · rw [hhead]
      · rw [hhead]
        rfl
      · intro r hl hw hg
        have quiet : ¬Told s k := by simp [Told, hl, hw, hg]
        rw [enterUp_eq, if_neg (mt htell.mp quiet)]
        exact ⟨entered_loops s k st, by rw [entered_head]⟩
      · intro ht hp hq
        have room : ((entered s k st).head k).ctlQ.length < 8 := by rwa [entered_head]
        rw [enterUp_eq, if_pos (htell.mpr ht)]
        exact offerSetpoint_of_room (entered_open s k st hp) room _
      · intro e told
        refine ⟨fun ht => ?_, fun ht => ?_⟩
        · rw [enterUp_eq, if_pos (htell.mpr ht)]
          rfl
        · rw [enterUp_eq, if_neg (mt htell.mp ht)]
          rfl
    · have seen : rebootSeen (s.head k) up = true ↔ ∃ l ∈ (s.head k).last, up < l.uptime := rebootSeen_iff ..
      obtain ⟨q, c, hhead⟩ := statusUp_head s k st
      refine ⟨statusUp k st s, ?_, ?_, ?_, ?_, ?_, ?_, ?_, ?_, ?_⟩
      · rw [run, headstatFrame, hl]
      · rw [hhead]
        rfl
      · rw [hhead]
      · rw [hhead]
        rfl
      · rw [hhead]
      · rw [hhead]
      · rw [hhead]
      · by_cases hs : rebootSeen (s.head k) up = true
        · rw [if_pos (seen.mp hs)]
          exact statusUp_of_rebooted s k st hs
        · rw [if_neg (mt seen.mpr hs)]
          exact statusUp_of_steady s k st hs
      · intro armed served left w
        have hw : w = heard s k st := if_congr seen.symm rfl rfl
        rw [hw]
        exact statusUp_eq s k st
  · intro d now
    exact ⟨activeSet_getLsbD d.record.alarmMask d.record.alarmSense flags, evalAlarms_eq s k flags⟩

end Sys2Proof.Machine
end

section
/-! PROOF. Numbers and codes as bytes, and frames read back from their bytes (11.1, 11.2). -/

namespace Sys2Proof

/-! ## Numbers (chapter 11) -/

theorem be2_bytes2 (x : BitVec 16) : be2 (x.extractLsb' 8 8) (x.extractLsb' 0 8) = x :=
  (BitVec.extractLsb'_append_extractLsb'_eq_extractLsb' rfl).trans BitVec.extractLsb'_eq_self

theorem be3_bytes3 (x : BitVec 24) : be3 (x.extractLsb' 16 8) (x.extractLsb' 8 8) (x.extractLsb' 0 8) = x := by
  have high : x.extractLsb' 16 8 ++ x.extractLsb' 8 8 = x.extractLsb' 8 16 :=
    BitVec.extractLsb'_append_extractLsb'_eq_extractLsb' rfl
  rw [be3, high]
  exact (BitVec.extractLsb'_append_extractLsb'_eq_extractLsb' rfl).trans BitVec.extractLsb'_eq_self

theorem be4_bytes4 (x : BitVec 32) :
    be4 (x.extractLsb' 24 8) (x.extractLsb' 16 8) (x.extractLsb' 8 8) (x.extractLsb' 0 8) = x := by
  have high : x.extractLsb' 24 8 ++ x.extractLsb' 16 8 = x.extractLsb' 16 16 :=
    BitVec.extractLsb'_append_extractLsb'_eq_extractLsb' rfl
  have middle : x.extractLsb' 16 16 ++ x.extractLsb' 8 8 = x.extractLsb' 8 24 :=
    BitVec.extractLsb'_append_extractLsb'_eq_extractLsb' rfl
  rw [be4, high, middle]
  exact (BitVec.extractLsb'_append_extractLsb'_eq_extractLsb' rfl).trans BitVec.extractLsb'_eq_self

/-! ## Codes (11.1, 11.3, 11.5) -/

theorem FrameKind.ofCode_code (k : FrameKind) : FrameKind.ofCode k.code = some k := by cases k <;> rfl

/-- An optional code reads back where every code does and 0 is none. -/
theorem ofCode_optCode {α : Type} {code : α → Byte} {ofCode : Byte → Option α} (h0 : ofCode 0 = none)
    (h : ∀ a, ofCode (code a) = some a) : ∀ o, ofCode (optCode code o) = o
  | none => h0
  | some a => h a

theorem yesNoOf_optCode (o : Option Bool) : yesNoOf (optCode yesNoCode o) = o :=
  ofCode_optCode rfl (fun b => by cases b <;> rfl) o

theorem TermClass.ofCode_optCode (o : Option TermClass) : TermClass.ofCode (optCode TermClass.code o) = o :=
  Sys2Proof.ofCode_optCode rfl (fun c => by cases c <;> rfl) o

theorem TermSel.ofCode_optCode (o : Option TermSel) : TermSel.ofCode (optCode TermSel.code o) = o :=
  Sys2Proof.ofCode_optCode rfl (fun c => by cases c <;> rfl) o

theorem ReeferSel.ofCode_optCode (o : Option ReeferSel) : ReeferSel.ofCode (optCode ReeferSel.code o) = o :=
  Sys2Proof.ofCode_optCode rfl (fun c => by cases c <;> rfl) o

theorem RestartKind.ofCode_optCode (o : Option RestartKind) : RestartKind.ofCode (optCode RestartKind.code o) = o :=
  Sys2Proof.ofCode_optCode rfl (fun c => by cases c <;> rfl) o

theorem ReeferState.ofCode_optCode (o : Option ReeferState) : ReeferState.ofCode (optCode ReeferState.code o) = o :=
  Sys2Proof.ofCode_optCode rfl (fun c => by cases c <;> rfl) o

theorem ParamId.ofCode_optCode (o : Option ParamId) : ParamId.ofCode (optCode ParamId.code o) = o :=
  Sys2Proof.ofCode_optCode rfl (fun c => by cases c <;> rfl) o

theorem Group.ofCode_optCode (o : Option Group) : Group.ofCode (optCode Group.code o) = o :=
  Sys2Proof.ofCode_optCode rfl (fun c => by cases c <;> rfl) o

/-! ## Frames (11.1, R168) -/

/-- No kind takes a payload longer than the header can say (Table 11-2). -/
theorem FrameKind.length_le {k : FrameKind} {n : Nat} (h : k.lengthOk n = true) : n ≤ 1400 := by
  cases k <;> simp only [FrameKind.lengthOk, Bool.or_eq_true, Bool.and_eq_true, decide_eq_true_eq] at h <;> omega

/-- A frame of a legal length reads back from its bytes. -/
theorem readFrame_frameBytes {k : FrameKind} {payload : List Byte} (hl : k.lengthOk payload.length = true)
    (hm : k = .meas → measCountOk payload = true) (flags headIndex : Byte) (terminal : TermNo) (seq : BitVec 16) :
    readFrame true (frameBytes k flags headIndex terminal seq payload) =
      some { kind := k, flags, headIndex, terminal, seq, payload } := by
  have short : payload.length < 65536 := by have := FrameKind.length_le hl; omega
  have counted : (k != .meas || measCountOk payload) = true := by
    by_cases hk : k = .meas
    · rw [hm hk, Bool.or_true]
    · simp [hk]
  simp only [frameBytes, bytes2, List.cons_append, List.nil_append, readFrame, FrameKind.ofCode_code, be2_bytes2,
    BitVec.toNat_ofNat, Nat.mod_eq_of_lt short, List.take_length, hl, counted, le_refl, decide_true, Bool.and_true,
    if_true]

/-- A CRANE or USER frame reads back with its fields. -/
theorem readFrame_berth {k : FrameKind} (hk : k = .crane ∨ k = .user) {f : BerthFrame} (hf : f.fits = true) :
    readFrame true (f.bytes k) =
      some { kind := k, flags := f.flags, headIndex := f.headIndex, terminal := f.terminal, seq := f.seq,
             payload := f.payload } := by
  refine readFrame_frameBytes ?_ ?_ ..
  · rcases hk with rfl | rfl <;> exact hf
  · rcases hk with rfl | rfl <;> exact nofun

/-! ## Head frames -/

theorem readPattern_toList (p : Vector Byte 16) : readPattern p.toList = some p := by
  have h : p.toList.length = 16 := p.length_toList
  rw [readPattern, dif_pos h]
  rfl

theorem readEntries_flatMap (es : List MeasEntry) : readEntries (es.flatMap MeasEntry.bytes) = es := by
  induction es with
  | nil => rfl
  | cons e es ih =>
    rw [List.flatMap_cons]
    simp only [MeasEntry.bytes, bytes2, List.cons_append, List.nil_append, readEntries, ih, be2_bytes2]

theorem length_flatMap_entries (es : List MeasEntry) : (es.flatMap MeasEntry.bytes).length = 3 * es.length := by
  induction es with
  | nil => rfl
  | cons e es ih =>
    rw [List.flatMap_cons, List.length_append, ih, List.length_cons]
    show 3 + _ = _
    omega

/-- The payload of a report with one to four entries passes the checks of its kind. -/
theorem meas_payload_ok {es : List MeasEntry} (h1 : 1 ≤ es.length) (h4 : es.length ≤ 4) (seg : Byte) :
    FrameKind.meas.lengthOk (seg :: BitVec.ofNat 8 es.length :: es.flatMap MeasEntry.bytes).length = true ∧
    measCountOk (seg :: BitVec.ofNat 8 es.length :: es.flatMap MeasEntry.bytes) = true := by
  have count : (BitVec.ofNat 8 es.length).toNat = es.length := by
    rw [BitVec.toNat_ofNat]
    omega
  constructor
  · simp only [FrameKind.lengthOk, List.length_cons, length_flatMap_entries, Bool.or_eq_true, decide_eq_true_eq]
    omega
  · simp only [measCountOk, List.length_cons, length_flatMap_entries, count, Bool.and_eq_true, decide_eq_true_eq]
    omega

theorem FrameKind.shortPayload_ok (k : FrameKind) :
    k.lengthOk k.shortPayload.length = true ∧ (k = .meas → measCountOk k.shortPayload = true) := by
  cases k <;> decide

theorem readFrame_short (k : FrameKind) : readFrame true (frameBytes k 0 0 0 0 k.shortPayload) =
    some { kind := k, flags := 0, headIndex := 0, terminal := 0, seq := 0, payload := k.shortPayload } :=
  readFrame_frameBytes k.shortPayload_ok.1 k.shortPayload_ok.2 ..

/-! ## What a head's frame stands for (R44) -/

section
variable (k : HeadIx)

theorem headFrameCommand_of_read {bytes : List Byte} {f : RawFrame} (h : readFrame true bytes = some f) :
    headFrameCommand k true bytes =
      match f.kind with
      | .crane => .uplinkCrane k f.berth
      | .user => .uplinkUser k f.berth
      | .meas =>
        match f.payload with
        | seg :: _ :: rest => .meas k f.terminal seg (readEntries rest)
        | _ => .rxDamaged k
      | .batch => .batch k f.terminal f.payload
      | .headstat =>
        match f.payload with
        | [n, fl, u3, u2, u1, u0] => .headstat k n fl (be4 u3 u2 u1 u0)
        | _ => .rxDamaged k
      | .echo =>
        match readPattern f.payload with
        | some p => .echo k p
        | none => .rxDamaged k
      | .mgmt => .mgmtOnHead k
      | .headctl | .reply | .notice | .exportBatch => .ulWrongKind k f.kind := by
  rw [headFrameCommand, h] <;> rfl

theorem headFrameCommand_headstat (noise flags : Byte) (up : BitVec 32) :
    headFrameCommand k true (frameBytes .headstat 0 0 0 0 (noise :: flags :: bytes4 up)) = .headstat k noise flags up := by
  have read := readFrame_frameBytes (k := .headstat) (payload := noise :: flags :: bytes4 up) rfl nofun 0 0 0 0
  exact (headFrameCommand_of_read k read).trans (congrArg (Instr.headstat k noise flags) (be4_bytes4 up))

theorem headFrameCommand_echo (p : Vector Byte 16) :
    headFrameCommand k true (frameBytes .echo 0 0 0 0 p.toList) = .echo k p := by
  have length : FrameKind.echo.lengthOk p.toList.length = true := by rw [p.length_toList]; rfl
  rw [headFrameCommand_of_read k (readFrame_frameBytes length nofun 0 0 0 0)]
  dsimp only
  rw [readPattern_toList]

theorem headFrameCommand_meas (t : TermNo) (seg : Byte) {es : List MeasEntry} (h1 : 1 ≤ es.length) (h4 : es.length ≤ 4) :
    headFrameCommand k true
      (frameBytes .meas 0 0 t 0 (seg :: BitVec.ofNat 8 es.length :: es.flatMap MeasEntry.bytes)) = .meas k t seg es := by
  obtain ⟨length, counted⟩ := meas_payload_ok h1 h4 seg
  exact (headFrameCommand_of_read k (readFrame_frameBytes length (fun _ => counted) 0 0 t 0)).trans
    (congrArg (Instr.meas k t seg) (readEntries_flatMap es))

theorem headFrameCommand_batch (t : TermNo) {b : List Byte} (h4 : 4 ≤ b.length) (h360 : b.length ≤ 360) :
    headFrameCommand k true (frameBytes .batch 0 0 t 0 b) = .batch k t b := by
  have length : FrameKind.batch.lengthOk b.length = true := by
    simp only [FrameKind.lengthOk, h4, h360, decide_true, Bool.and_true]
  exact headFrameCommand_of_read k (readFrame_frameBytes length nofun 0 0 t 0)

theorem headFrameCommand_originated {kind : FrameKind} (hk : kind.isOriginated = true) :
    headFrameCommand k true (frameBytes kind 0 0 0 0 kind.shortPayload) = .ulWrongKind k kind := by
  rw [headFrameCommand_of_read k (readFrame_short kind)]
  cases kind <;> first | rfl | cases hk

end

/-- Settles O50, frame by frame. -/
theorem headFramesDecodeToTheirCommand : Obligations.HeadFramesDecodeToTheirCommand := by
  intro c k bytes hw he
  cases c with
  | headstat h n fl up =>
    cases he
    exact headFrameCommand_headstat k n fl up
  | echo h p =>
    cases he
    exact headFrameCommand_echo k p
  | uplinkCrane h f =>
    cases he
    exact headFrameCommand_of_read k (readFrame_berth (.inl rfl) hw)
  | uplinkUser h f =>
    cases he
    exact headFrameCommand_of_read k (readFrame_berth (.inr rfl) hw)
  | meas h t seg es =>
    cases he
    obtain ⟨h1, h4⟩ := Bool.and_eq_true_iff.mp hw
    exact headFrameCommand_meas k t seg (of_decide_eq_true h1) (of_decide_eq_true h4)
  | batch h t b =>
    cases he
    obtain ⟨h4, h360⟩ := Bool.and_eq_true_iff.mp hw
    exact headFrameCommand_batch k t (of_decide_eq_true h4) (of_decide_eq_true h360)
  | mgmtOnHead h =>
    cases he
    exact headFrameCommand_of_read k (readFrame_short .mgmt)
  | ulWrongKind h kind =>
    cases he
    exact headFrameCommand_originated k hw
  | rxDamaged h =>
    cases he
    rfl
  | _ => cases he

end Sys2Proof
end

section
/-! PROOF. Requests and the other frames of the trunk read back from their bytes (O51). -/

namespace Sys2Proof
open Sys2Proof.Safety

/-! ## Request parameters (Table 11-8) -/

/-- Parameters read back where present ones do and no bytes are none. -/
theorem read_paramBytes {α : Type} {read : List Byte → Option α} {bytes : α → List Byte} (h0 : read [] = none)
    (h : ∀ a, read (bytes a) = some a) : ∀ p, read (paramBytes p bytes) = p
  | none => h0
  | some a => h a

theorem readSetParam_bytes (p : SetParamP) : readSetParam (optCode ParamId.code p.id :: bytes4 p.value) = some p := by
  simp only [readSetParam, bytes4, ParamId.ofCode_optCode, be4_bytes4]

theorem readGetParam_bytes (p : Option ParamId) : readGetParam [optCode ParamId.code p] = some p := by
  simp only [readGetParam, ParamId.ofCode_optCode]

theorem readTermLoad_bytes (p : TermLoadP) :
    readTermLoad (p.slot :: bytes2 p.number ++ [optCode TermClass.code p.cls]) = some p := by
  simp only [readTermLoad, bytes2, List.cons_append, List.nil_append, TermClass.ofCode_optCode, be2_bytes2]

theorem readTermSel_bytes (p : TermSelP) : readTermSel (optCode TermSel.code p.sel :: bytes2 p.value) = some p := by
  simp only [readTermSel, bytes2, TermSel.ofCode_optCode, be2_bytes2]

theorem readCraneDormant_bytes (p : CraneDormantP) :
    readCraneDormant (bytes2 p.slot ++ [optCode yesNoCode p.setting]) = some p := by
  simp only [readCraneDormant, bytes2, List.cons_append, List.nil_append, yesNoOf_optCode, be2_bytes2]

theorem readHeadLoad_bytes (p : HeadLoadP) : readHeadLoad p.bytes = some p := by
  simp only [readHeadLoad, HeadLoadP.bytes, bytes2, List.cons_append, List.nil_append, yesNoOf_optCode, be2_bytes2]

theorem readHeadRestart_bytes (p : HeadRestartP) :
    readHeadRestart [p.head, optCode RestartKind.code p.kind] = some p := by
  simp only [readHeadRestart, RestartKind.ofCode_optCode]

theorem readLoopTest_bytes (p : LoopTestP) : readLoopTest (p.head :: p.pattern.toList) = some p := by
  rw [readLoopTest, readPattern_toList, Option.map_some]

theorem readReeferReg_bytes (p : ReeferRegP) : readReeferReg (bytes3 p.tag ++ [p.cls]) = some p := by
  simp only [readReeferReg, bytes3, List.cons_append, List.nil_append, be3_bytes3]

theorem readReeferSel_bytes (p : ReeferSelP) : readReeferSel (optCode ReeferSel.code p.sel :: bytes3 p.value) = some p := by
  simp only [readReeferSel, bytes3, ReeferSel.ofCode_optCode, be3_bytes3]

theorem readPurge_bytes (p : PurgeP) : readPurge (optCode ReeferState.code p.state :: bytes4 p.minAge) = some p := by
  simp only [readPurge, bytes4, ReeferState.ofCode_optCode, be4_bytes4]

theorem readCounters_bytes (p : CountersP) :
    readCounters [optCode Group.code p.group, optCode yesNoCode p.clear] = some p := by
  simp only [readCounters, Group.ofCode_optCode, yesNoOf_optCode]

theorem readMask_bytes (p : BitVec 32) : readMask (bytes4 p) = some p := by
  simp only [readMask, bytes4, be4_bytes4]

/-! ## Requests (R154, R155) -/

/-- A code outside Table 11-8 names no request. -/
theorem requestOf_unknown (h : Hdr) {code : Byte} (hc : code.toNat = 0 ∨ 25 < code.toNat) (ps : List Byte) :
    requestOf h code ps = .badRequest h code := by
  unfold requestOf
  split <;> first | rfl | (exfalso; omega)

/-- A request reads back from its code and its parameter bytes. -/
theorem requestOf_requestParts {c : Instr} {h : Hdr} {code : Byte} {ps : List Byte} (hw : WellFormed c = true)
    (hp : requestParts c = some (h, code, ps)) : requestOf h code ps = c := by
  cases c with
  | ident g | start g | stop g | softReset g | noticeSummary g => cases hp; rfl
  | setParam g p => cases hp; exact congrArg (Instr.setParam h) (read_paramBytes rfl readSetParam_bytes p)
  | getParam g p => cases hp; exact congrArg (Instr.getParam h) (read_paramBytes rfl readGetParam_bytes p)
  | termLoad g p => cases hp; exact congrArg (Instr.termLoad h) (read_paramBytes rfl readTermLoad_bytes p)
  | termRemove g p => cases hp; exact congrArg (Instr.termRemove h) (read_paramBytes rfl readTermSel_bytes p)
  | termRead g p => cases hp; exact congrArg (Instr.termRead h) (read_paramBytes rfl readTermSel_bytes p)
  | craneDormant g p => cases hp; exact congrArg (Instr.craneDormant h) (read_paramBytes rfl readCraneDormant_bytes p)
  | headLoad g p => cases hp; exact congrArg (Instr.headLoad h) (read_paramBytes rfl readHeadLoad_bytes p)
  | headRead g p =>
    cases hp
    exact congrArg (Instr.headRead h) (read_paramBytes (read := readHeadIndex) rfl (fun _ => rfl) p)
  | headRestart g p => cases hp; exact congrArg (Instr.headRestart h) (read_paramBytes rfl readHeadRestart_bytes p)
  | headLooptest g p => cases hp; exact congrArg (Instr.headLooptest h) (read_paramBytes rfl readLoopTest_bytes p)
  | guardRelease g p =>
    cases hp
    exact congrArg (Instr.guardRelease h) (read_paramBytes (read := readHeadIndex) rfl (fun _ => rfl) p)
  | cellRead g p =>
    cases hp
    exact congrArg (Instr.cellRead h) (read_paramBytes (read := readCellRead) rfl (fun _ => rfl) p)
  | segRead g p =>
    cases hp
    exact congrArg (Instr.segRead h) (read_paramBytes (read := readSegRead) rfl (fun _ => rfl) p)
  | reeferRegister g p => cases hp; exact congrArg (Instr.reeferRegister h) (read_paramBytes rfl readReeferReg_bytes p)
  | reeferRemove g p => cases hp; exact congrArg (Instr.reeferRemove h) (read_paramBytes rfl readReeferSel_bytes p)
  | reeferRead g p => cases hp; exact congrArg (Instr.reeferRead h) (read_paramBytes rfl readReeferSel_bytes p)
  | reeferPurge g p => cases hp; exact congrArg (Instr.reeferPurge h) (read_paramBytes rfl readPurge_bytes p)
  | bandLoad g p =>
    cases hp
    exact congrArg (Instr.bandLoad h) (read_paramBytes (read := readBand) rfl (fun _ => rfl) p)
  | countersRead g p => cases hp; exact congrArg (Instr.countersRead h) (read_paramBytes rfl readCounters_bytes p)
  | noticeMask g p => cases hp; exact congrArg (Instr.noticeMask h) (read_paramBytes rfl readMask_bytes p)
  | badRequest g n =>
    cases hp
    simp only [WellFormed, Bool.or_eq_true, decide_eq_true_eq] at hw
    exact requestOf_unknown h hw []
  | _ => cases hp

theorem length_paramBytes {α : Type} {bytes : α → List Byte} {n : Nat} (h : ∀ a, (bytes a).length ≤ n) :
    ∀ p, (paramBytes p bytes).length ≤ n
  | none => Nat.zero_le n
  | some a => h a

/-- No request's parameters are longer than those of HEAD_LOAD. -/
theorem length_requestParts {c : Instr} {h : Hdr} {code : Byte} {ps : List Byte}
    (hp : requestParts c = some (h, code, ps)) : ps.length ≤ 22 := by
  have short {α : Type} {bytes : α → List Byte} (n : Nat) (hn : n ≤ 22) (hb : ∀ a, (bytes a).length = n) (p : Option α) :
      (paramBytes p bytes).length ≤ 22 := length_paramBytes (fun a => (hb a).trans_le hn) p
  cases c with
  | ident | start | stop | softReset | noticeSummary | badRequest => cases hp; exact Nat.zero_le _
  | setParam g p => cases hp; exact short 5 (by decide) (fun _ => rfl) p
  | getParam g p => cases hp; exact short 1 (by decide) (fun _ => rfl) p
  | termLoad g p => cases hp; exact short 4 (by decide) (fun _ => rfl) p
  | termRemove g p | termRead g p => cases hp; exact short 3 (by decide) (fun _ => rfl) p
  | craneDormant g p => cases hp; exact short 3 (by decide) (fun _ => rfl) p
  | headLoad g p => cases hp; exact short 22 (by decide) (fun _ => rfl) p
  | headRead g p | guardRelease g p => cases hp; exact short 1 (by decide) (fun _ => rfl) p
  | headRestart g p => cases hp; exact short 2 (by decide) (fun _ => rfl) p
  | headLooptest g p =>
    cases hp
    exact short 17 (by decide) (fun a => congrArg (· + 1) a.pattern.length_toList) p
  | cellRead g p => cases hp; exact short 3 (by decide) (fun _ => rfl) p
  | segRead g p => cases hp; exact short 2 (by decide) (fun _ => rfl) p
  | reeferRegister g p => cases hp; exact short 4 (by decide) (fun _ => rfl) p
  | reeferRemove g p | reeferRead g p => cases hp; exact short 4 (by decide) (fun _ => rfl) p
  | reeferPurge g p => cases hp; exact short 5 (by decide) (fun _ => rfl) p
  | bandLoad g p => cases hp; exact short 6 (by decide) (fun _ => rfl) p
  | countersRead g p => cases hp; exact short 2 (by decide) (fun _ => rfl) p
  | noticeMask g p => cases hp; exact short 4 (by decide) (fun _ => rfl) p
  | _ => cases hp

/-! ## Trunk frames (R50) -/

theorem readFrame_mgmtBytes (h : Hdr) (code : Byte) {ps : List Byte} (hl : ps.length ≤ 60) :
    readFrame true (mgmtBytes h code ps) =
      some { kind := .mgmt, flags := 0, headIndex := 0, terminal := 0, seq := 0,
             payload := h.dest :: code :: h.tag :: 0 :: ps } := by
  have length : FrameKind.mgmt.lengthOk (h.dest :: code :: h.tag :: 0 :: ps).length = true := by
    simp only [FrameKind.lengthOk, List.length_cons, Bool.and_eq_true, decide_eq_true_eq]
    omega
  exact readFrame_frameBytes length nofun 0 0 0 0

/-- A frame of a request: taken at its node, another node's elsewhere (R154). -/
theorem trunkFrameCommand_mgmtBytes (node : BitVec 6) (h : Hdr) (code : Byte) {ps : List Byte} (hl : ps.length ≤ 60) :
    trunkFrameCommand node true (mgmtBytes h code ps) =
      if h.dest = 255 ∨ h.dest = node.setWidth 8 then requestOf h code ps else .otherNode h.dest := by
  rw [trunkFrameCommand, readFrame_mgmtBytes h code hl] <;> rfl

theorem trunkFrameCommand_wrongKind (node : BitVec 6) {kind : FrameKind} (hk : kind.isTrunkWrong = true) :
    trunkFrameCommand node true (frameBytes kind 0 0 0 0 kind.shortPayload) = .trunkWrongKind kind := by
  rw [trunkFrameCommand, readFrame_short]
  cases kind <;> first | rfl | cases hk

/-- Settles O51: the requests by their parts, then the other frames of the trunk. -/
theorem trunkFramesDecodeToTheirCommand : Obligations.TrunkFramesDecodeToTheirCommand := by
  intro c node bytes hw he hnode hother
  cases hp : requestParts c with
  | some r =>
    obtain ⟨h, code, ps⟩ := r
    have hbytes : mgmtBytes h code ps = bytes := by simpa only [encodeTrunkFrame, hp, Option.some.injEq] using he
    have length : ps.length ≤ 60 := (length_requestParts hp).trans (by decide)
    rw [← hbytes, trunkFrameCommand_mgmtBytes node h code length, if_pos (hnode h code ⟨ps, hp⟩),
      requestOf_requestParts hw hp]
  | none =>
    cases c with
    | otherNode dest =>
      cases he
      have broadcast : dest ≠ 255 := of_decide_eq_true hw
      rw [trunkFrameCommand_mgmtBytes node _ 1 (by decide), if_neg (not_or.mpr ⟨broadcast, hother dest rfl⟩)]
    | downlinkCrane f =>
      cases he
      rw [trunkFrameCommand, readFrame_berth (.inl rfl) hw] <;> rfl
    | downlinkUser f =>
      cases he
      rw [trunkFrameCommand, readFrame_berth (.inr rfl) hw] <;> rfl
    | trunkWrongKind kind =>
      cases he
      exact trunkFrameCommand_wrongKind node hw
    | trunkDamaged =>
      cases he
      rfl
    | _ => cases he <;> cases hp

end Sys2Proof
end

section
/-! PROOF. The frames the part sends pass the checks and read back (O49). -/

namespace Sys2Proof

/-! ## The codes and lengths of Table 11-2 -/

theorem FrameKind.ofCode_eq_some_iff (b : Byte) (k : FrameKind) : FrameKind.ofCode b = some k ↔ k.code = b := by
  constructor
  · intro h
    refine BitVec.eq_of_toNat_eq ?_
    unfold FrameKind.ofCode at h
    split at h <;> cases h <;> (rename_i e; exact e.symm)
  · rintro rfl
    exact k.ofCode_code

/-! ## A frame read -/

theorem measCountOk_iff (seg n : Byte) (rest : List Byte) : measCountOk (seg :: n :: rest) = true ↔
    1 ≤ n.toNat ∧ n.toNat ≤ 4 ∧ (seg :: n :: rest).length = 2 + 3 * n.toNat := by
  simp only [measCountOk, Bool.and_eq_true, decide_eq_true_eq, and_assoc]

/-- R168 as a list of checks. -/
theorem readFrame_cons (k fl hi ver t1 t0 s1 s0 l1 l0 : Byte) (rest : List Byte) (f : RawFrame) :
    readFrame true (k :: fl :: hi :: ver :: t1 :: t0 :: s1 :: s0 :: l1 :: l0 :: rest) = some f ↔
      ver = 1 ∧ FrameKind.ofCode k = some f.kind ∧ f.kind.lengthOk (be2 l1 l0).toNat = true ∧
      (be2 l1 l0).toNat ≤ rest.length ∧ (f.kind = .meas → measCountOk (rest.take (be2 l1 l0).toNat) = true) ∧
      f.flags = fl ∧ f.headIndex = hi ∧ f.terminal = be2 t1 t0 ∧ f.seq = be2 s1 s0 ∧
      f.payload = rest.take (be2 l1 l0).toNat := by
  obtain ⟨kind, flags, headIndex, terminal, seq, payload⟩ := f
  cases hk : FrameKind.ofCode k with
  | none => simp [readFrame, hk]
  | some kind' =>
    have counted : (kind' != .meas || measCountOk (rest.take (be2 l1 l0).toNat)) = true ↔
        (kind' = .meas → measCountOk (rest.take (be2 l1 l0).toNat) = true) := by
      rw [Bool.or_eq_true, bne_iff_ne, ne_eq, ← imp_iff_not_or]
    simp only [readFrame, hk, Option.ite_none_right_eq_some, Bool.and_eq_true, decide_eq_true_eq, counted,
      Option.some.injEq, RawFrame.mk.injEq]
    constructor
    · rintro ⟨⟨⟨⟨hver, hlen⟩, hfit⟩, hmeas⟩, rfl, rfl, rfl, rfl, rfl, rfl⟩
      exact ⟨hver, rfl, hlen, hfit, hmeas, rfl, rfl, rfl, rfl, rfl⟩
    · rintro ⟨hver, rfl, hlen, hfit, hmeas, rfl, rfl, rfl, rfl, rfl⟩
      exact ⟨⟨⟨⟨hver, hlen⟩, hfit⟩, hmeas⟩, rfl, rfl, rfl, rfl, rfl, rfl⟩

/-- The count of entries of a report, where its payload is present and of a legal length. -/
theorem measCountOk_take {n : Nat} {rest : List Byte} (hl : FrameKind.meas.lengthOk n = true) (hn : n ≤ rest.length) :
    measCountOk (rest.take n) = true ↔
      1 ≤ ((rest[1]?).getD 0).toNat ∧ ((rest[1]?).getD 0).toNat ≤ 4 ∧ n = 2 + 3 * ((rest[1]?).getD 0).toNat := by
  have two : 2 ≤ n := by
    simp only [FrameKind.lengthOk, Bool.or_eq_true, decide_eq_true_eq] at hl
    omega
  match rest, n with
  | a :: b :: rest, n + 2 =>
    have length : (a :: b :: rest.take n).length = n + 2 := by
      simp only [List.length_cons, List.length_take] at hn ⊢
      omega
    rw [List.take_succ_cons, List.take_succ_cons, measCountOk_iff, length]
    rfl
  | [_], n | [], n =>
    simp only [List.length_cons, List.length_nil] at hn
    omega

theorem readFrame_short_bytes (ok : Bool) {bytes : List Byte} (h : bytes.length < 10) : readFrame ok bytes = none := by
  unfold readFrame
  split
  next => simp only [List.length_cons] at h; omega
  next => rfl

theorem exists_cons_of_length {n : Nat} {l : List Byte} (h : n + 1 ≤ l.length) : ∃ b t, l = b :: t ∧ n ≤ t.length := by
  cases l with
  | nil => cases h
  | cons b t => exact ⟨b, t, rfl, Nat.le_of_succ_le_succ h⟩

/-- Ten bytes make a header (Table 11-1). -/
theorem exists_header {bytes : List Byte} (h : 10 ≤ bytes.length) : ∃ k fl hi ver t1 t0 s1 s0 l1 l0 rest,
    bytes = k :: fl :: hi :: ver :: t1 :: t0 :: s1 :: s0 :: l1 :: l0 :: rest := by
  obtain ⟨k, _, rfl, h9⟩ := exists_cons_of_length h
  obtain ⟨fl, _, rfl, h8⟩ := exists_cons_of_length h9
  obtain ⟨hi, _, rfl, h7⟩ := exists_cons_of_length h8
  obtain ⟨ver, _, rfl, h6⟩ := exists_cons_of_length h7
  obtain ⟨t1, _, rfl, h5⟩ := exists_cons_of_length h6
  obtain ⟨t0, _, rfl, h4⟩ := exists_cons_of_length h5
  obtain ⟨s1, _, rfl, h3⟩ := exists_cons_of_length h4
  obtain ⟨s0, _, rfl, h2⟩ := exists_cons_of_length h3
  obtain ⟨l1, _, rfl, h1⟩ := exists_cons_of_length h2
  obtain ⟨l0, rest, rfl, -⟩ := exists_cons_of_length h1
  exact ⟨k, fl, hi, ver, t1, t0, s1, s0, l1, l0, rest, rfl⟩

/-- R168: a frame is read exactly when it is whole. -/
theorem readFrame_iff (ok : Bool) (bytes : List Byte) :
    let at' := fun (n : Nat) => (bytes[n]?).getD 0
    let n := (at' 8 ++ at' 9).toNat
    ∀ f, readFrame ok bytes = some f ↔
      ok = true ∧ 10 ≤ bytes.length ∧ at' 3 = 1 ∧ FrameKind.ofCode (at' 0) = some f.kind ∧ f.kind.lengthOk n = true ∧
      10 + n ≤ bytes.length ∧
      (f.kind = .meas → 1 ≤ (at' 11).toNat ∧ (at' 11).toNat ≤ 4 ∧ n = 2 + 3 * (at' 11).toNat) ∧
      f.flags = at' 1 ∧ f.headIndex = at' 2 ∧ f.terminal = at' 4 ++ at' 5 ∧ f.seq = at' 6 ++ at' 7 ∧
      f.payload = (bytes.drop 10).take n := by
  cases ok with
  | false => exact fun f => ⟨nofun, fun h => nomatch h.1⟩
  | true =>
    by_cases hl : 10 ≤ bytes.length
    · obtain ⟨k, fl, hi, ver, t1, t0, s1, s0, l1, l0, rest, rfl⟩ := exists_header hl
      intro at' n f
      have whole : 10 + n ≤ (k :: fl :: hi :: ver :: t1 :: t0 :: s1 :: s0 :: l1 :: l0 :: rest).length ↔ n ≤ rest.length := by
        simp only [List.length_cons]
        omega
      rw [readFrame_cons]
      constructor
      · rintro ⟨hver, hkind, hlen, hfit, hmeas, hrest⟩
        exact ⟨rfl, hl, hver, hkind, hlen, whole.mpr hfit,
          fun e => (measCountOk_take (e ▸ hlen) hfit).mp (hmeas e), hrest⟩
      · rintro ⟨-, -, hver, hkind, hlen, hfit, hmeas, hrest⟩
        exact ⟨hver, hkind, hlen, whole.mp hfit,
          fun e => (measCountOk_take (e ▸ hlen) (whole.mp hfit)).mpr (hmeas e), hrest⟩
    · intro at' n f
      rw [readFrame_short_bytes true (Nat.not_le.mp hl)]
      exact ⟨nofun, fun ⟨_, h, _⟩ => absurd h hl⟩

end Sys2Proof
end

section
/-! PROOF. The lengths and the bytes of what the part sends (O49). -/

namespace Sys2Proof.Machine
open Sys2Proof

/-! ## Numbers as shifts -/

theorem extractLsb'_eq_shift {w : Nat} (x : BitVec w) (n : Nat) : x.extractLsb' n 8 = (x >>> n).setWidth 8 := by
  apply BitVec.eq_of_toNat_eq
  rw [BitVec.extractLsb'_toNat, BitVec.toNat_setWidth, BitVec.toNat_ushiftRight]

theorem bytes2_eq (x : BitVec 16) : bytes2 x = [(x >>> 8).setWidth 8, x.setWidth 8] := by
  rw [bytes2, extractLsb'_eq_shift, extractLsb'_eq_shift, BitVec.ushiftRight_zero]

theorem bytes3_eq (x : BitVec 24) : bytes3 x = [(x >>> 16).setWidth 8, (x >>> 8).setWidth 8, x.setWidth 8] := by
  rw [bytes3, extractLsb'_eq_shift, extractLsb'_eq_shift, extractLsb'_eq_shift, BitVec.ushiftRight_zero]

theorem bytes4_eq (x : BitVec 32) :
    bytes4 x = [(x >>> 24).setWidth 8, (x >>> 16).setWidth 8, (x >>> 8).setWidth 8, x.setWidth 8] := by
  rw [bytes4, extractLsb'_eq_shift, extractLsb'_eq_shift, extractLsb'_eq_shift, extractLsb'_eq_shift,
    BitVec.ushiftRight_zero]

/-! ## Lengths of items (R170) -/

section Lengths

@[simp] theorem length_bytes2 (x : BitVec 16) : (bytes2 x).length = 2 := rfl
@[simp] theorem length_bytes3 (x : BitVec 24) : (bytes3 x).length = 3 := rfl
@[simp] theorem length_bytes4 (x : BitVec 32) : (bytes4 x).length = 4 := rfl
@[simp] theorem length_nat4 (n : Nat) : (nat4 n).length = 4 := rfl
@[simp] theorem length_nat1 (n : Nat) : (nat1 n).length = 1 := rfl
@[simp] theorem length_int2 (x : Int) : (int2 x).length = 2 := rfl
@[simp] theorem length_flagByte (b : Bool) : (flagByte b).length = 1 := rfl

/-- An item that may be absent is as long absent as present. -/
theorem length_optItem {α : Type} {width : Nat} {f : α → List Byte} (h : ∀ a, (f a).length = width) (o : Option α) :
    (optItem width f o).length = width + 1 := by
  cases o with
  | none => simp [optItem]
  | some a => simp [optItem, h a]

theorem length_flatMap_const {α : Type} {f : α → List Byte} {n : Nat} (h : ∀ a, (f a).length = n) (l : List α) :
    (l.flatMap f).length = l.length * n := by
  simp [List.length_flatMap, h]

@[simp] theorem length_optItem_nat4 (o : Option Nat) : (optItem 4 nat4 o).length = 5 := length_optItem length_nat4 o
@[simp] theorem length_optItem_int2 (o : Option Int) : (optItem 2 int2 o).length = 3 := length_optItem length_int2 o
@[simp] theorem length_optItem_bytes2 (o : Option (BitVec 16)) : (optItem 2 bytes2 o).length = 3 :=
  length_optItem length_bytes2 o
@[simp] theorem length_optItem_byte {α : Type} (f : α → Byte) (o : Option α) :
    (optItem 1 (fun a => [f a]) o).length = 2 := by cases o <;> rfl
@[simp] theorem length_optItem_nat1 {α : Type} (f : α → Nat) (o : Option α) :
    (optItem 1 (fun a => nat1 (f a)) o).length = 2 := by cases o <;> rfl

theorem length_cellBytes (c : Cell) : c.bytes.length = 8 := by simp [Cell.bytes]

theorem length_segBytes (g : Seg) : g.bytes.length = 8 := by simp [Seg.bytes]

theorem length_loopResult_le (r : LoopResult) : r.bytes.length ≤ 5 := by cases r <;> simp [LoopResult.bytes]

theorem length_classPart_le (p : ClassPart) (left : Option Nat) : (p.bytes left).length ≤ 14 := by
  cases p <;> simp [ClassPart.bytes]

theorem length_headRecordBytes (r : HeadRecord) : r.bytes.length = 21 := by simp [HeadRecord.bytes]

theorem length_headView (v : HeadView) : v.bytes.length = 63 := by
  simp only [HeadView.bytes, List.length_append, length_headRecordBytes, length_flagByte, length_optItem_byte,
    length_optItem (f := fun r : RestartKind × Nat × Nat => nat4 r.2.1) (fun r => length_nat4 r.2.1),
    length_optItem (f := fun r : RestartKind × Nat × Nat => nat4 r.2.2) (fun r => length_nat4 r.2.2),
    length_optItem (f := fun l : HeadStat => bytes4 l.uptime) (fun l => length_bytes4 l.uptime), length_nat4, length_nat1,
    List.length_cons, List.length_nil]

theorem length_term_le (i : SlotIx) (t : Term) (bl : Option Nat) (w up : Nat) (pl : Option Nat) :
    (t.bytes i bl w up pl).length ≤ 64 := by
  have part := length_classPart_le t.part pl
  simp only [Term.bytes, List.length_append, length_nat1, length_bytes2, length_nat4, length_optItem_nat1,
    length_optItem_int2, length_optItem_nat4, List.length_cons, List.length_nil]
  omega

theorem length_reefer (r : Reefer) (i : ReeferIx) (gn : Option TermNo) (left : Option Nat) :
    (r.bytes i gn left).length = 61 := by
  delta Reefer.bytes
  simp only [List.length_append, length_bytes3, length_nat1, length_nat4, length_flagByte,
    length_optItem_nat1, length_optItem_int2, length_optItem_byte, length_optItem_bytes2, length_optItem_nat4,
    List.length_cons, List.length_nil]

/-- The data of a reply of at most 48 cells or segments and 120 counters. -/
theorem length_replyData_le (d : ReplyData) (hcells : ∀ k a b c e cs, d = .cells k a b c e cs → cs.length ≤ 48)
    (hsegs : ∀ gs, d = .segs gs → gs.length ≤ 48) (hcounters : ∀ cs, d = .counters cs → cs.length ≤ 120) :
    d.bytes.length ≤ 480 := by
  cases d with
  | empty => exact Nat.zero_le _
  | ident node running up => exact (show 11 ≤ 480 by decide)
  | param v => exact (show 4 ≤ 480 by decide)
  | term i t bl w up pl => exact (length_term_le i t bl w up pl).trans (by decide)
  | head v => exact (length_headView v).trans_le (by decide)
  | loopTest r => exact (length_loopResult_le r).trans (by decide)
  | cells k a b c e cs =>
    have few := hcells k a b c e cs rfl
    simp only [ReplyData.bytes, List.length_append, length_nat1, length_optItem_nat4, List.length_cons, List.length_nil,
      length_flatMap_const length_cellBytes]
    omega
  | segs gs =>
    have few := hsegs gs rfl
    simp only [ReplyData.bytes, length_flatMap_const length_segBytes]
    omega
  | reeferIndex i => exact (show 3 ≤ 480 by decide)
  | reefer r i gn left => exact (length_reefer r i gn left).trans_le (by decide)
  | purged n => exact (show 4 ≤ 480 by decide)
  | counters cs =>
    have few := hcounters cs rfl
    simp only [ReplyData.bytes, length_flatMap_const length_bytes4]
    omega
  | summary k => exact (show 4 ≤ 480 by decide)

theorem length_ctlFrame_mem (c : CtlFrame) : 2 ≤ c.payload.length ∧ c.payload.length ≤ 17 := by
  cases c with
  | setpoint v => exact (show 2 ≤ 2 ∧ 2 ≤ 17 by decide)
  | order n t => exact (show 2 ≤ 4 ∧ 4 ≤ 17 by decide)
  | linkLost n => exact (show 2 ≤ 3 ∧ 3 ≤ 17 by decide)
  | loopTest p =>
    have length : (CtlFrame.loopTest p).payload.length = 17 := congrArg (· + 1) p.length_toList
    rw [length]
    decide

theorem length_exportRecord (r : ExportRecord) : r.bytes.length = 20 := rfl

theorem length_exportPayload (rs : List ExportRecord) : (exportPayload rs).length = 2 + 20 * rs.length := by
  rw [exportPayload, List.length_cons, List.length_cons, length_flatMap_const length_exportRecord]
  omega

end Lengths

/-! ## What the part sends reads back -/

theorem readFrame_originated {k : FrameKind} {payload : List Byte} (hl : k.lengthOk payload.length = true)
    (hk : k ≠ .meas) : readFrame true (originated k payload) =
      some { kind := k, flags := 0, headIndex := 0, terminal := 0, seq := 0, payload } :=
  readFrame_frameBytes hl (fun e => absurd e hk) 0 0 0 0

theorem readFrame_ctl (c : CtlFrame) : readFrame true (HeadFrame.ctl c).bytes =
    some { kind := .headctl, flags := 0, headIndex := 0, terminal := 0, seq := 0, payload := c.payload } := by
  obtain ⟨low, high⟩ := length_ctlFrame_mem c
  refine readFrame_originated ?_ nofun
  simp only [FrameKind.lengthOk, low, high, decide_true, Bool.and_true]

theorem readFrame_notice (n : Notice) : readFrame true (TrunkFrame.notice n).bytes =
    some { kind := .notice, flags := 0, headIndex := 0, terminal := 0, seq := 0, payload := n.payload } :=
  readFrame_originated (payload := n.payload) rfl nofun

theorem readFrame_exportBatch {rs : List ExportRecord} (h1 : 1 ≤ rs.length) (h24 : rs.length ≤ 24) :
    readFrame true (TrunkFrame.exportBatch rs).bytes =
      some { kind := .exportBatch, flags := 0, headIndex := 0, terminal := 0, seq := 0, payload := exportPayload rs } := by
  refine readFrame_originated ?_ nofun
  simp only [FrameKind.lengthOk, length_exportPayload, Bool.and_eq_true, decide_eq_true_eq]
  omega

theorem readFrame_reply {r : Reply} (hcells : ∀ k a b c d cs, r.data = .cells k a b c d cs → cs.length ≤ 48)
    (hsegs : ∀ gs, r.data = .segs gs → gs.length ≤ 48) (hcounters : ∀ cs, r.data = .counters cs → cs.length ≤ 120) :
    readFrame true (TrunkFrame.reply r).bytes =
      some { kind := .reply, flags := 0, headIndex := 0, terminal := 0, seq := 0, payload := r.payload } := by
  have data := length_replyData_le r.data hcells hsegs hcounters
  have length : r.payload.length = 4 + r.data.bytes.length := by
    rw [Reply.payload, List.length_append]
    rfl
  refine readFrame_originated ?_ nofun
  simp only [FrameKind.lengthOk, length, Bool.and_eq_true, decide_eq_true_eq]
  omega

/-- A forwarded frame reads back as the frame it is. -/
theorem readFrame_forwarded {k : FrameKind} (hk : k = .crane ∨ k = .user) {f : BerthFrame} (hf : f.fits = true) :
    (readFrame true (f.bytes k)).map RawFrame.berth = some f := by
  rw [readFrame_berth hk hf] <;> rfl

/-! ## The bytes of an exported record (Table 11-7) -/

theorem presence_bits (setpoint supply ret gatewayNo segment : Bool) :
    let present : Byte := BitVec.ofNat 8 ((if setpoint then 1 else 0) + (if supply then 2 else 0) +
      (if ret then 4 else 0) + (if gatewayNo then 8 else 0) + (if segment then 16 else 0))
    present.getLsbD 0 = setpoint ∧ present.getLsbD 1 = supply ∧ present.getLsbD 2 = ret ∧
      present.getLsbD 3 = gatewayNo ∧ present.getLsbD 4 = segment ∧ present >>> 5 = 0 := by
  revert setpoint supply ret gatewayNo segment
  decide

theorem flags_bits (compressor defrost : Bool) :
    let flags : Byte := BitVec.ofNat 8 ((if compressor then 1 else 0) + (if defrost then 2 else 0))
    flags.getLsbD 0 = compressor ∧ flags.getLsbD 1 = defrost ∧ flags >>> 2 = 0 := by
  revert compressor defrost
  decide

theorem exportRecord_bytes (r : ExportRecord) : r.bytes =
    bytes3 (BitVec.ofNat 24 r.tag) ++ [r.state.code, r.presence, r.flags] ++ int2 (r.setpoint.getD 0) ++
      int2 (r.supply.getD 0) ++ int2 (r.ret.getD 0) ++ [r.alarm, r.reason.code] ++ bytes2 (r.gatewayNo.getD 0) ++
      [BitVec.ofNat 8 ((r.segment.map Fin.val).getD 0), 0] ++ bytes2 (BitVec.ofNat 16 r.age) := rfl

/-- Settles O49: the tables by their entries, the checks, the frames sent by kind, and the arrivals. -/
theorem linkFramesAreCheckedAndReadBack : Obligations.LinkFramesAreCheckedAndReadBack := by
  refine ⟨?_, readFrame_iff, ?_, ?_, fun s k ok bytes => rfl, fun s ok bytes => rfl⟩
  · intro kinds
    refine ⟨rfl, FrameKind.ofCode_eq_some_iff, fun n => ?_⟩
    simp only [kinds, List.map_cons, List.map_nil, FrameKind.lengthOk, Bool.decide_or, Bool.decide_and, Bool.or_assoc]
  · exact ⟨readFrame_ctl, readFrame_notice, fun rs h1 h24 => readFrame_exportBatch h1 h24, fun f hf =>
      ⟨readFrame_forwarded (.inl rfl) hf, readFrame_forwarded (.inr rfl) hf, readFrame_forwarded (.inl rfl) hf,
        readFrame_forwarded (.inr rfl) hf⟩⟩
  · intro two three four signed
    have htwo (x : BitVec 16) : bytes2 x = two x := bytes2_eq x
    have hthree (x : BitVec 24) : bytes3 x = three x := bytes3_eq x
    have hfour (x : BitVec 32) : bytes4 x = four x := bytes4_eq x
    have hsigned (o : Option Int) : int2 (o.getD 0) = signed o := bytes2_eq _
    refine ⟨⟨fun v => rfl, fun n t => ?_, fun n => ?_, fun p => rfl⟩, ⟨rfl, fun n => ?_⟩,
      ⟨fun rs => rfl, rfl, rfl, fun r => ?_⟩, rfl, fun r => rfl, fun r hcells hsegs hcounters => readFrame_reply hcells hsegs hcounters⟩
    · rw [← htwo]
      rfl
    · rw [← htwo]
      rfl
    · rw [← hfour, ← hfour, ← htwo]
      rfl
    · refine ⟨r.presence, r.flags, presence_bits .., flags_bits .., ?_⟩
      rw [exportRecord_bytes, hthree, hsigned, hsigned, hsigned, htwo, htwo]

end Sys2Proof.Machine
end
